-- ==== Sys2Proof/Word.lean ====
section
/-! DEFINITION. The number types of the PB-740 manual: bytes, samples, frame numbers, break numbers,
addresses, audio frames and the contents of a flash page. -/

namespace Sys2Proof

/-- One byte of a link frame or a flash page. -/
abbrev Byte := BitVec 8

/-- One audio sample: 24 bits of two's complement (chapter 12). -/
abbrev Sample := BitVec 24

/-- A network frame number (Introduction, 5.2): 32 bits, wrapping. -/
abbrev FrameNo := BitVec 32

/-- A break number: 16 bits, compared in serial order (Introduction, 5.2). -/
abbrev BreakNo := BitVec 16

/-- A destination address of the distribution link (chapter 10). -/
abbrev Address := BitVec 32

/-- One audio frame: 192 sample pairs in time order, left then right (chapter 12), so 384 samples. -/
abbrev Audio := List Sample

/-- The samples of one audio frame. -/
def Audio.size : Nat := 384

/-- The silent audio frame. -/
def Audio.silence : Audio := List.replicate Audio.size 0

/-- The contents of one flash page. Table 12-7 gives the leading bytes and says that the rest of a page
reads FFh, except the void mark, whose every byte is 00h. -/
inductive FlashPage where
  | void
  | data (leading : List Byte)
deriving DecidableEq, Repr, Inhabited

end Sys2Proof
end

