-- ==== Sys2Proof/Syntax.lean ====
section
/-! DEFINITION. The commands of the PB-740: one constructor for each row of spec/opcode_table.json.

Operands are the fields that the spec gives the command, at the widths of Tables 12-1 to 12-3, so that every
value a frame can carry, in range or out of it, can be written. A request carries its destination address and
its tag first. -/

namespace Sys2Proof

/-- A stage of a line whose low time is measured (R55: 10 ms on a FIRE line, R210: 1 ms on RESET): its
falling edge, or the moment at which it has stayed low for the whole time. -/
inductive LineStage where
  | falls
  | heldLow
deriving DecidableEq, Repr

/-- What a completed page read brings (Table 9-1): the page as it was last programmed (R134), other contents
(a fault in the flash), or a failure reported by the bank. -/
inductive ReadOutcome where
  | stored
  | other (page : FlashPage)
  | failed
deriving DecidableEq, Repr

/-- Deck A or B of a channel (Introduction, 5.4). -/
inductive DeckId where
  | a
  | b
deriving DecidableEq, Repr

/-- The commands, in the order of spec/opcode_table.json. -/
inductive Instr where
  -- periods, and what comes about in them
  | outputPeriod
  | deckUnderrunAbandon (channel : Fin 4) (deck : DeckId)
  | watchTrip (watch : Fin 5)
  | feedLost
  | scheduleTimerExpiry (channel : Fin 4)
  -- frames of the distribution link other than requests
  | programmeFrame (number : FrameNo) (audio : Audio)
  | splitAnnounce (address : Address) (breakNo : BreakNo) (start length : FrameNo)
  | splitCancel (address : Address) (breakNo : BreakNo) (frame : FrameNo)
  | windowOpen (address : Address) (opens : FrameNo) (closes : Option FrameNo)
  | windowClose (address : Address) (closes : FrameNo)
  | fireEdge (line : Fin 4) (stage : LineStage)
  | segmentFrame (address : Address) (cart : BitVec 16) (offset : BitVec 32) (audio : Audio)
  | badLinkFrame (bytes : List Byte)
  -- requests (Table 12-3)
  | feedSet (address : Address) (tag : BitVec 16) (lossWait : Byte)
  | delaySet (address : Address) (tag : BitVec 16) (delay : BitVec 16)
  | watchSet (address : Address) (tag : BitVec 16) (watch threshold direction : Byte) (window : BitVec 16) (enable : Byte)
  | roWrite (address : Address) (tag : BitVec 16) (channel index : Byte) (breakNo : BreakNo) (flags segue : Byte)
      (itemA second : BitVec 16)
  | roRevoke (address : Address) (tag : BitVec 16) (channel index : Byte)
  | roRead (address : Address) (tag : BitVec 16) (channel index : Byte)
  | roHead (address : Address) (tag : BitVec 16) (channel index : Byte)
  | channelModeInService (address : Address) (tag : BitVec 16) (channel mode : Byte)
  | channelModeBypass (address : Address) (tag : BitVec 16) (channel : Byte)
  | channelSet (address : Address) (tag : BitVec 16) (channel source policy fadeLength padLimit : Byte)
      (overrunGuard : BitVec 32) (silenceFallback fillMode : Byte)
  | channelClear (address : Address) (tag : BitVec 16) (channel : Byte)
  | timerSet (address : Address) (tag : BitVec 16) (channel mode : Byte) (target : FrameNo) (period : BitVec 32)
  | take (address : Address) (tag : BitVec 16) (channel hard : Byte)
  | fillSet (address : Address) (tag : BitVec 16) (channel slot : Byte) (cart : BitVec 16)
  | fillRange (address : Address) (tag : BitVec 16) (channel start stop : Byte)
  | logRead (address : Address) (tag : BitVec 16) (mode count : Byte) (offset : BitVec 32)
  | logSeek (address : Address) (tag : BitVec 16) (sequence : BitVec 32)
  | logRelease (address : Address) (tag : BitVec 16) (sequence : BitVec 32)
  | cartQuery (address : Address) (tag : BitVec 16) (cart : BitVec 16)
  | unitQuery (address : Address) (tag : BitVec 16) (bank : Byte) (first : BitVec 16) (count : Byte)
  | cartDelete (address : Address) (tag : BitVec 16) (cart : BitVec 16)
  | unitErase (address : Address) (tag : BitVec 16) (bank : Byte) (first : BitVec 16) (count : Byte)
  | cartOpen (address : Address) (tag : BitVec 16) (cart : BitVec 16) (bank : Byte) (first count : BitVec 16)
      (length segueOut : BitVec 32)
  | cartClose (address : Address) (tag : BitVec 16) (cart : BitVec 16) (check : BitVec 32)
  | filterSet (address : Address) (tag : BitVec 16) (entry part outputs : Byte) (filterAddress : Address)
  | filterClear (address : Address) (tag : BitVec 16) (entry : Byte)
  | statusQuery (address : Address) (tag : BitVec 16) (clear : Byte)
  | resetPart (address : Address) (tag : BitVec 16)
  | unknownKind (address : Address) (tag : BitVec 16) (kind : BitVec 16)
  -- supply and RESET line
  | powerOn
  | resetLine (stage : LineStage)
  -- media port
  | mediaPortGrant
  | deckReadComplete (outcome : ReadOutcome)
  | readRetriesExhausted
  | scanReadComplete (outcome : ReadOutcome)
  | programTransferEnd
  | programComplete (bank : Fin 4) (success : Bool)
  | eraseCommandEnd
  | eraseComplete (bank : Fin 4) (success : Bool)
  -- return link
  | answerFrameStart
  | answerFrameComplete
  | reportFrameStart
  | reportFrameComplete
  | carrierLoss
  | carrierReturn
  -- lines returning high
  | fireLineReturnHigh (line : Fin 4)
  | resetLineReturnHigh
deriving DecidableEq, Repr

end Sys2Proof
end

