-- ==== Sys2Proof/Config.lean ====
section
/-! DEFINITION. What the maker fixes for one part, the constants of the manual, and the free values: values the
manual leaves open, as constants without a body. -/

namespace Sys2Proof

/-- The part's factory serial address (R189), "a number from 00000000h to FFFFFFFEh, given to the part when it
is made". No body: nothing can be proved from its value (log 10). -/
opaque Config.serial : Fin 0xFFFFFFFF

/-- The serial address as an address of the distribution link. -/
def Config.serialAddress : Address := BitVec.ofNat 32 Config.serial.val

/-- Free value: whether a page program in flight at a part reset, other than a cart header's, completed on its bank, or was cut
short (R169, R171; log 9). -/
opaque Config.programCompleted : Nat → Bool

/-- Free value: how a unit erase in flight ended on its bank at a part reset (R148, R171): 0 the unit is erased; 1 page 0 holds
the void mark, 2 page 0 is blank, the other pages free; 3 the program of the void mark was itself cut short (log 9). -/
opaque Config.cutErase : Nat → Fin 4

/-- Free value: what a page holds after a failed or cut-short operation on it, by the use of the value and the
page number, as far as R138 and R169 leave it open (log 9). -/
opaque Config.freePage : Nat → Nat → FlashPage

/-- The broadcast address (R190). -/
def Config.broadcast : Address := 0xFFFFFFFF#32

/-- The gap limit (R9). -/
def Config.gapLimit : Nat := 8

/-- The prime lead (chapter 4). -/
def Config.primeLead : Nat := 8

/-- The number of answers the answer queue holds (R203). -/
def Config.answerQueueSize : Nat := 16

/-- The records the as-run log holds (R116). -/
def Config.logSize : Nat := 512

/-- The start level and low watermark of a deck buffer (R178). -/
def Config.startLevel : Nat := 24

/-- The level below which a deck guards its bank (R176). -/
def Config.guardLevel : Nat := 40

/-- The fullest buffer that still asks for a page (R172). -/
def Config.refillLevel : Nat := 56

/-- Consecutive underruns at which an item is abandoned (R182). -/
def Config.underrunLimit : Nat := 25

/-- Audio frames of one content page (Table 7-1). -/
def Config.framesPerPage : Nat := 8

/-- Pages of one erase unit, and units of one bank (Table 7-1). -/
def Config.pagesPerUnit : Nat := 64
def Config.unitsPerBank : Nat := 1024

/-- Entries of a break at most (R30). -/
def Config.breakLimit : Nat := 32

end Sys2Proof
end

