-- ==== Sys2Proof/Machine/State.lean ====
section
/-! DEFINITION. The state of the part: every register, table, queue and pin the manual gives its blocks, as plain
data, and its values after a part reset (R211). Each type's docstring names the table or rule it follows. -/

namespace Sys2Proof.Machine

/-- What stops the machine. The manual describes nothing that stops the part, so nothing raises a fault: the type
has no constructor (safe: no behaviour is lost). -/
inductive Fault where
deriving DecidableEq, Repr

/-- What the model has no meaning for. `notModelled`: raised by a dispatch arm that still waits for its meaning
(safe: nothing can be proved of such a command); no arm of this model raises it. -/
inductive Refusal where
  | notModelled (mnemonic : String)
deriving DecidableEq, Repr

/-! ### Programme Timebase and Feed Monitor (chapter 1) -/

/-- One delay line slot that holds a frame (Table 1-1). -/
structure Slot where
  number : FrameNo
  audio : Audio
  concealed : Bool
deriving DecidableEq, Repr

/-- The Programme Timebase: P and the coming position (R1, R2), the delay setting D and the delay line. -/
structure Timebase where
  position : Option FrameNo
  nextPosition : Option FrameNo
  delay : Nat
  line : Vector (Option Slot) 512
deriving DecidableEq, Repr

/-- Feed states (Table 1-2). -/
inductive FeedState where
  | noLock | locked | silent | lost
deriving DecidableEq, Repr

/-- Causes of a feed break (Table 1-4). -/
inductive BreakCause where
  | lost | silent | resync
deriving DecidableEq, Repr

/-- The feed break record (Table 1-4). -/
structure FeedBreak where
  cause : BreakCause
  point : FrameNo
  resume : Option FrameNo
deriving DecidableEq, Repr

/-- The Feed Monitor (Table 1-2). -/
structure Feed where
  state : FeedState
  last : Option FrameNo
  idle : Nat
  lossWait : Nat
  brk : Option FeedBreak
deriving DecidableEq, Repr

/-- Direction of a level watch (Table 1-5). -/
inductive Direction where
  | quiet | loud
deriving DecidableEq, Repr

/-- A level watch: its settings (Table 1-5), its state and its run. `first` is present while the run count is not 0. -/
structure Watch where
  threshold : Nat
  direction : Direction
  window : Nat
  enabled : Bool
  tripped : Bool
  run : Nat
  first : Option FrameNo
  extreme : Nat
deriving DecidableEq, Repr

/-! ### Running order rings (chapter 2) -/

inductive Owner where
  | loader | channel
deriving DecidableEq, Repr

inductive Segue where
  | cut | overlap | fade
deriving DecidableEq, Repr

/-- Item A or item B of an entry. -/
inductive Part where
  | a | b
deriving DecidableEq, Repr

/-- Final results of an item (Table 2-4), in the order of their codes (Table 12-5). -/
inductive Result where
  | none | aired | truncated | dropped | notReady | cutOff | cancelled | skipped | mediaFault | aborted | cleared | revoked
deriving DecidableEq, Repr

/-- What an entry holds of one item: its cart (0: absent), result, provisional flag, aired frames (Table 2-1), and
whether the item is a holder of its cart (R51). -/
structure Item where
  cart : Fin 1024
  result : Result
  provisional : Bool
  aired : Nat
  held : Bool
deriving DecidableEq, Repr

/-- A running order entry (Table 2-1). `chainTo` is the next index; it is present when the entry is chained. -/
structure Entry where
  owner : Owner
  breakNo : BreakNo
  first : Bool
  last : Bool
  endOfRing : Bool
  chained : Bool
  droppable : Bool
  segue : Segue
  itemA : Item
  itemB : Item
  chainTo : Option (Fin 128)
  start : Option FrameNo
deriving DecidableEq, Repr

/-- One item of the ring: its entry's index and A or B. -/
structure ItemRef where
  index : Fin 128
  part : Part
deriving DecidableEq, Repr

/-! ### Insertion channels (chapters 3 to 5) -/

/-- Channel states (Table 3-2), in the order of their codes. -/
inductive ChannelState where
  | bypass | pass | split | brk | loc | fallback
deriving DecidableEq, Repr

inductive Source where
  | cue | line | timer | command
deriving DecidableEq, Repr

inductive Policy where
  | passNetwork | fill
deriving DecidableEq, Repr

inductive FillMode where
  | onePass | rotate
deriving DecidableEq, Repr

/-- The seven settings of a channel (Table 3-3). -/
structure Settings where
  source : Source
  policy : Policy
  fade : Nat
  pad : Nat
  guard : Nat
  silenceFallback : Bool
  fillMode : FillMode
deriving DecidableEq, Repr

inductive Inclusion where
  | included | dropped | notReady
deriving DecidableEq, Repr

/-- One item of a plan (Table 4-1): its reference, cart, inclusion, applied segue, offset, length and segue-out. -/
structure PlanItem where
  ref : ItemRef
  cart : Fin 1024
  inclusion : Inclusion
  segue : Segue
  offset : Nat
  length : Nat
  segueOut : Nat
deriving DecidableEq, Repr

/-- The armed plan (Table 4-1). `wantFill` marks the candidate that R81 has called for and that is still to be chosen. -/
structure Plan where
  breakNo : BreakNo
  start : FrameNo
  stop : FrameNo
  length : FrameNo
  items : List PlanItem
  planned : Nat
  primed : Bool
  wantFill : Bool
deriving DecidableEq, Repr

/-- The pending announce (R73): c, S and L as carried. -/
structure Announce where
  breakNo : BreakNo
  start : FrameNo
  length : FrameNo
deriving DecidableEq, Repr

inductive SplitPhase where
  | items | fill | pad | closing
deriving DecidableEq, Repr

/-- The split context (Table 4-2), with the pass position and exhausted mark of R102. `items` are the included items
still to be loaded, on a deck or sounding; `wantFill` marks the candidate that R85 or R86 has called for. -/
structure Split where
  breakNo : BreakNo
  start : FrameNo
  stop : FrameNo
  length : FrameNo
  planned : Nat
  items : List PlanItem
  phase : SplitPhase
  rejoin : Option FrameNo
  fadeStart : FrameNo
  pass : Fin 16
  exhausted : Bool
  wantFill : Bool
deriving DecidableEq, Repr

/-- How far a held window's preparation has come (R64): not reached O - 8; the head was CHANNEL-owned there and a ring item is
prepared; the head was LOADER-owned and a fill item is called for and still to be chosen; the fill item was prepared, or fill is no
more wanted before O (R103); or nothing was to be prepared beside a sounding fill item. -/
inductive WindowStage where
  | waiting | ring | call | fill | nothing
deriving DecidableEq, Repr

/-- The held window (R63): open frame O and optional close frame C. -/
structure HeldWindow where
  opens : FrameNo
  closes : Option FrameNo
  stage : WindowStage
deriving DecidableEq, Repr

/-- The closing fade of a free-length break: none, of the overrun guard (R61), or of a TAKE hard (R62) with the output
periods left and whether a fade sounds. -/
inductive BreakClosing where
  | none
  | guard
  | take (left : Nat) (fading : Bool)
deriving DecidableEq, Repr

/-- The break context (Table 3-1): break number, entries gathered and not yet returned, start position, guard point and
closing fade; `ran` counts the output periods since the start position, `fromPass` says that the network is still carried
until the first item sounds (R59, R108). -/
structure BreakCtx where
  breakNo : BreakNo
  entries : List (Fin 128)
  start : Option FrameNo
  ran : Nat
  guardPoint : Option FrameNo
  closing : BreakClosing
  fromPass : Bool
deriving DecidableEq, Repr

/-- The window context (Table 3-1): open frame, optional close frame as carried, and the effective close frame C' (R66),
present once the closing fade has begun. -/
structure WindowCtx where
  opens : FrameNo
  closes : Option FrameNo
  ends : Option FrameNo
deriving DecidableEq, Repr

/-- The schedule timer when on (R56). -/
structure Timer where
  target : FrameNo
  period : Nat
deriving DecidableEq, Repr

/-- The fill table (Table 5-1). -/
structure FillTable where
  slots : Vector (Fin 1024) 16
  start : Fin 16
  stop : Fin 16
  cursor : Fin 16
  wait : Bool
deriving DecidableEq, Repr

/-! ### Decks (chapter 9) and fade ramps (chapter 5) -/

inductive DeckState where
  | idle | priming | ready | playing | fading
deriving DecidableEq, Repr

/-- A deck's item: a ring item or a fill item with its slot (Table 9-4). -/
inductive DeckItem where
  | ring (ref : ItemRef)
  | fill (slot : Fin 16)
deriving DecidableEq, Repr

/-- What a deck copies from the catalog entry at load (R177). -/
structure DeckSource where
  bank : Fin 4
  firstUnit : Nat
  length : Nat
  segueOut : Nat
deriving DecidableEq, Repr

/-- Kinds of fade ramp (Table 5-5): segue fade, fallback exit fade, and the closing fades. -/
inductive RampKind where
  | segue | exit | closing
deriving DecidableEq, Repr

/-- A fade ramp (Table 5-4): kind, length G and output periods elapsed. -/
structure Ramp where
  kind : RampKind
  length : Nat
  elapsed : Nat
deriving DecidableEq, Repr

/-- How a fill candidate starts (R103): when its deck is READY (opening fill), at the next output period at which nothing
sounds (following, or called by R86), or at the period that Chapter 3 or 4 names (R64, R81, R85). -/
inductive StartMode where
  | whenReady | following | named
deriving DecidableEq, Repr

/-- A read in flight for a deck: content page and the load number it was tagged with (R184). -/
structure DeckRead where
  page : Nat
  load : BitVec 32
deriving DecidableEq, Repr

/-- A deck (Table 9-4) with its fade ramps (Table 5-4) and what a loaded item carries: its due frames (R40), its place in
succession, and for a fill item its aired frames, start position (R106) and range change mark (R105). `unready` holds within the
output period at which the item began to sound with its deck not READY (R52, R185). -/
structure Deck where
  state : DeckState
  item : Option DeckItem
  cart : Fin 1024
  source : Option DeckSource
  nextPage : Nat
  buffer : List Audio
  load : BitVec 32
  read : Option DeckRead
  retries : Nat
  underruns : Nat
  consecutive : Nat
  allowanceUsed : Bool
  ramp : Option Ramp
  closing : Option Ramp
  due : Nat
  order : Nat
  mode : StartMode
  rangeMark : Bool
  fillAired : Nat
  fillStart : Option FrameNo
  unready : Bool
deriving DecidableEq, Repr

/-- An insertion channel: Table 3-1, its ring and head (R23, R27), its fill table (R97) and its decks. `stamp` numbers loads
and starts in their order, and `lastStart` is the number of the latest start (R52, R114). -/
structure Channel where
  state : ChannelState
  settings : Settings
  ring : Vector Entry 128
  head : Fin 128
  plan : Option Plan
  pending : Option Announce
  lastTaken : Option BreakNo
  held : Option HeldWindow
  split : Option Split
  brk : Option BreakCtx
  window : Option WindowCtx
  lastRing : Option ItemRef
  timer : Option Timer
  fill : FillTable
  deckA : Deck
  deckB : Deck
  stamp : Nat
  lastStart : Nat
deriving DecidableEq, Repr

/-- Origins of an output frame (Table 5-4), in the order of their codes. -/
inductive Origin where
  | network | insert | mix | fill | silence
deriving DecidableEq, Repr

/-- An output frame with its status (R114). -/
structure OutFrame where
  audio : Audio
  position : FrameNo
  origin : Origin
  onAir : Fin 1024
  state : ChannelState
deriving DecidableEq, Repr

/-- An output composer (Table 5-4; the ramps stand in the decks) with the frame last emitted on its link. -/
structure Composer where
  origin : Origin
  onAir : Fin 1024
  emitted : Option OutFrame
deriving DecidableEq, Repr

/-! ### The as-run log (chapter 6) -/

/-- Record kinds in the order of their codes (section 12.4). -/
inductive RecordKind where
  | none | restart | scanDone | item | breakStart | breakEnd | splitUnplanned | splitCancelled | cueIgnored
  | planAbandoned | ringGap | triggerIgnored | feedLost | feedSilent | feedRestored | feedResync
  | fallbackStart | fallbackEnd | windowStart | windowEnd | watchTrip | watchClear | cartTorn | unitBad | timersOff
deriving DecidableEq, Repr

/-- Causes of a part reset (R210). -/
inductive ResetCause where
  | power | line | request
deriving DecidableEq, Repr

/-- The result or reason of a record (Table 6-2, section 12.4). -/
inductive Reason where
  | result (r : Result)
  | restart (c : ResetCause)
  | endNormal | endCancel | endGuard | endTake
  | policy (p : Policy)
  | cueLate | cueShort | cueConflict | cueSource | cueState
  | gap | limit
  | busy | empty
  | frame | feed | set
  | tornScan | tornOverflow | tornProgram | tornClose
  | badErase | badProgram
deriving DecidableEq, Repr

/-- An as-run record (Table 6-2). A ring index carries A or B where the record concerns one item. -/
structure Record where
  sequence : BitVec 32
  kind : RecordKind
  position : FrameNo
  channel : Option (Fin 4) := none
  watch : Option (Fin 5) := none
  breakNo : Option BreakNo := none
  ring : Option (Fin 128 × Option Part) := none
  fillSlot : Option (Fin 16) := none
  cart : Option (Fin 1024) := none
  reason : Option Reason := none
  frames : Option (BitVec 32) := none
  detail : Option (BitVec 32) := none
deriving DecidableEq, Repr

/-- The as-run log (Table 6-1). The points are plain numbers: they do not wrap (R116, R121). -/
structure Log where
  slots : Vector (Option Record) 512
  release : Nat
  send : Nat
  write : Nat
  cursor : BitVec 32
  overrun : Bool
  overruns : Nat
deriving DecidableEq, Repr

/-! ### The cart store (chapters 7 and 8) -/

/-- Unit map states (Table 7-5). -/
inductive UnitState where
  | erased | erasing | claimed | dirty | bad
deriving DecidableEq, Repr

/-- Catalog states (Table 7-6). -/
inductive CartState where
  | empty | loading | ready | torn
deriving DecidableEq, Repr

/-- A run of units (R134). -/
structure Run where
  bank : Fin 4
  first : Nat
  count : Nat
deriving DecidableEq, Repr

/-- Length and segue-out of a cart. -/
structure CartLength where
  length : Nat
  segueOut : Nat
deriving DecidableEq, Repr

/-- A catalog entry (Table 7-6) but for its hold count, which stands in Store.holds; `download` is the download number
under which the cart was opened, by which R162 tells a TORN cart's own program. -/
structure CatalogEntry where
  state : CartState
  run : Option Run
  size : Option CartLength
  check : Option (BitVec 32)
  download : Option (BitVec 32)
deriving DecidableEq, Repr

inductive StagingState where
  | empty | filling | pending | programming
deriving DecidableEq, Repr

/-- A staging page (Table 8-1). -/
structure Staging where
  state : StagingState
  page : Nat
  frames : List Audio
deriving DecidableEq, Repr

inductive StagingId where
  | x | y
deriving DecidableEq, Repr

/-- The three kinds of program (chapter 8): unit header, content page (and the staging page it comes from), cart header. -/
inductive ProgramKind where
  | unitHeader
  | content (staging : StagingId)
  | cartHeader
deriving DecidableEq, Repr

/-- A program: its kind, unit number, unit ordinal in the run, page within the unit and the page to be written. -/
structure Program where
  kind : ProgramKind
  unit : Nat
  ordinal : Nat
  page : Nat
  contents : FlashPage
deriving DecidableEq, Repr

inductive DownloadPhase where
  | receiving | closing
deriving DecidableEq, Repr

/-- The tag and check of a waiting CART_CLOSE. -/
structure CloseWait where
  tag : BitVec 16
  check : BitVec 32
deriving DecidableEq, Repr

/-- The download context (Table 8-1) and the content pages programmed so far (R165). -/
structure Download where
  number : BitVec 32
  cart : Fin 1024
  phase : DownloadPhase
  expected : Nat
  check : BitVec 32
  errors : Nat
  nextPage : Nat
  x : Staging
  y : Staging
  queue : List Program
  inFlight : Option Program
  close : Option CloseWait
  programmed : Nat
deriving DecidableEq, Repr

/-- The erase job (Table 7-7). -/
structure EraseJob where
  tag : BitVec 16
  bank : Fin 4
  units : List Nat
  inFlight : Option Nat
  erased : Nat
  failed : Nat
deriving DecidableEq, Repr

/-- A scan read: a unit within the bank, and page 0 or page 1 of it (Table 7-8). -/
structure ScanRead where
  unit : Nat
  page1 : Bool
deriving DecidableEq, Repr

/-- Scan progress of one bank: its next read, if any, and that read's attempt count. -/
structure BankScan where
  read : Option ScanRead
  attempt : Nat
deriving DecidableEq, Repr

/-- Classes of page 0 (R136). A valid unit header carries its cart and ordinal. -/
inductive UnitClass where
  | blank | void | bad | damaged
  | header (cart : Fin 1024) (ordinal : Nat)
deriving DecidableEq, Repr

/-- The fields of a valid cart header (Table 7-4). -/
structure CartHeader where
  length : Nat
  segueOut : Nat
  check : BitVec 32
  count : Nat
deriving DecidableEq, Repr

/-- Scan progress (Table 7-8). `done` is the scan state DONE. `headers` lists the valid cart headers by unit number. -/
structure Scan where
  done : Bool
  banks : Vector BankScan 4
  classes : Vector (Option UnitClass) 4096
  headers : List (Nat × CartHeader)
deriving DecidableEq, Repr

/-- The Cart Store Controller: unit map (no states during the scan), catalog, hold counts, download, erase job, scan. -/
structure Store where
  map : Vector (Option UnitState) 4096
  catalog : Vector CatalogEntry 1024
  holds : Vector Nat 1024
  download : Option Download
  downloadNumber : BitVec 32
  job : Option EraseJob
  scan : Scan
deriving DecidableEq, Repr

/-! ### Media port (chapter 9) -/

/-- The transaction that holds the port (Table 9-1). A deck read names its deck, bank, page and load number and whether it
used the deck's refill allowance. -/
inductive Transaction where
  | deckRead (channel : Fin 4) (deck : DeckId) (bank : Fin 4) (page : Nat) (load : BitVec 32) (allowance : Bool)
  | scanRead (bank : Fin 4)
  | program (bank : Fin 4)
  | erase (bank : Fin 4)
deriving DecidableEq, Repr

/-- What keeps a bank busy: a read, a program of a cart's download with its tag (R161), or the erase of a unit number. -/
inductive BankOp where
  | read
  | program (p : Program) (cart : Fin 1024) (tag : BitVec 32)
  | erase (unit : Nat)
deriving DecidableEq, Repr

/-- The Media Port Arbiter (Table 9-2). -/
structure Arbiter where
  port : Option Transaction
  banks : Vector (Option BankOp) 4
  deckPointer : Fin 8
  scanPointer : Fin 4
deriving DecidableEq, Repr

/-! ### Link Intake (chapter 10) -/

/-- A site filter entry in use (Table 10-2). -/
structure FilterEntry where
  address : Address
  part : Bool
  outputs : BitVec 4
deriving DecidableEq, Repr

/-- Link Intake: site filter table and link error count. -/
structure Intake where
  filter : Vector (Option FilterEntry) 16
  linkErrors : Nat
deriving DecidableEq, Repr

/-! ### Return link (chapter 11) -/

/-- Result codes (Table 11-2), in the order of their codes. -/
inductive ResultCode where
  | done | busy | owned | held | state | range | badField | notErased | scanning | wrongSource | empty | torn | unknownKind
deriving DecidableEq, Repr

/-- Download progress in a CART_QUERY answer (R165). -/
structure Progress where
  phase : DownloadPhase
  expected : Nat
  errors : Nat
  programmed : Nat
deriving DecidableEq, Repr

/-- The three points of the log as answers carry them. -/
structure Points where
  release : Nat
  send : Nat
  write : Nat
deriving DecidableEq, Repr

/-- The STATUS_QUERY payload (Table 11-5). -/
structure Status where
  feed : FeedState
  position : FrameNo
  channels : List ChannelState
  scanDone : Bool
  points : Points
  overruns : Nat
  linkErrors : Nat
  answerLost : Bool
  overrun : Bool
deriving DecidableEq, Repr

/-- Answer payloads (Table 12-4). -/
inductive Payload where
  | empty
  | ringEntry (entry : Entry) (head : Fin 128)
  | cart (entry : CatalogEntry) (holds : Nat) (progress : Option Progress)
  | units (states : List (Option UnitState × Fin 1024))
  | erase (erased failed : Nat)
  | close (cart : Fin 1024) (segments errors : Nat)
  | logRead (cursor : BitVec 32) (points : Points) (records : List Record)
  | logSeek (cursor : BitVec 32) (points : Points)
  | logRelease (points : Points)
  | filter (entry : Fin 16) (contents : FilterEntry)
  | status (s : Status)
deriving DecidableEq, Repr

/-- An answer (Table 11-1). -/
structure Answer where
  tag : BitVec 16
  kind : BitVec 16
  code : ResultCode
  payload : Payload
deriving DecidableEq, Repr

/-- The frame in flight on the return link (Table 11-4): the oldest answer, or a copy of one record. -/
inductive ReturnFrame where
  | answer
  | report (r : Record)
deriving DecidableEq, Repr

/-- The Return Link Transmitter (Table 11-4). -/
structure ReturnLink where
  queue : List Answer
  inFlight : Option ReturnFrame
  carrier : Bool
  answerLost : Bool
deriving DecidableEq, Repr

/-! ### Lines -/

/-- A contact input or the RESET line: high, low with its wait running, or low with nothing more to give until it returns
high (after its event, or low at a part reset). -/
inductive Line where
  | high | waiting | spent
deriving DecidableEq, Repr

structure Lines where
  fire : Vector Line 4
  reset : Line
deriving DecidableEq, Repr

/-! ### The part -/

/-- The machine: the blocks of Table I-2, the media store behind the port (page number and page, in the canonical form of
`Flash.wf`), the lines, and the model's own queue of commands and counter of free values. -/
structure State where
  pending : List Instr
  time : Timebase
  feed : Feed
  watches : Vector Watch 5
  channels : Vector Channel 4
  outputs : Vector Composer 4
  log : Log
  store : Store
  flash : List (Nat × FlashPage)
  arbiter : Arbiter
  intake : Intake
  ret : ReturnLink
  lines : Lines
  fresh : Nat
deriving DecidableEq, Repr

/-! ### Values after a part reset -/

/-- Table 1-2 and section 1.2. -/
def Timebase.reset : Timebase :=
  { position := none, nextPosition := none, delay := 250, line := Vector.replicate 512 none }

/-- Table 1-2. -/
def Feed.reset : Feed :=
  { state := .noLock, last := none, idle := 0, lossWait := 25, brk := none }

/-- Table 1-5. -/
def Watch.reset : Watch :=
  { threshold := 60, direction := .quiet, window := 2500, enabled := true, tripped := false, run := 0, first := none,
    extreme := 0 }

/-- An absent item (Table 2-1). -/
def Item.absent : Item :=
  { cart := 0, result := .none, provisional := false, aired := 0, held := false }

/-- Table 2-1, last column. -/
def Entry.reset : Entry :=
  { owner := .loader, breakNo := 0, first := false, last := false, endOfRing := false, chained := false,
    droppable := false, segue := .cut, itemA := Item.absent, itemB := Item.absent, chainTo := none, start := none }

/-- Table 3-3. -/
def Settings.reset : Settings :=
  { source := .cue, policy := .passNetwork, fade := 16, pad := 12, guard := 45000, silenceFallback := true,
    fillMode := .onePass }

/-- Table 5-1. -/
def FillTable.reset : FillTable :=
  { slots := Vector.replicate 16 0, start := 0, stop := 15, cursor := 0, wait := false }

/-- Table 9-4. -/
def Deck.reset : Deck :=
  { state := .idle, item := none, cart := 0, source := none, nextPage := 0, buffer := [], load := 0, read := none,
    retries := 0, underruns := 0, consecutive := 0, allowanceUsed := false, ramp := none, closing := none, due := 0,
    order := 0, mode := .whenReady, rangeMark := false, fillAired := 0, fillStart := none, unready := false }

/-- R45 and Table 3-1. -/
def Channel.reset : Channel :=
  { state := .bypass, settings := Settings.reset, ring := Vector.replicate 128 Entry.reset, head := 0, plan := none,
    pending := none, lastTaken := none, held := none, split := none, brk := none, window := none, lastRing := none,
    timer := none, fill := FillTable.reset, deckA := Deck.reset, deckB := Deck.reset, stamp := 0, lastStart := 0 }

/-- Table 5-4. -/
def Composer.reset : Composer :=
  { origin := .silence, onAir := 0, emitted := none }

/-- The RESTART record (R117): cause, serial address, position 0, sequence number 1. -/
def Record.restart (c : ResetCause) : Record :=
  { sequence := 1, kind := .restart, position := 0, reason := some (.restart c), detail := some Config.serialAddress }

/-- The log after a part reset: emptied, then RESTART in slot 1 (R117, Table 6-1). -/
def Log.afterReset (c : ResetCause) : Log :=
  { slots := (Vector.replicate 512 none).set 1 (some (Record.restart c)), release := 1, send := 1, write := 2, cursor := 1,
    overrun := false, overruns := 0 }

/-- An EMPTY catalog entry (R140). -/
def CatalogEntry.empty : CatalogEntry :=
  { state := .empty, run := none, size := none, check := none, download := none }

/-- Table 7-8: SCANNING, each bank about to read page 0 of unit 0. -/
def Scan.start : Scan :=
  { done := false, banks := Vector.replicate 4 { read := some { unit := 0, page1 := false }, attempt := 1 },
    classes := Vector.replicate 4096 none, headers := [] }

/-- R150: catalog EMPTY, no map states, no download, no erase job, the scan begun. -/
def Store.reset : Store :=
  { map := Vector.replicate 4096 none, catalog := Vector.replicate 1024 CatalogEntry.empty,
    holds := Vector.replicate 1024 0, download := none, downloadNumber := 0, job := none, scan := Scan.start }

/-- Table 9-2. -/
def Arbiter.reset : Arbiter :=
  { port := none, banks := Vector.replicate 4 none, deckPointer := 7, scanPointer := 3 }

/-- R189: entry 0 holds the serial address with target PART, entries 1 to 15 are empty; error count 0 (R188). -/
def Intake.reset : Intake :=
  { filter := (Vector.replicate 16 none).set 0 (some { address := Config.serialAddress, part := true, outputs := 0 }),
    linkErrors := 0 }

/-- Table 11-4; the carrier is taken from the lane. -/
def ReturnLink.afterReset (carrier : Bool) : ReturnLink :=
  { queue := [], inFlight := none, carrier := carrier, answerLost := false }

/-- The part after a part reset with the cause, over what a reset does not reach: the waiting commands, the media store,
the lane and the lines (R211). -/
def State.afterReset (c : ResetCause) (pending : List Instr) (flash : List (Nat × FlashPage)) (carrier : Bool)
    (lines : Lines) (fresh : Nat) : State :=
  { pending := pending, time := Timebase.reset, feed := Feed.reset, watches := Vector.replicate 5 Watch.reset,
    channels := Vector.replicate 4 Channel.reset, outputs := Vector.replicate 4 Composer.reset,
    log := Log.afterReset c, store := Store.reset, flash := flash, arbiter := Arbiter.reset, intake := Intake.reset,
    ret := ReturnLink.afterReset carrier, lines := lines, fresh := fresh }

/-- The part right after the reset of a power-on. DESIGN CHOICE (unsafe, log 7 and 8): every line is high, the return
lane carries, and the media store is blank. -/
def State.reset : State :=
  State.afterReset .power [] [] true { fire := Vector.replicate 4 .high, reset := .high } 0

end Sys2Proof.Machine
end

