-- ==== Sys2Proof/Machine/Operands.lean ====
section
/-! DEFINITION. Operand forms: serial order, the fields of requests with their ranges and codes, addresses and their
targets, content page placement, and the items of a ring entry. -/

namespace Sys2Proof.Machine

/-! ### Serial order (Introduction, 5.2) -/

/-- "A frame number a is after a frame number b when (a - b) mod 2^32 lies in 1 to 2^31 - 1"; the same over any width. -/
def isAfter {w : Nat} (a b : BitVec w) : Bool :=
  decide (1 ≤ (a - b).toNat) && decide ((a - b).toNat < 2 ^ (w - 1))

def atOrAfter {w : Nat} (a b : BitVec w) : Bool := decide (a = b) || isAfter a b

def isBefore {w : Nat} (a b : BitVec w) : Bool := isAfter b a

/-- A difference of frame numbers read as a signed number. -/
def signedDiff {w : Nat} (a b : BitVec w) : Int := (a - b).toInt

/-- A count of frames as a frame number, for sums mod 2^32. -/
def frames (n : Nat) : FrameNo := BitVec.ofNat 32 n

/-! ### Fields of requests: ranges and codes (Table 12-3, R215) -/

/-- A field that numbers one of n things. -/
def field (n x : Nat) : Option (Fin n) := if h : x < n then some ⟨x, h⟩ else none

/-- A field that lies in lo to hi. -/
def inRange (lo hi x : Nat) : Bool := decide (lo ≤ x) && decide (x ≤ hi)

/-- R197, Table 10-4: the length of a SPLIT_ANNOUNCE is 1 to 2^31 - 1. -/
def announceLength (length : FrameNo) : Bool := inRange 1 0x7FFFFFFF length.toNat

/-- "Flag and switch bytes read 0 as no or off and 1 as yes or on"; any other value has no code. -/
def switch (b : Byte) : Option Bool :=
  if b = 0 then some false else if b = 1 then some true else none

def segueOf (b : Byte) : Option Segue :=
  if b = 0 then some .cut else if b = 1 then some .overlap else if b = 2 then some .fade else none

def sourceOf (b : Byte) : Option Source :=
  if b = 0 then some .cue else if b = 1 then some .line else if b = 2 then some .timer
  else if b = 3 then some .command else none

def policyOf (b : Byte) : Option Policy :=
  if b = 0 then some .passNetwork else if b = 1 then some .fill else none

def fillModeOf (b : Byte) : Option FillMode :=
  if b = 0 then some .onePass else if b = 1 then some .rotate else none

def directionOf (b : Byte) : Option Direction :=
  if b = 0 then some .quiet else if b = 1 then some .loud else none

/-- Request kinds (Table 12-3) with the sizes of their field blocks. -/
def requestKinds : List (BitVec 16 × Nat) :=
  [(0x0001, 1), (0x0002, 2), (0x0003, 6), (0x0004, 10), (0x0005, 2), (0x0006, 2), (0x0007, 2), (0x0008, 2), (0x0009, 11)] ++
  [(0x000A, 1), (0x000B, 10), (0x000C, 2), (0x000D, 4), (0x000E, 3), (0x000F, 6), (0x0010, 4), (0x0011, 4), (0x0012, 2)] ++
  [(0x0013, 4), (0x0014, 2), (0x0015, 4), (0x0016, 16), (0x0017, 6), (0x0018, 8), (0x0019, 1), (0x001A, 1), (0x001B, 0)]

/-- The field block size of a request kind, if Table 12-3 lists it. -/
def blockSize (kind : BitVec 16) : Option Nat :=
  (requestKinds.find? (fun k => k.1 == kind)).map (·.2)

/-! ### Targets (R190) -/

/-- A target: the part flag and the output set. -/
structure Target where
  part : Bool
  outputs : BitVec 4
deriving DecidableEq, Repr

/-- R190: the broadcast address reaches the part and all four outputs; any other address reaches the combination of the
targets of the entries in use that hold it, and an address that matches none reaches nothing. -/
def Intake.resolve (t : Intake) (a : Address) : Target :=
  if a = Config.broadcast then { part := true, outputs := 0xF#4 }
  else t.filter.toList.foldl
    (fun acc e => match e with
      | some e => if e.address = a then { part := acc.part || e.part, outputs := acc.outputs ||| e.outputs } else acc
      | none => acc)
    { part := false, outputs := 0 }

/-- Output n is in the set. -/
def Target.hasOutput (t : Target) (n : Fin 4) : Bool := t.outputs.getLsbD n.val

/-! ### Places in the media store (R134, R135) -/

/-- R135: the unit ordinal and page of content page j. -/
def contentPlace (j : Nat) : Nat × Nat :=
  if j ≤ 61 then (0, j + 2) else (1 + (j - 62) / 63, 1 + (j - 62) % 63)

/-- The frames a run of u units holds at most (R135). -/
def runCapacity (u : Nat) : Nat := (63 * u - 1) * 8

/-- A unit by its number, bank × 1024 + unit. -/
def unitNumber (bank : Fin 4) (unit : Nat) : Nat := bank.val * Config.unitsPerBank + unit

/-- A page of a unit, numbered over the whole store. -/
def pageNumber (unit page : Nat) : Nat := unit * Config.pagesPerUnit + page

/-! ### Items of an entry (R23) -/

def Entry.item (e : Entry) : Part → Item
  | .a => e.itemA
  | .b => e.itemB

def Entry.setItem (e : Entry) (p : Part) (i : Item) : Entry :=
  match p with
  | .a => { e with itemA := i }
  | .b => { e with itemB := i }

def Item.present (i : Item) : Bool := decide (i.cart ≠ 0)

/-- A result is final when it is not NONE and not provisional (R41). -/
def Item.final (i : Item) : Bool := decide (i.result ≠ .none) && !i.provisional

/-- Every present item of the entry has a final result (R43, step 4). -/
def Entry.allFinal (e : Entry) : Bool :=
  (!e.itemA.present || e.itemA.final) && (!e.itemB.present || e.itemB.final)

/-- R78: the own segue of item A is its entry's; of item B, CUT when A is present and the entry's when A is absent. -/
def Entry.ownSegue (e : Entry) : Part → Segue
  | .a => e.segue
  | .b => if e.itemA.present then .cut else e.segue

/-- The present items of entry i in order A, B. -/
def Entry.refs (e : Entry) (i : Fin 128) : List ItemRef :=
  (if e.itemA.present then [⟨i, .a⟩] else []) ++ (if e.itemB.present then [⟨i, .b⟩] else [])

/-- R26: the successor of entry i. -/
def Entry.successor (e : Entry) (i : Fin 128) : Fin 128 :=
  match e.chained, e.chainTo with
  | true, some j => j
  | _, _ => if e.endOfRing then 0 else i + 1

/-- The head is a break when its entry is CHANNEL-owned and has first-of-break (R28). -/
def Entry.startsBreak (e : Entry) : Bool := decide (e.owner = .channel) && e.first

end Sys2Proof.Machine
end

