-- ==== Sys2Proof/Machine/Wire.lean ====
section
/-! DEFINITION. Bytes: the check function (R213), audio and numbers as bytes, flash pages (Table 12-7), as-run records
(Table 12-6), answer payloads (Tables 12-4 and 12-5), return link frames and output frames (sections 12.3, 12.5). -/

namespace Sys2Proof.Machine

/-! ### Numbers and audio -/

/-- A number as n bytes, "most significant byte first". -/
def bytesOf : Nat → Nat → List Byte
  | 0, _ => []
  | n + 1, x => bytesOf n (x / 256) ++ [BitVec.ofNat 8 x]

/-- The number that bytes spell, most significant first. -/
def numberOf (l : List Byte) : Nat := l.foldl (fun acc b => acc * 256 + b.toNat) 0

/-- "Each sample 3 bytes of two's complement". -/
def audioBytes (a : Audio) : List Byte := a.flatMap (fun x => bytesOf 3 x.toNat)

/-- The samples that bytes spell, three at a time; a rest of one or two bytes spells none. -/
def audioOf : List Byte → Audio
  | a :: b :: c :: rest => (a ++ b ++ c) :: audioOf rest
  | _ => []

/-- A flag as a bit of a byte. -/
def flagBit (b : Bool) (n : Nat) : Nat := if b then 2 ^ n else 0

/-! ### The check function (section 12.1) -/

/-- The generator 04C11DB7h, reflected. -/
def checkGenerator : BitVec 32 := 0xEDB88320#32

def checkStart : BitVec 32 := 0xFFFFFFFF#32

def checkBit (c : BitVec 32) : BitVec 32 :=
  if c.getLsbD 0 then (c >>> 1) ^^^ checkGenerator else c >>> 1

def checkByte (c : BitVec 32) (b : Byte) : BitVec 32 :=
  checkBit (checkBit (checkBit (checkBit (checkBit (checkBit (checkBit (checkBit (c ^^^ b.setWidth 32))))))))

/-- The function's state advanced over bytes, before the final inversion (R213). -/
def checkOver (c : BitVec 32) (l : List Byte) : BitVec 32 := l.foldl checkByte c

/-- The final inversion. -/
def checkFinal (c : BitVec 32) : BitVec 32 := c ^^^ 0xFFFFFFFF#32

/-- CRC-32 of a run of bytes. -/
def check (l : List Byte) : BitVec 32 := checkFinal (checkOver checkStart l)

/-! ### Flash pages (Table 12-7) -/

/-- Bytes off to off + n - 1 of a page. -/
def pageBytes (p : FlashPage) (off n : Nat) : List Byte :=
  match p with
  | .void => List.replicate n 0
  | .data l => let got := (l.drop off).take n; got ++ List.replicate (n - got.length) 0xFF

/-- Bytes without the FFh bytes that stand last: two data pages with the same bytes have the same trimmed form. -/
def trimBytes (l : List Byte) : List Byte := (l.reverse.dropWhile (fun b => b == 0xFF)).reverse

def trimPage : FlashPage → FlashPage
  | .void => .void
  | .data l => .data (trimBytes l)

/-- A blank page: every byte FFh (R134). -/
def blankPage : FlashPage := .data []

def isBlank (p : FlashPage) : Bool := trimPage p == blankPage

/-- The bytes of a page spell their check: bytes 0 to n - 1 against the 4 bytes after them (R213). -/
def checkGood (p : FlashPage) (n : Nat) : Bool :=
  decide ((check (pageBytes p 0 n)).toNat = numberOf (pageBytes p n 4))

/-- A content page: 8 frames and their check (R213). -/
def contentPage (fs : List Audio) : FlashPage :=
  let b := fs.flatMap audioBytes
  .data (b ++ bytesOf 4 (check b).toNat)

/-- Bytes 0 to 7 of a unit header: cart, ordinal, bank, reserved. -/
def unitHeaderFields (cart : Fin 1024) (ordinal : Nat) (bank : Fin 4) : List Byte :=
  bytesOf 2 cart.val ++ bytesOf 2 ordinal ++ bytesOf 1 bank.val ++ [0, 0, 0]

def unitHeaderPage (cart : Fin 1024) (ordinal : Nat) (bank : Fin 4) : FlashPage :=
  let b := unitHeaderFields cart ordinal bank
  .data (b ++ bytesOf 4 (check b).toNat)

/-- Bytes 0 to 19 of a cart header: cart, reserved, length, segue-out, content check, unit count, reserved. -/
def cartHeaderFields (cart : Fin 1024) (length segueOut : Nat) (content : BitVec 32) (count : Nat) : List Byte :=
  bytesOf 2 cart.val ++ [0, 0] ++ bytesOf 4 length ++ bytesOf 4 segueOut ++ bytesOf 4 content.toNat ++ bytesOf 2 count ++ [0, 0]

def cartHeaderPage (cart : Fin 1024) (length segueOut : Nat) (content : BitVec 32) (count : Nat) : FlashPage :=
  let b := cartHeaderFields cart length segueOut content count
  .data (b ++ bytesOf 4 (check b).toNat)

/-- The bad mark: "bytes 0 to 7 alternating F0h, 0Fh, beginning with F0h". -/
def badMark : List Byte := [0xF0, 0x0F, 0xF0, 0x0F, 0xF0, 0x0F, 0xF0, 0x0F]

/-! ### Codes (chapter 12) -/

def DownloadPhase.code : DownloadPhase → Nat
  | .receiving => 0 | .closing => 1

def CartState.code : CartState → Nat
  | .empty => 0 | .loading => 1 | .ready => 2 | .torn => 3

def UnitState.code : UnitState → Nat
  | .erased => 0 | .erasing => 1 | .claimed => 2 | .dirty => 3 | .bad => 4

def FeedState.code : FeedState → Nat
  | .noLock => 0 | .locked => 1 | .silent => 2 | .lost => 3

def ChannelState.code : ChannelState → Nat
  | .bypass => 0 | .pass => 1 | .split => 2 | .brk => 3 | .loc => 4 | .fallback => 5

def Origin.code : Origin → Nat
  | .network => 0 | .insert => 1 | .mix => 2 | .fill => 3 | .silence => 4

def Segue.code : Segue → Nat
  | .cut => 0 | .overlap => 1 | .fade => 2

def Result.code : Result → Nat
  | .none => 0 | .aired => 1 | .truncated => 2 | .dropped => 3 | .notReady => 4 | .cutOff => 5 | .cancelled => 6
  | .skipped => 7 | .mediaFault => 8 | .aborted => 9 | .cleared => 10 | .revoked => 11

def ResultCode.code : ResultCode → Nat
  | .done => 0 | .busy => 1 | .owned => 2 | .held => 3 | .state => 4 | .range => 5 | .badField => 6 | .notErased => 7
  | .scanning => 8 | .wrongSource => 9 | .empty => 0x0A | .torn => 0x0B | .unknownKind => 0x0C

/-- Kind codes of section 12.4. -/
def RecordKind.code : RecordKind → Nat
  | .none => 0x00 | .restart => 0x01 | .scanDone => 0x02 | .item => 0x03 | .breakStart => 0x04 | .breakEnd => 0x05
  | .splitUnplanned => 0x06 | .splitCancelled => 0x07 | .cueIgnored => 0x08 | .planAbandoned => 0x09 | .ringGap => 0x0A
  | .triggerIgnored => 0x0B | .feedLost => 0x0C | .feedSilent => 0x0D | .feedRestored => 0x0E | .feedResync => 0x0F
  | .fallbackStart => 0x10 | .fallbackEnd => 0x11 | .windowStart => 0x12 | .windowEnd => 0x13 | .watchTrip => 0x14
  | .watchClear => 0x15 | .cartTorn => 0x16 | .unitBad => 0x17 | .timersOff => 0x18

/-- Reason codes of section 12.4; ITEM records carry the codes of Table 12-5. -/
def Reason.code : Reason → Nat
  | .result r => r.code
  | .restart .power => 1 | .restart .line => 2 | .restart .request => 3
  | .endNormal => 1 | .endCancel => 2 | .endGuard => 3 | .endTake => 4
  | .policy .passNetwork => 1 | .policy .fill => 2
  | .cueLate => 1 | .cueShort => 2 | .cueConflict => 3 | .cueSource => 4 | .cueState => 5
  | .gap => 1 | .limit => 2
  | .busy => 1 | .empty => 2
  | .frame => 1 | .feed => 2 | .set => 3
  | .tornScan => 1 | .tornOverflow => 2 | .tornProgram => 3 | .tornClose => 4
  | .badErase => 1 | .badProgram => 2

/-! ### As-run records (Table 12-6) -/

/-- The presence bits of a record. -/
def Record.presence (r : Record) : Nat :=
  flagBit r.channel.isSome 0 + flagBit r.watch.isSome 1 + flagBit r.breakNo.isSome 2 + flagBit r.ring.isSome 3 +
  flagBit r.fillSlot.isSome 4 + flagBit r.cart.isSome 5 + flagBit r.reason.isSome 6 + flagBit r.frames.isSome 7 +
  flagBit r.detail.isSome 8

/-- "Ring index in bits 0 to 6; bit 7 set for item B". -/
def ringByte : Option (Fin 128 × Option Part) → Nat
  | some (i, p) => i.val + flagBit (p == some .b) 7
  | none => 0

/-- A record as 32 bytes. A field that is absent holds 0 (R215). -/
def Record.bytes (r : Record) : List Byte :=
  bytesOf 4 r.sequence.toNat ++ bytesOf 1 r.kind.code ++ [0] ++ bytesOf 2 r.presence ++ bytesOf 4 r.position.toNat ++
  bytesOf 1 (r.channel.elim 0 (·.val)) ++ bytesOf 1 (r.watch.elim 0 (·.val)) ++ bytesOf 2 (r.breakNo.elim 0 (·.toNat)) ++
  bytesOf 1 (ringByte r.ring) ++ bytesOf 1 (r.fillSlot.elim 0 (·.val)) ++ bytesOf 2 (r.cart.elim 0 (·.val)) ++
  bytesOf 1 (r.reason.elim 0 Reason.code) ++ [0, 0, 0] ++
  bytesOf 4 (r.frames.elim 0 (·.toNat)) ++ bytesOf 4 (r.detail.elim 0 (·.toNat))

/-! ### Answers (Tables 12-4 and 12-5) -/

/-- "Item B cart, or next index when chained". -/
def Entry.secondField (e : Entry) : Nat :=
  match e.chained, e.chainTo with
  | true, some j => j.val
  | _, _ => e.itemB.cart.val

/-- A ring entry as reported, 24 bytes. -/
def Entry.bytes (e : Entry) : List Byte :=
  bytesOf 1 (match e.owner with | .loader => 0 | .channel => 1) ++
  bytesOf 1 (flagBit e.first 0 + flagBit e.last 1 + flagBit e.endOfRing 2 + flagBit e.chained 3 + flagBit e.droppable 4 +
    flagBit e.itemA.provisional 5 + flagBit e.itemB.provisional 6 + flagBit e.start.isSome 7) ++
  bytesOf 1 e.segue.code ++ [0] ++ bytesOf 2 e.breakNo.toNat ++ bytesOf 2 e.itemA.cart.val ++ bytesOf 2 e.secondField ++
  bytesOf 1 e.itemA.result.code ++ bytesOf 1 e.itemB.result.code ++ bytesOf 4 e.itemA.aired ++ bytesOf 4 e.itemB.aired ++
  bytesOf 4 (e.start.elim 0 (·.toNat))

def Points.bytes (p : Points) : List Byte := bytesOf 4 p.release ++ bytesOf 4 p.send ++ bytesOf 4 p.write

def CatalogEntry.bytes (e : CatalogEntry) (holds : Nat) (progress : Option Progress) : List Byte :=
  bytesOf 1 e.state.code ++
  bytesOf 1 (flagBit e.run.isSome 0 + flagBit e.size.isSome 1 + flagBit e.check.isSome 2 + flagBit progress.isSome 3) ++
  bytesOf 1 (e.run.elim 0 (·.bank.val)) ++ [0] ++ bytesOf 2 (e.run.elim 0 (·.first)) ++ bytesOf 2 (e.run.elim 0 (·.count)) ++
  bytesOf 4 (e.size.elim 0 (·.length)) ++ bytesOf 4 (e.size.elim 0 (·.segueOut)) ++ bytesOf 4 (e.check.elim 0 (·.toNat)) ++
  bytesOf 1 holds ++ bytesOf 1 (progress.elim 0 (fun p => p.phase.code)) ++ bytesOf 4 (progress.elim 0 (·.expected)) ++
  bytesOf 2 (progress.elim 0 (·.errors)) ++ bytesOf 2 (progress.elim 0 (·.programmed))

def Status.bytes (s : Status) : List Byte :=
  bytesOf 1 s.feed.code ++ bytesOf 1 (flagBit s.scanDone 0) ++ s.channels.flatMap (fun c => bytesOf 1 c.code) ++
  bytesOf 4 s.position.toNat ++ s.points.bytes ++ bytesOf 4 s.overruns ++ bytesOf 4 s.linkErrors ++
  bytesOf 1 (flagBit s.answerLost 0 + flagBit s.overrun 1) ++ [0]

def Payload.bytes : Payload → List Byte
  | .empty => []
  | .ringEntry e head => e.bytes ++ bytesOf 1 head.val
  | .cart e holds progress => e.bytes holds progress
  | .units us => us.flatMap (fun u => bytesOf 1 (u.1.elim 0 UnitState.code) ++ bytesOf 2 u.2.val)
  | .erase erased failed => bytesOf 1 erased ++ bytesOf 1 failed
  | .close number segments errors => bytesOf 2 number.val ++ bytesOf 4 segments ++ bytesOf 2 errors
  | .logRead cursor points records => bytesOf 4 cursor.toNat ++ points.bytes ++ records.flatMap Record.bytes
  | .logSeek cursor points => bytesOf 4 cursor.toNat ++ points.bytes
  | .logRelease points => points.bytes
  | .filter entry f => bytesOf 1 entry.val ++ bytesOf 1 (flagBit f.part 0) ++ bytesOf 1 f.outputs.toNat ++ [0] ++ bytesOf 4 f.address.toNat
  | .status s => s.bytes

/-! ### Return link frames (section 12.3) and output frames (section 12.5) -/

/-- A return link frame: header of 8 bytes, body, frame check. -/
def returnFrameBytes (kind : Nat) (body : List Byte) : List Byte :=
  let b := bytesOf 1 kind ++ [0] ++ bytesOf 2 (12 + body.length) ++ bytesOf 4 Config.serialAddress.toNat ++ body
  b ++ bytesOf 4 (check b).toNat

def Answer.frameBytes (a : Answer) : List Byte :=
  returnFrameBytes 0x81 (bytesOf 2 a.tag.toNat ++ bytesOf 2 a.kind.toNat ++ bytesOf 1 a.code.code ++ [0] ++
    bytesOf 2 a.payload.bytes.length ++ a.payload.bytes)

def Record.frameBytes (r : Record) : List Byte := returnFrameBytes 0x82 r.bytes

def OutFrame.bytes (o : OutFrame) : List Byte :=
  let b := audioBytes o.audio ++ bytesOf 4 o.position.toNat ++ bytesOf 1 o.origin.code ++ bytesOf 1 o.state.code ++
    bytesOf 2 o.onAir.val
  b ++ bytesOf 4 (check b).toNat

end Sys2Proof.Machine
end

