-- ==== Sys2Proof/Machine/Flags.lean ====
section
/-! DEFINITION. Conditions computed from the state: the feed test of R15, the ALERT line of R209, the status report of
R207, whether a cart may be claimed (R141), and counters that saturate. -/

namespace Sys2Proof.Machine

/-- A 32-bit count that saturates at FFFFFFFFh. -/
def satInc (n : Nat) : Nat := if n < 0xFFFFFFFF then n + 1 else n

/-- A 16-bit count that saturates at FFFFh (Table 8-1). -/
def satInc16 (n : Nat) : Nat := if n < 0xFFFF then n + 1 else n

/-- The programme position, 0 before the first lock (R2) and from it until the next output period sets P (log 20). -/
def Timebase.pos (t : Timebase) : FrameNo := t.position.getD 0

/-- Frame X lies in the break: "X is at or after its break point, and either the resume point is absent or X is before it". -/
def FeedBreak.covers (b : FeedBreak) (x : FrameNo) : Bool :=
  atOrAfter x b.point &&
    match b.resume with
    | none => true
    | some r => isBefore x r

/-- R15: the feed is broken at frame number X. -/
def Feed.brokenAt (f : Feed) (x : FrameNo) : Bool :=
  decide (f.state = .noLock) ||
    match f.brk with
    | none => false
    | some b => b.covers x

/-- R15: a break whose cause is SILENT counts for a channel only where its silence fallback is on. -/
def Feed.brokenFor (f : Feed) (silenceFallback : Bool) (x : FrameNo) : Bool :=
  f.brokenAt x &&
    (decide (f.state = .noLock) || silenceFallback ||
      match f.brk with
      | some b => decide (b.cause ≠ .silent)
      | none => true)

/-- R209: the ALERT output is asserted. -/
def State.alert (s : State) : Bool :=
  decide (s.feed.state ≠ .locked) ||
  s.channels.toList.any (fun c => decide (c.state = .fallback)) ||
  s.watches.toList.any (·.tripped) ||
  s.log.overrun || s.ret.answerLost

/-- The three points of the log. -/
def Log.points (l : Log) : Points := { release := l.release, send := l.send, write := l.write }

/-- R207: the payload of STATUS_QUERY, "all items taken as they stand at that event". -/
def State.status (s : State) : Status :=
  { feed := s.feed.state, position := s.time.pos, channels := s.channels.toList.map (·.state),
    scanDone := s.store.scan.done, points := s.log.points, overruns := s.log.overruns,
    linkErrors := s.intake.linkErrors, answerLost := s.ret.answerLost, overrun := s.log.overrun }

/-- R141: a hold claim on the cart is granted: "the cart is READY and its count is below 255". -/
def grantable (catalog : Vector CatalogEntry 1024) (holds : Vector Nat 1024) (cart : Fin 1024) : Bool :=
  decide ((catalog.get cart).state = .ready) && decide (holds.get cart < 255)

end Sys2Proof.Machine
end

