-- ==== Sys2Proof/Machine/Ops.lean ====
section
/-! DEFINITION. Operations shared by the blocks: appending to the as-run log (R119 to R121), queueing an answer (R203), the
pages of the media store (R134), the part reset (R210, R211), and the way of a request through Link Intake (R194). -/

namespace Sys2Proof.Machine

/-! ### The as-run log -/

/-- R120: the oldest record gives up its slot. -/
def Log.overwriteOldest (l : Log) : Log :=
  { l with
    release := l.release + 1
    send := if l.send = l.release then l.send + 1 else l.send
    overrun := true
    overruns := satInc l.overruns }

/-- R119, second half: the record takes the write point as its number and slot write mod 512. -/
def Log.store (l : Log) (r : Record) : Log :=
  { l with
    slots := l.slots.set (l.write % 512) (some { r with sequence := BitVec.ofNat 32 l.write })
      (Nat.mod_lt _ (by decide))
    write := l.write + 1 }

/-- R119 to R121: one append. After the number FFFFFFFEh every append is discarded, and counted as an overwrite. -/
def Log.append (l : Log) (r : Record) : Log :=
  if l.write < 0xFFFFFFFF then
    (if l.write - l.release < Config.logSize then l else l.overwriteOldest).store r
  else { l with overrun := true, overruns := satInc l.overruns }

/-- Appends in order (R122). -/
def Log.appendAll (l : Log) (rs : List Record) : Log := rs.foldl Log.append l

/-- R129: the record read back for number s: the retained one, or a NONE record that carries s. -/
def Log.readBack (l : Log) (s : BitVec 32) : Record :=
  let none' : Record := { sequence := s, kind := .none, position := 0 }
  if l.release ≤ s.toNat ∧ s.toNat < l.write then
    ((l.slots[s.toNat % 512]'(Nat.mod_lt _ (by decide))).getD none')
  else none'

/-- A record of a kind at a position, with no optional field; the append gives it its number. -/
def note (kind : RecordKind) (position : FrameNo) : Record := { sequence := 0, kind := kind, position := position }

def State.append (s : State) (r : Record) : State := { s with log := s.log.append r }

def State.appendAll (s : State) (rs : List Record) : State := { s with log := s.log.appendAll rs }

/-! ### Answers -/

/-- R203: an answer enters the queue, or is discarded with the answer-lost flag when 16 stand in it. -/
def ReturnLink.enqueue (t : ReturnLink) (a : Answer) : ReturnLink :=
  if t.queue.length < Config.answerQueueSize then { t with queue := t.queue ++ [a] }
  else { t with answerLost := true }

/-- R201: the answer to a request, built at this event. -/
def State.answer (s : State) (tag kind : BitVec 16) (code : ResultCode) (payload : Payload := .empty) : State :=
  { s with ret := s.ret.enqueue { tag := tag, kind := kind, code := code, payload := payload } }

/-! ### Link Intake -/

/-- R188: the link error count. -/
def State.linkError (s : State) : State :=
  { s with intake := { s.intake with linkErrors := satInc s.intake.linkErrors } }

/-- R190 and R194: a request (or a segment) acts when its address reaches the part, and is discarded otherwise. -/
def State.atPart (s : State) (address : Address) (act : State → State) : State :=
  if (s.intake.resolve address).part then act s else s

/-! ### Pages of the media store -/

/-- The pages of the store that are not blank. -/
abbrev Flash := List (Nat × FlashPage)

/-- The number of pages of the whole store. -/
def Flash.pages : Nat := 4096 * 64

/-- Canonical form: page numbers strictly rising and within the store, every page in its trimmed form and none blank. -/
def Flash.wf (m : Flash) : Bool :=
  decide ((m.map (·.1)).Pairwise (· < ·)) &&
    m.all (fun e => decide (e.1 < Flash.pages) && e.2 == trimPage e.2 && !isBlank e.2)

/-- R134: a page as it was last programmed, or blank. -/
def Flash.read (m : Flash) (n : Nat) : FlashPage := (m.lookup n).getD blankPage

/-- A page of the store given new contents. -/
def Flash.write : Flash → Nat → FlashPage → Flash
  | [], n, p => if isBlank p then [] else [(n, trimPage p)]
  | (k, q) :: rest, n, p =>
    if n < k then (if isBlank p then (k, q) :: rest else (n, trimPage p) :: (k, q) :: rest)
    else if n = k then (if isBlank p then rest else (n, trimPage p) :: rest)
    else (k, q) :: Flash.write rest n p

/-- A write inside the store; the store has no other pages. -/
def Flash.program (m : Flash) (n : Nat) (p : FlashPage) : Flash :=
  if n < Flash.pages then m.write n p else m

/-- "Every page of the unit is blank" (R148). -/
def Flash.eraseUnit (m : Flash) (unit : Nat) : Flash :=
  m.filter (fun e => decide (e.1 / Config.pagesPerUnit ≠ unit))

/-- The page that a program cut short leaves: neither blank nor a mark, and failing the check of a unit header and of a cart
header (R136, R169). Its bytes are those of a free page where that is such a page (log 9). -/
def cutPage (p : FlashPage) : FlashPage :=
  if !isBlank p && decide (p ≠ .void) && pageBytes p 0 8 != badMark && !checkGood p 8 && !checkGood p 20 then p else .data [0]

/-- What a failed operation leaves in a page: a free page, which in page 1 of a unit is no cart header (R169; log 9). -/
def Flash.loosePage (fresh n : Nat) : FlashPage :=
  if n % Config.pagesPerUnit = 1 then cutPage (Config.freePage fresh n) else Config.freePage fresh n

/-- Pages first to first + n - 1 of a unit, each as a failed operation leaves it. -/
def Flash.loosePages (m : Flash) (fresh unit first : Nat) : Nat → Flash
  | 0 => m
  | n + 1 => (Flash.loosePages m fresh unit first n).program (pageNumber unit (first + n))
      (Flash.loosePage fresh (pageNumber unit (first + n)))

/-- A unit whose erase has not ended well: page 0 is given, the void mark after a failed erase (R138), and the others are
loose. -/
def Flash.partErased (m : Flash) (fresh unit : Nat) (page0 : FlashPage) : Flash :=
  (m.loosePages fresh unit 1 63).program (pageNumber unit 0) page0

/-- R169, R171: what a program in flight at a part reset leaves in its page: completed or cut short, as a free value says (log 9).
A cart header program is cut short, since a download is "READY after a reset only if its cart header completed before the reset"
(R169). -/
def settledPage (fresh : Nat) (p : Program) : FlashPage :=
  if decide (p.kind ≠ .cartHeader) && Config.programCompleted fresh then p.contents
  else cutPage (Config.freePage fresh (pageNumber p.unit p.page))

/-- R171: the internal operation of a bank at a part reset, completed or cut short, unobserved by the part. A program cut short
leaves its page damaged (R169), an erase after its void mark page 0 void or blank (R148). -/
def Flash.settle (m : Flash) (fresh : Nat) : Option BankOp → Flash
  | some (.program p _ _) => m.program (pageNumber p.unit p.page) (settledPage fresh p)
  | some (.erase unit) =>
    match Config.cutErase fresh with
    | 0 => m.eraseUnit unit
    | 1 => m.partErased fresh unit .void
    | 2 => m.partErased fresh unit blankPage
    | 3 => m.program (pageNumber unit 0) (cutPage (Config.freePage fresh (pageNumber unit 0)))
  | some .read => m
  | none => m

/-! ### The part reset -/

/-- R55: a FIRE line that is low at a part reset must return high before it gives an event. -/
def Line.afterReset : Line → Line
  | .high => .high
  | _ => .spent

/-- R210, R211: a part reset. Every block takes its values after part reset; the operations of the four banks end on the
banks; the carrier is taken from the lane as it stands. -/
def State.partReset (s : State) (cause : ResetCause) : State :=
  let ops := s.arbiter.banks
  let flash := Flash.settle (Flash.settle (Flash.settle (Flash.settle s.flash s.fresh ops[0]) (s.fresh + 1) ops[1])
    (s.fresh + 2) ops[2]) (s.fresh + 3) ops[3]
  State.afterReset cause s.pending flash s.ret.carrier { s.lines with fire := s.lines.fire.map Line.afterReset } (s.fresh + 4)

end Sys2Proof.Machine
end

