-- ==== Sys2Proof/Machine/Desk.lean ====
section
/-! DEFINITION. What a channel rule works on (its channel, the hold counts and the records it writes), what it reads of the
rest of the part, and the operations on decks and items that the channel rules share: loading (R177), holds (R51), write-back
(R43), release (R183), giving up a candidate (R105) and a media fault (R180). -/

namespace Sys2Proof.Machine

/-- A vector with one element replaced. -/
def put {α : Type} {n : Nat} (v : Vector α n) (i : Fin n) (x : α) : Vector α n := v.set i.val x i.isLt

/-- What a channel rule reads of the part: its channel number, P (0 before the first lock), whether P is present, the next
position, whether frame P is in the delay line, whether the feed is broken at P with the silence fallback on and off (R15),
and the catalog. -/
structure Env where
  chan : Fin 4
  pos : FrameNo
  live : Bool
  next : FrameNo
  present : Bool
  brokenOn : Bool
  brokenOff : Bool
  catalog : Vector CatalogEntry 1024

/-- What a channel rule may change: its own channel, the hold counts, and the log, through the records it writes in order. -/
structure Desk where
  ch : Channel
  holds : Vector Nat 1024
  out : List Record

/-- The delay line slot of frame X holds X (R3). -/
def Timebase.slotOf (t : Timebase) (x : FrameNo) : Option Slot :=
  (t.line.get ⟨x.toNat % 512, Nat.mod_lt _ (by decide)⟩).filter (fun slot => slot.number == x)

/-- What channel n reads of the state. -/
def State.env (s : State) (n : Fin 4) : Env :=
  { chan := n, pos := s.time.pos, live := s.time.position.isSome, next := s.time.nextPosition.getD 0,
    present := (s.time.position.bind s.time.slotOf).isSome,
    brokenOn := s.feed.brokenFor true s.time.pos, brokenOff := s.feed.brokenFor false s.time.pos,
    catalog := s.store.catalog }

/-- The desk of channel n, with no record written yet. -/
def State.desk (s : State) (n : Fin 4) : Desk := { ch := s.channels.get n, holds := s.store.holds, out := [] }

/-- A desk put back: its channel, the hold counts, and its records appended in order (R122). -/
def State.putDesk (s : State) (n : Fin 4) (d : Desk) : State :=
  { s with
    channels := put s.channels n d.ch
    store := { s.store with holds := d.holds }
    log := s.log.appendAll d.out }

/-- A channel rule taken on channel n of the state. -/
def State.onChannel (s : State) (n : Fin 4) (rule : Env → Desk → Desk) : State :=
  s.putDesk n (rule (s.env n) (s.desk n))

/-- R15 for a channel: the feed is broken at P under its silence fallback setting. -/
def Env.broken (e : Env) (s : Settings) : Bool := if s.silenceFallback then e.brokenOn else e.brokenOff

/-! ### Decks -/

def otherDeck : DeckId → DeckId
  | .a => .b
  | .b => .a

def Channel.deck (c : Channel) : DeckId → Deck
  | .a => c.deckA
  | .b => c.deckB

def Channel.setDeck (c : Channel) (k : DeckId) (x : Deck) : Channel :=
  match k with
  | .a => { c with deckA := x }
  | .b => { c with deckB := x }

/-- "A sounding deck is one whose state is PLAYING or FADING" (R173). -/
def Deck.sounding (k : Deck) : Bool := decide (k.state = .playing) || decide (k.state = .fading)

/-- A loaded deck whose item has not begun to sound. -/
def Deck.waiting (k : Deck) : Bool := decide (k.state = .priming) || decide (k.state = .ready)

def Deck.ringItem (k : Deck) : Option ItemRef :=
  match k.item with
  | some (.ring r) => some r
  | _ => none

def Deck.fillItem (k : Deck) : Option (Fin 16) :=
  match k.item with
  | some (.fill s) => some s
  | _ => none

/-- A fill candidate: a fill item loaded and not sounding (R103). -/
def Deck.candidate (k : Deck) : Bool := k.waiting && k.fillItem.isSome

def Deck.length (k : Deck) : Nat := k.source.elim 0 (·.length)

def Deck.segueOut (k : Deck) : Nat := k.source.elim 0 (·.segueOut)

/-- R179: "the deck has pages left while next page is at most (length - 1) div 8". -/
def Deck.pagesLeft (k : Deck) : Bool :=
  match k.source with
  | some s => decide (k.nextPage ≤ (s.length - 1) / Config.framesPerPage)
  | none => false

/-- R183: the deck becomes IDLE, its buffer emptied. Its load number, its refill allowance and a read still in flight stay. Of its
other fields R183 says nothing: the model clears item, cart data, next page and counts here, and not at the next load (log 49). -/
def Deck.idled (k : Deck) : Deck :=
  { Deck.reset with load := k.load, read := k.read, allowanceUsed := k.allowanceUsed }

/-- R177: an item loaded onto a deck. -/
def Deck.loaded (k : Deck) (entry : CatalogEntry) (item : DeckItem) (cart : Fin 1024) (order : Nat) (mode : StartMode) : Deck :=
  let source := entry.run.bind (fun r => entry.size.map (fun z =>
    ({ bank := r.bank, firstUnit := r.first, length := z.length, segueOut := z.segueOut } : DeckSource)))
  { Deck.reset with
    state := .priming
    item := some item
    cart := cart
    source := source
    load := k.load + 1
    read := k.read
    allowanceUsed := k.allowanceUsed
    due := source.elim 0 (·.length)
    order := order
    mode := mode }

/-- The item leaves the split's items still to be loaded, on a deck or sounding. -/
def Split.without (r : ItemRef) (x : Split) : Split := { x with items := x.items.filter (fun p => p.ref != r) }

/-- The pass position of a ONE_PASS split set back to a slot, its exhausted mark cleared (R100, R105). -/
def Split.passAt (slot : Fin 16) (x : Split) : Split := { x with pass := slot, exhausted := false }

/-- The entry leaves the entries gathered and not yet returned. -/
def BreakCtx.without (i : Fin 128) (b : BreakCtx) : BreakCtx := { b with entries := b.entries.filter (fun j => j != i) }

namespace Desk

def deck (d : Desk) (k : DeckId) : Deck := d.ch.deck k

def setDeck (d : Desk) (k : DeckId) (x : Deck) : Desk := { d with ch := d.ch.setDeck k x }

/-- A record of this channel, appended after those already written. -/
def record (e : Env) (r : Record) (d : Desk) : Desk := { d with out := d.out ++ [{ r with channel := some e.chan }] }

/-- The two decks in the order in which their items were loaded or started. -/
def decksInOrder (d : Desk) : List DeckId :=
  if d.ch.deckB.order < d.ch.deckA.order then [.b, .a] else [.a, .b]

def anySounding (d : Desk) : Bool := d.ch.deckA.sounding || d.ch.deckB.sounding

/-- The item is on a deck. -/
def onDeck (d : Desk) (r : ItemRef) : Bool := d.ch.deckA.ringItem == some r || d.ch.deckB.ringItem == some r

/-- The item is sounding. -/
def sounds (d : Desk) (r : ItemRef) : Bool :=
  (d.ch.deckA.sounding && d.ch.deckA.ringItem == some r) || (d.ch.deckB.sounding && d.ch.deckB.ringItem == some r)

/-- A fill item sounds. -/
def fillSounds (d : Desk) : Bool :=
  (d.ch.deckA.sounding && d.ch.deckA.fillItem.isSome) || (d.ch.deckB.sounding && d.ch.deckB.fillItem.isSome)

/-- A ring item waits on a deck. -/
def ringWaiting (d : Desk) : Bool :=
  (d.ch.deckA.waiting && d.ch.deckA.ringItem.isSome) || (d.ch.deckB.waiting && d.ch.deckB.ringItem.isSome)

/-- The deck of the item that started last. -/
def latestDeck (d : Desk) : Deck := if d.ch.deckB.order = d.ch.lastStart then d.ch.deckB else d.ch.deckA

/-- The deck that holds a fill candidate, if one does. -/
def candidateDeck (d : Desk) : Option DeckId :=
  if d.ch.deckA.candidate then some .a else if d.ch.deckB.candidate then some .b else none

/-- An IDLE deck. -/
def idleDeck (d : Desk) : Option DeckId :=
  if d.ch.deckA.state = .idle then some .a else if d.ch.deckB.state = .idle then some .b else none

/-! ### Items of the ring -/

def entry (d : Desk) (i : Fin 128) : Entry := d.ch.ring.get i

def setEntry (d : Desk) (i : Fin 128) (x : Entry) : Desk := { d with ch := { d.ch with ring := put d.ch.ring i x } }

def item (d : Desk) (r : ItemRef) : Item := (d.entry r.index).item r.part

def setItem (d : Desk) (r : ItemRef) (x : Item) : Desk := d.setEntry r.index ((d.entry r.index).setItem r.part x)

/-- The frames that the item on a deck has emitted (R39): of a ring item counted in its entry, of a fill item on the deck. -/
def aired (d : Desk) (k : Deck) : Nat :=
  match k.item with
  | some (.ring r) => (d.item r).aired
  | _ => k.fillAired

/-- R52: the start point of a ring item has come, by the item sounding before it. An item that follows a fill item, or one
already ended, starts by a cut. -/
def ringDue (d : Desk) (r : ItemRef) (before : Deck) : Bool :=
  if before.sounding then
    if before.fillItem.isSome then false
    else if before.order ≠ d.ch.lastStart then true
    else
      match (d.entry r.index).ownSegue r.part with
      | .cut => false
      | .overlap | .fade => decide (before.segueOut ≤ d.aired before)
  else true

/-! ### Holds (R51) -/

/-- A release claim: the count falls by one. -/
def releaseHold (cart : Fin 1024) (d : Desk) : Desk :=
  { d with holds := put d.holds cart (d.holds.get cart - 1) }

/-- A granted hold claim: the count rises by one. -/
def takeHold (cart : Fin 1024) (d : Desk) : Desk :=
  { d with holds := put d.holds cart (d.holds.get cart + 1) }

/-- A hold claim for a ring item: granted, the item becomes a holder; refused, nothing changes. -/
def claim (e : Env) (r : ItemRef) (d : Desk) : Desk :=
  let i := d.item r
  if grantable e.catalog d.holds i.cart then (d.takeHold i.cart).setItem r { i with held := true } else d

/-- The item gives back its hold, if it is a holder. -/
def unhold (r : ItemRef) (d : Desk) : Desk :=
  let i := d.item r
  if i.held then (d.releaseHold i.cart).setItem r { i with held := false } else d

/-! ### Write-back (R43, R44) -/

/-- The number of the break that the channel plans or airs (R44). -/
def breakNumber (d : Desk) : Option BreakNo :=
  match d.ch.brk, d.ch.split, d.ch.plan with
  | some b, _, _ => some b.breakNo
  | none, some s, _ => some s.breakNo
  | none, none, some p => some p.breakNo
  | none, none, none => none

/-- An entry that returns to the hub leaves the break being aired, and is no more the one the window took last. -/
def returnEntry (i : Fin 128) (d : Desk) : Desk :=
  let d := d.setEntry i { d.entry i with owner := .loader }
  { d with ch := { d.ch with
    brk := d.ch.brk.map (BreakCtx.without i)
    lastRing := d.ch.lastRing.filter (fun r => r.index != i) } }

/-- R43 steps 1, 2 and 4 with the record of step 3 left to the caller's choice (R44). -/
def settle (e : Env) (r : ItemRef) (result : Result) (rec? : Option (BreakNo × FrameNo × Nat)) (d : Desk) : Desk :=
  let i := d.item r
  let d := d.setItem r { i with result := result, provisional := false }
  let d := d.unhold r
  let d := match rec? with
    | some (brk, position, underruns) =>
      d.record e { note .item position with
        breakNo := some brk, ring := some (r.index, some r.part), cart := some i.cart, reason := some (.result result),
        frames := some (BitVec.ofNat 32 i.aired), detail := some (BitVec.ofNat 32 underruns) }
    | none => d
  let d := { d with ch := { d.ch with split := d.ch.split.map (Split.without r) } }
  if (d.entry r.index).allFinal then d.returnEntry r.index else d

/-- R43 for an item that never sounded: its record stands at P. -/
def finishUnsounded (e : Env) (result : Result) (d : Desk) (r : ItemRef) : Desk :=
  d.settle e r result (some (d.breakNumber.getD (d.entry r.index).breakNo, e.pos, 0))

/-- R43 for the item on a deck: its record stands at its entry's start position if it sounded, with its underruns. -/
def finishOnDeck (e : Env) (k : Deck) (result : Result) (r : ItemRef) (d : Desk) : Desk :=
  let position := if k.sounding then (d.entry r.index).start.getD e.pos else e.pos
  d.settle e r result (some (d.breakNumber.getD (d.entry r.index).breakNo, position, k.underruns))

/-- R106: the final result of a fill item, with its record and the release of its hold. -/
def finishFill (e : Env) (k : Deck) (slot : Fin 16) (result : Result) (d : Desk) : Desk :=
  (d.releaseHold k.cart).record e { note .item (k.fillStart.getD e.pos) with
    breakNo := if k.fillStart.isSome then d.ch.split.map (·.breakNo) else none
    fillSlot := some slot, cart := some k.cart, reason := some (.result result),
    frames := some (BitVec.ofNat 32 k.fillAired), detail := some (BitVec.ofNat 32 k.underruns) }

/-- The item on a deck receives a result, and the deck becomes IDLE (R183). -/
def endDeck (e : Env) (id : DeckId) (result : Result) (d : Desk) : Desk :=
  let k := d.deck id
  let d := match k.item with
    | some (.ring r) => d.finishOnDeck e k result r
    | some (.fill s) => d.finishFill e k s result
    | none => d
  d.setDeck id (d.deck id).idled

/-- R40: the result of an item that sounded and ends: AIRED when its segue fade has run out or every due frame was emitted,
else TRUNCATED (log 28). -/
def naturalResult (d : Desk) (k : Deck) : Result :=
  let segueDone := match k.ramp with
    | some r => decide (r.kind = .segue) && decide (r.length ≤ r.elapsed)
    | none => false
  if segueDone || decide (k.due ≤ d.aired k) then .aired else .truncated

/-- Each item still sounding ends (R61, R62, R66, R90, R95). -/
def endSounding (e : Env) (d : Desk) : Desk :=
  d.decksInOrder.foldl (fun d id => if (d.deck id).sounding then d.endDeck e id (d.naturalResult (d.deck id)) else d) d

/-- A sounding fill item is cut (R59, R64, R82): AIRED is not at stake, since it has frames left. -/
def cutFill (e : Env) (d : Desk) : Desk :=
  d.decksInOrder.foldl
    (fun d id =>
      if (d.deck id).sounding && (d.deck id).fillItem.isSome then d.endDeck e id (d.naturalResult (d.deck id)) else d) d

/-- R105: a fill candidate given up. The cursor, and in a ONE_PASS split the pass position, return to its slot unless the
range was changed since the choice. -/
def giveUp (id : DeckId) (d : Desk) : Desk :=
  let k := d.deck id
  match k.fillItem with
  | none => d
  | some slot =>
    let d := (d.releaseHold k.cart).setDeck id k.idled
    if k.rangeMark then d
    else
      { d with ch := { d.ch with
        fill := { d.ch.fill with cursor := slot }
        split := if d.ch.settings.fillMode = .onePass then d.ch.split.map (Split.passAt slot) else d.ch.split } }

/-- The fill candidate, if there is one, is given up. -/
def giveUpCandidate (d : Desk) : Desk :=
  match d.candidateDeck with
  | some id => d.giveUp id
  | none => d

/-- R53: a deck for an insert item: an IDLE deck, or the only deck not sounding when it holds a fill candidate, which is
given up. -/
def takeDeck (d : Desk) : Option (DeckId × Desk) :=
  match d.idleDeck with
  | some id => some (id, d)
  | none =>
    match d.candidateDeck with
    | some id => if (d.deck (otherDeck id)).sounding then some (id, d.giveUp id) else none
    | none => none

/-- R177: an item is loaded onto an IDLE deck, and takes the next place in succession. -/
def load (e : Env) (id : DeckId) (item : DeckItem) (cart : Fin 1024) (mode : StartMode) (d : Desk) : Desk :=
  let k := (d.deck id).loaded (e.catalog.get cart) item cart d.ch.stamp mode
  { d.setDeck id k with ch := { (d.setDeck id k).ch with stamp := d.ch.stamp + 1 } }

/-- The fill wait ended, fill being no longer wanted (R104). -/
def noFillWait (d : Desk) : Desk := { d with ch := { d.ch with fill := { d.ch.fill with wait := false } } }

/-- R104: in PASS only a primed plan or a prepared window wants fill, so the wait ends with it. -/
def fillUnwanted (d : Desk) : Desk := if d.ch.state = .pass then d.noFillWait else d

/-- The channel enters a state. A change of state ends the fill wait, and the choice is retried where fill is wanted
(R104). -/
def setState (x : ChannelState) (d : Desk) : Desk :=
  { d with ch := { d.ch with state := x, fill := { d.ch.fill with wait := false } } }

/-- A channel in PASS or FALLBACK with an armed plan or a held window is committed (section 3.1). -/
def committed (d : Desk) : Bool := d.ch.plan.isSome || d.ch.held.isSome

/-- The item belongs to the armed plan. -/
def inPlan (d : Desk) (r : ItemRef) : Bool :=
  match d.ch.plan with
  | some p => p.items.any (fun x => x.ref == r)
  | none => false

/-- R180: the item on a deck is given up with MEDIA_FAULT. An included item of an armed plan receives it as a provisional
result, keeps its hold and writes no record. -/
def mediaFault (e : Env) (id : DeckId) (d : Desk) : Desk :=
  let k := d.deck id
  match k.item with
  | some (.ring r) =>
    if d.inPlan r then
      (d.setItem r { d.item r with result := .mediaFault, provisional := true }).setDeck id k.idled
    else d.endDeck e id .mediaFault
  | _ => d.endDeck e id .mediaFault

/-- A fade ramp on a sounding deck (R110): the deck becomes FADING. -/
def setRamp (id : DeckId) (r : Ramp) (d : Desk) : Desk :=
  d.setDeck id { d.deck id with state := .fading, ramp := some r }

/-- R111: a closing fade of G output periods on a deck. A ramp already there that ends at or before the closing fade's last
period is kept alone. -/
def closeDeck (g : Nat) (id : DeckId) (d : Desk) : Desk :=
  let k := d.deck id
  if k.sounding then
    let keep := match k.ramp with
      | some r => decide (r.length - r.elapsed ≤ g)
      | none => false
    d.setDeck id { k with
      state := .fading
      closing := if keep then k.closing else some { kind := .closing, length := g, elapsed := 0 } }
  else d

/-- Every sounding deck becomes FADING over G output periods. -/
def closeAll (g : Nat) (d : Desk) : Desk := (d.closeDeck g .a).closeDeck g .b

end Desk

end Sys2Proof.Machine
end

