-- ==== Sys2Proof/Machine/Ring.lean ====
section
/-! DEFINITION. Running order rings (chapter 2): the walk that gathers a break, taking singly, and the meanings of
RO_WRITE, RO_REVOKE, RO_READ and RO_HEAD. -/

namespace Sys2Proof.Machine

/-! ### Walks -/

/-- A break as gathered: its entries in walk order, the head after it, and the gap that ended it short. -/
structure Gathered where
  entries : List (Fin 128)
  head : Fin 128
  gap : Option (Reason × Fin 128)

/-- R28 to R30: the walk takes entry i after the entries already taken; `fuel` counts the entries it may still take. The
size limit is met before the next entry is looked at. -/
def walk (ring : Vector Entry 128) : Nat → List (Fin 128) → Fin 128 → Gathered
  | 0, taken, i => { entries := taken, head := i, gap := some (.limit, i) }
  | fuel + 1, taken, i =>
    let taken := taken ++ [i]
    let next := (ring.get i).successor i
    if (ring.get i).last then { entries := taken, head := next, gap := none }
    else if taken.length = Config.breakLimit then { entries := taken, head := next, gap := some (.limit, next) }
    else if taken.contains next then { entries := taken, head := next, gap := some (.limit, next) }
    else if (ring.get next).owner = .loader then { entries := taken, head := next, gap := some (.gap, next) }
    else walk ring fuel taken next

namespace Desk

/-- The entry at the head. -/
def headEntry (d : Desk) : Entry := d.entry d.ch.head

/-- R28: the break at the head, gathered, with a RING_GAP record where R29 or R30 applies; none when the head is not a
break. -/
def gather (e : Env) (d : Desk) : Option (BreakNo × List (Fin 128) × Desk) :=
  if d.headEntry.startsBreak then
    let number := d.headEntry.breakNo
    let g := walk d.ch.ring Config.breakLimit [] d.ch.head
    let d := { d with ch := { d.ch with head := g.head } }
    let d := match g.gap with
      | some (reason, i) =>
        d.record e { note .ringGap e.pos with
          breakNo := some number, ring := some (i, none), reason := some reason }
      | none => d
    some (number, g.entries, d)
  else none

/-- R31: the head entry taken singly when it is CHANNEL-owned; the head becomes its successor. -/
def takeSingly (d : Desk) : Option (Fin 128 × Desk) :=
  if d.headEntry.owner = .channel then
    some (d.ch.head, { d with ch := { d.ch with head := d.headEntry.successor d.ch.head } })
  else none

/-- The present items of entries in order of succession that have no result yet (log 14). -/
def openItems (d : Desk) (entries : List (Fin 128)) : List ItemRef :=
  (entries.flatMap (fun i => (d.entry i).refs i)).filter (fun r => decide ((d.item r).result = .none))

/-- R25: the entry is in use. -/
def inUse (d : Desk) (i : Fin 128) : Bool :=
  (match d.ch.plan with
    | some p => p.items.any (fun x => x.ref.index == i)
    | none => false) ||
  (match d.ch.split with
    | some x => x.items.any (fun p => p.ref.index == i)
    | none => false) ||
  (match d.ch.brk with
    | some b => b.entries.contains i
    | none => false) ||
  d.onDeck ⟨i, .a⟩ || d.onDeck ⟨i, .b⟩

end Desk

/-! ### Ring requests -/

/-- The channel of a state with a ring entry replaced. -/
def State.setRing (s : State) (n : Fin 4) (i : Fin 128) (x : Entry) : State :=
  { s with channels := put s.channels n { s.channels.get n with ring := put (s.channels.get n).ring i x } }

/-- R33: the entry that RO_WRITE would write, when every field is good. R34 gives its other fields. -/
def writtenEntry (breakNo : BreakNo) (flags segue : Byte) (itemA second : BitVec 16) : Option Entry :=
  match segueOf segue, field 1024 itemA.toNat with
  | some g, some a =>
    let base : Entry :=
      { Entry.reset with
        owner := .channel, breakNo := breakNo, first := flags.getLsbD 0, last := flags.getLsbD 1,
        endOfRing := flags.getLsbD 2, chained := flags.getLsbD 3, droppable := flags.getLsbD 4, segue := g,
        itemA := { Item.absent with cart := a } }
    if flags.getLsbD 3 then
      match field 128 second.toNat with
      | some j => if a = 0 then none else some { base with chainTo := some j }
      | none => none
    else
      match field 1024 second.toNat with
      | some b => if a = 0 ∧ b = 0 then none else some { base with itemB := { Item.absent with cart := b } }
      | none => none
  | _, _ => none

/-- RO_WRITE (R32 to R34). -/
def execRoWrite (address : Address) (tag : BitVec 16) (channel index : Byte) (breakNo : BreakNo) (flags segue : Byte)
    (itemA second : BitVec 16) (s : State) : Host.Outcome State Fault Refusal :=
  .next <| s.atPart address fun s =>
    match field 4 channel.toNat, field 128 index.toNat with
    | some n, some i =>
      if ((s.channels.get n).ring.get i).owner = .channel then s.answer tag 0x0004 .owned
      else
        match writtenEntry breakNo flags segue itemA second with
        | some x => (s.setRing n i x).answer tag 0x0004 .done
        | none => s.answer tag 0x0004 .badField
    | _, _ => s.answer tag 0x0004 .badField

/-- R35: a present item of a revoked entry without a result receives REVOKED. -/
def revokedItem (i : Item) : Item :=
  if i.present && decide (i.result = .none) then { i with result := .revoked, provisional := false } else i

def revokedEntry (x : Entry) : Entry :=
  { x with owner := .loader, itemA := revokedItem x.itemA, itemB := revokedItem x.itemB }

/-- RO_REVOKE (R32, R35). -/
def execRoRevoke (address : Address) (tag : BitVec 16) (channel index : Byte) (s : State) :
    Host.Outcome State Fault Refusal :=
  .next <| s.atPart address fun s =>
    match field 4 channel.toNat, field 128 index.toNat with
    | some n, some i =>
      let x := (s.channels.get n).ring.get i
      if x.owner = .loader then s.answer tag 0x0005 .state
      else if (s.desk n).inUse i then s.answer tag 0x0005 .held
      else (s.setRing n i (revokedEntry x)).answer tag 0x0005 .done
    | _, _ => s.answer tag 0x0005 .badField

/-- RO_READ (R32, R36). -/
def execRoRead (address : Address) (tag : BitVec 16) (channel index : Byte) (s : State) :
    Host.Outcome State Fault Refusal :=
  .next <| s.atPart address fun s =>
    match field 4 channel.toNat, field 128 index.toNat with
    | some n, some i =>
      s.answer tag 0x0006 .done (.ringEntry ((s.channels.get n).ring.get i) (s.channels.get n).head)
    | _, _ => s.answer tag 0x0006 .badField

/-- RO_HEAD (R32, R37). -/
def execRoHead (address : Address) (tag : BitVec 16) (channel index : Byte) (s : State) :
    Host.Outcome State Fault Refusal :=
  .next <| s.atPart address fun s =>
    match field 4 channel.toNat, field 128 index.toNat with
    | some n, some i =>
      if (s.channels.get n).state = .bypass then
        { s with channels := put s.channels n { s.channels.get n with head := i } }.answer tag 0x0007 .done
      else s.answer tag 0x0007 .state
    | _, _ => s.answer tag 0x0007 .badField

end Sys2Proof.Machine
end

