-- ==== Sys2Proof/Machine/Fill.lean ====
section
/-! DEFINITION. The fill table (chapter 5, sections 5.1 to 5.3): the range, the scan of a fill choice, and the choice. -/

namespace Sys2Proof.Machine

/-- R98: the slots of the range in range order. -/
def FillTable.range (t : FillTable) : List (Fin 16) :=
  (List.range ((t.stop - t.start).val + 1)).map (fun i => t.start + Fin.ofNat 16 i)

/-- R98: "the slot after the end slot is the start slot". -/
def FillTable.after (t : FillTable) (s : Fin 16) : Fin 16 := if s = t.stop then t.start else s + 1

/-- R102: one full pass from the cursor, wrapping within the range. -/
def FillTable.fullPass (t : FillTable) : List (Fin 16) :=
  let before := t.range.takeWhile (fun s => s != t.cursor)
  t.range.dropWhile (fun s => s != t.cursor) ++ before

/-- R102: from a pass position to the end slot, without wrap; no slot where the position lies outside the range (log 41). -/
def FillTable.passFrom (t : FillTable) (p : Fin 16) : List (Fin 16) := t.range.dropWhile (fun s => s != p)

/-- A plan that has no included item (R81, R83). -/
def Plan.noneIncluded (p : Plan) : Bool := p.items.all (fun x => decide (x.inclusion ≠ .included))

namespace Desk

/-- The armed plan has no included item. -/
def emptyPlan (d : Desk) : Bool :=
  match d.ch.plan with
  | some p => p.noneIncluded
  | none => false

/-- The armed plan is primed. -/
def planPrimed (d : Desk) : Bool :=
  match d.ch.plan with
  | some p => p.primed
  | none => false

/-- R102: the slots that a choice scans, in order; none when a ONE_PASS split has exhausted its range, so that no scan is
made. A candidate for a plan with no included item is chosen by the split fill mode, from the start slot under ONE_PASS
(log 19). -/
def scanSlots (d : Desk) : Option (List (Fin 16)) :=
  let onePass := decide (d.ch.settings.fillMode = .onePass)
  match d.ch.split with
  | some x =>
    if onePass then (if x.exhausted then none else some (d.ch.fill.passFrom x.pass)) else some d.ch.fill.fullPass
  | none => if onePass && d.planPrimed then some d.ch.fill.range else some d.ch.fill.fullPass

/-- R101: the slot is not empty and the hold claim for its cart is granted. -/
def slotGranted (e : Env) (d : Desk) (s : Fin 16) : Bool :=
  let cart := d.ch.fill.slots.get s
  decide (cart ≠ 0) && grantable e.catalog d.holds cart

/-- The marks of a chosen slot: the cursor, and the pass position and exhausted mark of a ONE_PASS split (R101, R102). -/
def markChosen (s : Fin 16) (d : Desk) : Desk :=
  let t := d.ch.fill
  { d with ch := { d.ch with
    fill := { t with cursor := t.after s, wait := false }
    split :=
      if d.ch.settings.fillMode = .onePass then
        d.ch.split.map (fun x => ({ x with pass := t.after s, exhausted := decide (s = t.stop) } : Split))
      else d.ch.split } }

/-- R101: a fill choice for an IDLE deck, while no candidate is loaded. A scan that chooses no slot leaves the cursor and
sets the fill wait. -/
def chooseFill (e : Env) (mode : StartMode) (d : Desk) : Desk :=
  match d.idleDeck, d.candidateDeck, d.scanSlots with
  | some id, none, some slots =>
    match slots.find? (d.slotGranted e) with
    | some s =>
      let cart := d.ch.fill.slots.get s
      ((d.takeHold cart).markChosen s).load e id (.fill s) cart mode
    | none => { d with ch := { d.ch with fill := { d.ch.fill with wait := true } } }
  | _, _, _ => d

/-- A fill item that R64 or R81 has called for is chosen, or fill has stopped being wanted: no further choice is made for that
window or plan before O or S (R103). -/
def noFillCalled (d : Desk) : Desk :=
  { d with ch := { d.ch with
    plan := d.ch.plan.map (fun p => ({ p with wantFill := false } : Plan))
    held := d.ch.held.map (fun h => (if h.stage = .call then { h with stage := .fill } else h : HeldWindow)) } }

/-- R64, R81: the choice called for, unless it waits (R104); a candidate that is loaded answers the call. -/
def chooseCalled (e : Env) (d : Desk) : Desk :=
  if d.ch.fill.wait then d
  else
    let d := d.chooseFill e .named
    if d.candidateDeck.isSome then d.noFillCalled else d

/-- R103: a candidate starts after the item before it when another item is loaded, and otherwise opens when its deck is
READY; one chosen at a retry opens (R104). -/
def openingMode (opening : Bool) (d : Desk) : StartMode :=
  if opening || (decide (d.ch.deckA.state = .idle) && decide (d.ch.deckB.state = .idle)) then .whenReady else .following

end Desk

end Sys2Proof.Machine
end

