-- ==== Sys2Proof/Machine/Loader.lean ====
section
/-! DEFINITION. Loading the next item in succession (R53): of an armed plan (R81), a split (R84), a free-length break (R59),
a window (R64, R67), and fill where it is wanted (R103). -/

namespace Sys2Proof.Machine

/-- R64: the window has reached O - 8, and a first item is prepared or its choice waits. -/
def HeldWindow.prepares (h : HeldWindow) : Bool :=
  decide (h.stage = .ring) || decide (h.stage = .call) || decide (h.stage = .fill)

namespace Desk

/-! ### Plans and splits -/

/-- The next item of a list still to be loaded: included, without a result, on no deck. -/
def nextPlanned (d : Desk) (items : List PlanItem) : Option PlanItem :=
  items.find? (fun x =>
    decide (x.inclusion = .included) && decide ((d.item x.ref).result = .none) && !d.onDeck x.ref)

/-- The next item of the list is loaded under the hold taken at planning, when a deck can be had. -/
def loadPlanned (e : Env) (items : List PlanItem) (d : Desk) : Desk :=
  match d.nextPlanned items with
  | some x =>
    match d.takeDeck with
    | some (id, d) => d.load e id (.ring x.ref) x.cart .named
    | none => d
  | none => d

/-- Both decks are used where they can be had. -/
def loadPlannedAll (e : Env) (items : List PlanItem) (d : Desk) : Desk :=
  (d.loadPlanned e items).loadPlanned e items

/-- R81 on a primed plan: its items, or the fill candidate called for where it has no included item. One that is lost before S is
not chosen again: fill is not wanted then (R103), and R86 chooses at S. -/
def servicePlan (e : Env) (p : Plan) (d : Desk) : Desk :=
  if d.emptyPlan then
    if p.wantFill then d.chooseCalled e else d
  else d.loadPlannedAll e p.items

/-- The split context changed. -/
def setSplit (x : Split) (d : Desk) : Desk := { d with ch := { d.ch with split := some x } }

/-- R84 to R87: what a split loads in its phase. The candidate that R85 calls for in phase ITEMS is chosen again where it is lost
by MEDIA_FAULT before R86: the model's choice (log 52). The first choice of phase FILL starts at the output period after this one
(R52, R86), and a later one as R103 gives. -/
def serviceSplit (e : Env) (opening : Bool) (x : Split) (d : Desk) : Desk :=
  match x.phase with
  | .items =>
    let d := d.loadPlannedAll e x.items
    if x.wantFill && !d.ch.fill.wait && (d.nextPlanned x.items).isNone then d.chooseFill e .named else d
  | .fill =>
    if d.ch.fill.wait then d
    else if x.wantFill then (d.setSplit { x with wantFill := false }).chooseFill e .following
    else d.chooseFill e (d.openingMode opening)
  | .pad => d
  | .closing => d

/-! ### Free-length breaks -/

/-- The items of the running break without a result. -/
def breakItems (d : Desk) : List ItemRef :=
  match d.ch.brk with
  | some b => d.openItems b.entries
  | none => []

/-- The next playable item of the running break to be loaded. An item that holds no cart is passed over: the item after it
takes its place (R52). -/
def nextPlayable (d : Desk) : Option ItemRef :=
  d.breakItems.find? (fun r => (d.item r).held && !d.onDeck r)

/-- R53 and R59: the next playable item of the break is loaded, when a deck can be had. -/
def loadBreakItem (e : Env) (d : Desk) : Desk :=
  match d.nextPlayable, d.takeDeck with
  | some r, some (id, d) => d.load e id (.ring r) (d.item r).cart .named
  | _, _ => d

/-- Both decks are used where they can be had. -/
def serviceBreak (e : Env) (d : Desk) : Desk := (d.loadBreakItem e).loadBreakItem e

/-! ### Windows -/

/-- R67: "If the sounding or last item was a ring item A and its entry holds item B, B is next." -/
def pendingB (d : Desk) : Option ItemRef :=
  match d.ch.lastRing with
  | some ⟨i, .a⟩ =>
    let b : ItemRef := ⟨i, .b⟩
    if (d.item b).present && decide ((d.item b).result = .none) && !d.onDeck b then some b else none
  | _ => none

/-- R67: the next ring item of a window, taken from the ring where need be. A head entry whose items are on decks, which a
chain back to itself can leave at the head, is not taken again (R31). -/
def nextWindowItem (d : Desk) : Option (ItemRef × Desk) :=
  match d.pendingB with
  | some r => some (r, d)
  | none =>
    match (d.openItems [d.ch.head]).find? (fun r => !d.onDeck r), d.takeSingly with
    | some r, some (_, d) => some (r, d)
    | _, _ => none

/-- One ring item of a window loaded, a hold claimed for it; items whose claim is refused receive NOT_READY on the way
(R51, R67). The flag says that an item was loaded. -/
def loadWindowItem (e : Env) : Nat → Desk → Desk × Bool
  | 0, d => (d, false)
  | fuel + 1, d =>
    if d.takeDeck.isSome then
      match d.nextWindowItem with
      | none => (d, false)
      | some (r, d) =>
        let d := { d with ch := { d.ch with lastRing := some r } }
        let d := d.claim e r
        if (d.item r).held then
          match d.takeDeck with
          | some (id, d) => (d.load e id (.ring r) (d.item r).cart .named, true)
          | none => (d, false)
        else loadWindowItem e fuel (d.finishUnsounded e .notReady r)
    else (d, false)

/-- The items a ring can hold. -/
def ringFuel : Nat := 258

/-- One item chosen in LOCAL: a ring item, or else fill (R67). While a candidate waits the next item is known. A ring item
taken ends a fill wait (log 42), and a fill item chosen beside it follows it. -/
def localNext (e : Env) (opening : Bool) (d : Desk) : Desk :=
  if d.candidateDeck.isSome && d.pendingB.isNone then d
  else
    let (d, loaded) := d.loadWindowItem e ringFuel
    if loaded then d.noFillWait
    else if d.ch.fill.wait || decide (d.headEntry.owner = .channel) then d
    else d.chooseFill e (d.openingMode (opening && !d.ringWaiting))

/-- R67: items chosen while decks are IDLE, until the closing fade. -/
def serviceLocal (e : Env) (opening : Bool) (d : Desk) : Desk :=
  match d.ch.window with
  | some w => if w.ends.isSome then d else (d.localNext e opening).localNext e opening
  | none => d

/-- R67: at the end of a fill item in LOCAL a head that has become CHANNEL-owned takes the place of the candidate that waits on the
other deck. Where the fill item ends at an output period, that one item starts in that same period, which R67 names, and not at the
period after loading as R52 would have it (log 45). What comes after it is loaded at the end of the period, as is a head entry that
replaces no candidate, and starts at the next period at the earliest (R52). -/
def lookAtHead (e : Env) (d : Desk) : Desk :=
  match d.ch.window with
  | some w =>
    if w.ends.isNone && d.candidateDeck.isSome && decide (d.headEntry.owner = .channel) then d.giveUpCandidate.localNext e false
    else d
  | none => d

/-- The stage of the held window set. -/
def setStage (x : WindowStage) (d : Desk) : Desk :=
  { d with ch := { d.ch with held := d.ch.held.map (fun h => ({ h with stage := x } : HeldWindow)) } }

/-- R64 where the ring gives no first item at O - 8: a fill item is called for unless one sounds. -/
def prepareNoRing (e : Env) (d : Desk) : Desk :=
  if d.fillSounds then d.setStage .nothing else (d.setStage .call).noFillWait.chooseCalled e

/-- R64, CHANNEL-owned head: the first ring item of a held window, loaded when a deck can be had; `otherwise` where the ring gives
none. -/
def prepareRing (e : Env) (otherwise : Desk → Desk) (d : Desk) : Desk :=
  if d.ringWaiting then d
  else
    let (d, loaded) := d.loadWindowItem e ringFuel
    if loaded then d.noFillWait
    else if d.headEntry.owner = .channel then d
    else otherwise d

/-- R64, first step: the first item prepared, by the head as it stands at this event alone. -/
def prepareWindow (e : Env) (d : Desk) : Desk :=
  if d.headEntry.owner = .channel then (d.setStage .ring).prepareRing e (prepareNoRing e) else d.prepareNoRing e

/-! ### Every state -/

/-- R103: fill in FALLBACK, while no plan is primed and no window has prepared its first item. -/
def serviceFallback (e : Env) (opening : Bool) (d : Desk) : Desk :=
  if d.ch.state = .fallback && !d.ch.fill.wait then d.chooseFill e (d.openingMode opening) else d

/-- R64: what a held window keeps prepared from O - 8 on; until then, and beside a sounding fill item, the fill of FALLBACK. A ring
item lost before O is replaced by the next of the ring, and by nothing where the ring gives none (log 29); a fill item lost there
is not chosen again (R103). -/
def serviceHeld (e : Env) (opening : Bool) (h : HeldWindow) (d : Desk) : Desk :=
  match h.stage with
  | .ring => d.prepareRing e (setStage .fill)
  | .call => d.chooseCalled e
  | .fill => d
  | .waiting | .nothing => d.serviceFallback e opening

/-- R53 and R103: the channel loads what comes next. -/
def serviceAs (opening : Bool) (e : Env) (d : Desk) : Desk :=
  match d.ch.state with
  | .bypass => d
  | .pass | .fallback =>
    match d.ch.plan, d.ch.held with
    | some p, _ => if p.primed then d.servicePlan e p else d.serviceFallback e opening
    | none, some h => d.serviceHeld e opening h
    | none, none => d.serviceFallback e opening
  | .split =>
    match d.ch.split with
    | some x => d.serviceSplit e opening x
    | none => d
  | .brk =>
    match d.ch.brk with
    | some b => if b.closing = .none then d.serviceBreak e else d
    | none => d
  | .loc => d.serviceLocal e opening

/-- What comes next, loaded. -/
def service (e : Env) (d : Desk) : Desk := d.serviceAs false e

/-- R180, R182: the item on a deck is given up with MEDIA_FAULT; a fill item that sounded in LOCAL has ended, and the head is
looked at again (R67, R107). -/
def faultDeck (e : Env) (id : DeckId) (d : Desk) : Desk :=
  let k := d.deck id
  let d := d.mediaFault e id
  if k.sounding && k.fillItem.isSome then d.lookAtHead e else d

/-- R104: a retry of a fill choice that waits. -/
def retryFill (e : Env) (d : Desk) : Desk :=
  if d.ch.fill.wait then d.noFillWait.serviceAs true e else d

end Desk

end Sys2Proof.Machine
end

