-- ==== Sys2Proof/Machine/Break.lean ====
section
/-! DEFINITION. Free-length breaks (R59 to R62), triggers (R55, R57) and the choice at the end of an insert state (R69). -/

namespace Sys2Proof.Machine

namespace Desk

/-- R69: at the end of an insert state the channel goes to PASS where frame P is present and the feed is good, and otherwise
to FALLBACK with its record. A candidate left over is given up on the way to PASS, where fill is not wanted (log 18). -/
def leaveInsert (e : Env) (d : Desk) : Desk :=
  let d := { d with ch := { d.ch with split := none, brk := none, window := none, lastRing := none } }
  if e.present && !e.broken d.ch.settings then d.giveUpCandidate.setState .pass
  else (d.setState .fallback).record e (note .fallbackStart e.pos)

/-- Items that have not begun to sound receive a result, in order of succession; a deck that holds one becomes IDLE. -/
def cutWaiting (e : Env) (result : Result) (refs : List ItemRef) (d : Desk) : Desk :=
  refs.foldl
    (fun d r =>
      if d.ch.deckA.ringItem == some r then (if d.ch.deckA.sounding then d else d.endDeck e .a result)
      else if d.ch.deckB.ringItem == some r then (if d.ch.deckB.sounding then d else d.endDeck e .b result)
      else d.finishUnsounded e result r)
    d

/-- The break context changed. -/
def setBreak (b : BreakCtx) (d : Desk) : Desk := { d with ch := { d.ch with brk := some b } }

/-- A BREAK_START record of a free-length break. -/
def breakStarted (e : Env) (number : BreakNo) (d : Desk) : Desk :=
  d.record e { note .breakStart e.pos with breakNo := some number }

/-- A BREAK_END record. -/
def breakEnded (e : Env) (number : BreakNo) (reason : Reason) (position : FrameNo) (frames : BitVec 32) (d : Desk) : Desk :=
  d.record e { note .breakEnd position with breakNo := some number, reason := some reason, frames := some frames }

/-- The context of a break just gathered. -/
def newBreak (number : BreakNo) (entries : List (Fin 128)) (fromPass : Bool) : BreakCtx :=
  { breakNo := number, entries := entries, start := none, ran := 0, guardPoint := none, closing := .none, fromPass := fromPass }

/-- R60: a break with no playable item: its items receive NOT_READY, and it starts and ends at P. The desk answered has no
break context. -/
def emptyBreak (e : Env) (number : BreakNo) (entries : List (Fin 128)) (d : Desk) : Desk :=
  let d := d.setBreak (newBreak number entries false)
  let d := (d.openItems entries).foldl (finishUnsounded e .notReady) d
  let d := (d.breakStarted e number).breakEnded e number .endNormal e.pos 0
  { d with ch := { d.ch with brk := none } }

/-- Items that hold no cart receive NOT_READY, in order of succession (R52). -/
def passItems (e : Env) (refs : List ItemRef) (d : Desk) : Desk := refs.foldl (finishUnsounded e .notReady) d

/-- R41 and R52: the items of the break that are not playable and reached in succession now: those before the first playable
one while nothing of the break has sounded (R59), and then each as its start point comes by the item before it. -/
def reachedItems (d : Desk) : List ItemRef :=
  match d.ch.brk with
  | some b => (d.breakItems.dropWhile d.sounds).takeWhile (fun r =>
      !(d.item r).held && (b.start.isNone || d.ringDue r d.latestDeck))
  | none => []

def passReached (e : Env) (d : Desk) : Desk := d.passItems e d.reachedItems

/-- The items of the break before r that are not playable: they are reached at the latest when r starts (log 13). -/
def passBefore (e : Env) (r : ItemRef) (d : Desk) : Desk :=
  d.passItems e ((d.breakItems.takeWhile (fun x => x != r)).filter (fun x => !d.sounds x && !(d.item x).held))

/-- R59 step 4: the break just gathered begins to be aired. -/
def airBreak (e : Env) (b : BreakCtx) (d : Desk) : Desk := (((d.setBreak b).setState .brk).passReached e).serviceBreak e

/-- R59 steps 2 to 4 for a break gathered in PASS or FALLBACK; R60 where no item is playable. -/
def startBreak (e : Env) (number : BreakNo) (entries : List (Fin 128)) (d : Desk) : Desk :=
  let refs := d.openItems entries
  let d := refs.foldl (fun d r => d.claim e r) d
  if refs.any (fun r => (d.item r).held) then
    let before := d.ch.state
    let d := if before = .fallback then d.record e (note .fallbackEnd e.pos) else d
    d.airBreak e (newBreak number entries (decide (before = .pass)))
  else d.emptyBreak e number entries

/-- R62: the head break started in place of the one that a TAKE hard aborted, the channel staying in BREAK. -/
def restartBreak (e : Env) (d : Desk) : Desk :=
  match d.gather e with
  | none => (d.record e { note .triggerIgnored e.pos with reason := some .empty, ring := some (d.ch.head, none) }).leaveInsert e
  | some (number, entries, d) =>
    let refs := d.openItems entries
    let d := refs.foldl (fun d r => d.claim e r) d
    if refs.any (fun r => (d.item r).held) then
      d.airBreak e (newBreak number entries false)
    else (d.emptyBreak e number entries).leaveInsert e

/-- R55: a trigger on a channel whose source is selected, judged by the channel's state. -/
def trigger (e : Env) (d : Desk) : Desk :=
  let busy := d.record e { note .triggerIgnored e.pos with reason := some .busy }
  match d.ch.state with
  | .bypass => d
  | .pass | .fallback =>
    if d.committed then busy
    else
      match d.gather e with
      | some (number, entries, d) => d.startBreak e number entries
      | none => d.record e { note .triggerIgnored e.pos with reason := some .empty, ring := some (d.ch.head, none) }
  | .split | .brk | .loc => busy

/-- R62: the event of a TAKE hard accepted in BREAK. The closing fade is one of F output periods for a break that has
sounded, and none for one that has not. Where the break has sounded and no deck sounds at the event, the F output periods still
run, silent: the model's choice (log 51). -/
def takeHard (e : Env) (d : Desk) : Desk :=
  match d.ch.brk with
  | none => d
  | some b =>
    let d := d.cutWaiting e .cutOff d.breakItems
    let f := d.ch.settings.fade
    if b.start.isSome then
      let d := d.closeAll f
      { d with ch := { d.ch with brk := d.ch.brk.map (fun b => ({ b with closing := .take f true } : BreakCtx)) } }
    else { d with ch := { d.ch with brk := d.ch.brk.map (fun b => ({ b with closing := .take 0 false } : BreakCtx)) } }

/-- R61: the guard point of a started break whose closing fade has not begun, by the overrun guard setting. -/
def placeGuard (d : Desk) : Desk :=
  let g := d.ch.settings.guard
  { d with ch := { d.ch with brk := d.ch.brk.map (fun b =>
    (if b.closing = .none then
      { b with guardPoint := if g = 0 then none else b.start.map (fun p => p + frames g) }
    else b : BreakCtx)) } }

/-! ### What a break does at an output period -/

/-- R62: the output period after the fade of a TAKE hard. A fill item still sounding from FALLBACK is cut, since the output
carries silence from here until the new first item (log 36). -/
def endTake (e : Env) (b : BreakCtx) (d : Desk) : Desk :=
  let d := (d.endSounding e).breakEnded e b.breakNo .endTake e.pos (BitVec.ofNat 32 b.ran)
  restartBreak e d

/-- R61: the guard point: each item still sounding ends (log 16 on the frames). -/
def endGuard (e : Env) (b : BreakCtx) (point : FrameNo) (d : Desk) : Desk :=
  ((d.endSounding e).breakEnded e b.breakNo .endGuard point (point - b.start.getD point)).leaveInsert e

/-- R61: the normal end, when every entry has returned. A break that never sounded writes both records here. -/
def endNormal (e : Env) (b : BreakCtx) (d : Desk) : Desk :=
  let d := if b.start.isSome then d else d.breakStarted e b.breakNo
  (d.breakEnded e b.breakNo .endNormal e.pos (BitVec.ofNat 32 b.ran)).leaveInsert e

/-- The normal end, where it has come. Items of a started break that are not playable and reached now go first. -/
def endsNormally (e : Env) (b : BreakCtx) (d : Desk) : Desk :=
  let passed := if b.start.isSome then d.passReached e else d
  match passed.ch.brk with
  | some b => if b.entries.isEmpty then passed.endNormal e b else d
  | none => d

/-- The end of a break, if it ends at this output period. -/
def breakEnds (e : Env) (d : Desk) : Desk :=
  match d.ch.brk with
  | none => d
  | some b =>
    match b.closing with
    | .take left _ => if left = 0 then d.endTake e b else d
    | .guard =>
      match b.guardPoint with
      | some p => if e.live && decide (e.pos = p) then d.endGuard e b p else d.endsNormally e b
      | none => d.endsNormally e b
    | .none => d.endsNormally e b

/-- R61: the closing fade of the overrun guard, when P reaches the guard point less F. Where that is past, by a guard shortened
or an F lengthened (log 39), it begins now and the guard point becomes P plus F. -/
def breakCloses (e : Env) (d : Desk) : Desk :=
  match d.ch.brk with
  | none => d
  | some b =>
    match b.closing, b.guardPoint with
    | .none, some p =>
      let f := d.ch.settings.fade
      if e.live && atOrAfter e.pos (p - frames f) then
        let point := if e.pos = p - frames f then p else e.pos + frames f
        let d := d.setBreak { b with guardPoint := some point, closing := .guard }
        (d.closeAll f).cutWaiting e .cutOff d.breakItems
      else d
    | _, _ => d

end Desk

end Sys2Proof.Machine
end

