-- ==== Sys2Proof/Machine/Window.lean ====
section
/-! DEFINITION. Local windows (R63 to R67): the window cues as a channel judges them, the held window, its opening and its
closing, and the meanings of WINDOW_OPEN and WINDOW_CLOSE. -/

namespace Sys2Proof.Machine

namespace Desk

/-- A CUE_IGNORED record: channel, position P, reason, break number where the cue has one, detail. -/
def cueIgnored (e : Env) (reason : Reason) (number : Option BreakNo) (detail : Option FrameNo) (d : Desk) : Desk :=
  d.record e { note .cueIgnored e.pos with reason := some reason, breakNo := number, detail := detail }

/-- R64: the held window is prepared when P reaches O - 8, or is past it where it is accepted. One whose O - 8 a re-base passes over
is prepared at the first output period past it (log 48). -/
def windowPrimes (e : Env) (d : Desk) : Desk :=
  match d.ch.held with
  | some h =>
    if h.stage = .waiting && atOrAfter e.pos (h.opens - frames Config.primeLead) then d.prepareWindow e else d
  | none => d

/-- R64, last paragraph: a ring item prepared on a deck is returned: no record, the hold released, the entry waiting again,
the head back on it. -/
def returnPrepared (id : DeckId) (d : Desk) : Desk :=
  let k := d.deck id
  match k.waiting, k.ringItem with
  | true, some r =>
    let d := (d.unhold r).setDeck id k.idled
    { d with ch := { d.ch with head := r.index } }
  | _, _ => d

/-- The held window discarded with what it prepared (R14, R64, R65). A fill candidate goes too, even one that FALLBACK chose and
that stood beside a prepared ring item (log 18). -/
def discardWindow (d : Desk) : Desk :=
  match d.ch.held with
  | none => d
  | some h =>
    let d :=
      if h.prepares then ((d.returnPrepared .a).returnPrepared .b).giveUpCandidate.fillUnwanted else d
    { d with ch := { d.ch with held := none, lastRing := none } }

/-- R63: a WINDOW_OPEN cue. -/
def judgeWindowOpen (e : Env) (opens : FrameNo) (closes : Option FrameNo) (d : Desk) : Desk :=
  let repeated :=
    (match d.ch.held with | some h => decide (h.opens = opens) | none => false) ||
    (match d.ch.window with | some w => decide (w.opens = opens) | none => false)
  let short := match closes with
    | some c => !isAfter c (opens + frames (2 * d.ch.settings.fade))
    | none => false
  if d.ch.state = .bypass then d
  else if repeated then d
  else if !(decide (d.ch.state = .pass) || decide (d.ch.state = .fallback)) || d.committed then
    d.cueIgnored e .cueState none (some opens)
  else if !isAfter opens e.pos then d.cueIgnored e .cueLate none (some opens)
  else if short then d.cueIgnored e .cueShort none (some opens)
  else
    let d := { d with ch := { d.ch with held := some { opens := opens, closes := closes, stage := .waiting }, lastRing := none } }
    d.windowPrimes e

/-- R65: a WINDOW_CLOSE cue. A record that it gives carries the O of the window in hand (R63), and no detail where the channel
has none (log 38). -/
def judgeWindowClose (e : Env) (closes : FrameNo) (d : Desk) : Desk :=
  match d.ch.state, d.ch.held, d.ch.window with
  | .bypass, _, _ => d
  | .loc, _, some w =>
    if w.ends.isSome then (if w.closes = some closes then d else d.cueIgnored e .cueState none (some w.opens))
    else { d with ch := { d.ch with window := some { w with closes := some closes } } }
  | _, some h, _ =>
    if isAfter closes (h.opens + frames (2 * d.ch.settings.fade)) then
      { d with ch := { d.ch with held := some { h with closes := some closes } } }
    else (d.discardWindow.cueIgnored e .cueShort none (some h.opens)).service e
  | _, none, _ => d.cueIgnored e .cueState none none

/-! ### What a window does at an output period -/

/-- The fill candidate starts when nothing sounds, from this event (R86, and R64 at O). -/
def candidateFollows (d : Desk) : Desk :=
  match d.candidateDeck with
  | some id => d.setDeck id { d.deck id with mode := .following }
  | none => d

/-- R64: the held window opens at this output period. -/
def opensNow (e : Env) (h : HeldWindow) (d : Desk) : Bool :=
  e.live && decide (e.pos = h.opens) && (decide (d.ch.state = .pass) || decide (d.ch.state = .fallback))

/-- A window opens at this output period while a fill choice waits: the change of state retries it (R104). -/
def opensWaiting (e : Env) (d : Desk) : Bool := d.ch.fill.wait && d.ch.held.any (fun h => d.opensNow e h)

/-- R64, second step: P reaches O. A prepared ring item cuts in over a sounding fill item. -/
def windowOpens (e : Env) (d : Desk) : Desk :=
  match d.ch.held with
  | some h =>
    if d.opensNow e h then
      let before := d.ch.state
      let d := { d with ch := { d.ch with
        held := none, window := some { opens := h.opens, closes := h.closes, ends := none } } }
      let d := (d.setState .loc).record e (note .windowStart h.opens)
      let d := if before = .fallback then d.record e (note .fallbackEnd e.pos) else d
      if d.ringWaiting then (d.cutFill e).giveUpCandidate else d.candidateFollows
    else d
  | none => d

/-- The ring items that the window took and that have not begun to sound (R66). -/
def windowItems (d : Desk) : List ItemRef :=
  let onDecks := d.decksInOrder.flatMap (fun id =>
    match (d.deck id).waiting, (d.deck id).ringItem with
    | true, some r => [r]
    | _, _ => [])
  onDecks ++ (match d.pendingB with
    | some r => [r]
    | none => [])

/-- R66: the closing fade begins when P reaches C' - F, or is past it; C' is then P plus F. Where C - F is already past as the window
opens, or comes to be past without a close cue (an F lengthened, or a re-base over C - F), that P is the output period at hand, O
itself at the opening, and not the one after it: the model's choice (log 53). -/
def windowCloses (e : Env) (d : Desk) : Desk :=
  match d.ch.window with
  | some w =>
    match w.closes with
    | some c =>
      let f := d.ch.settings.fade
      if w.ends.isNone && e.live && atOrAfter e.pos (c - frames f) then
        let c' := if e.pos = c - frames f then c else e.pos + frames f
        let d := { d with ch := { d.ch with window := some { w with ends := some c' } } }
        ((d.closeAll f).cutWaiting e .cutOff d.windowItems).giveUpCandidate.noFillWait
      else d
    | none => d
  | none => d

/-- R66: P reaches C': each item still sounding ends and the channel leaves LOCAL. -/
def windowEnds (e : Env) (d : Desk) : Desk :=
  match d.ch.window.bind (·.ends) with
  | some c =>
    if e.live && decide (e.pos = c) then ((d.endSounding e).record e (note .windowEnd c)).leaveInsert e else d
  | none => d

end Desk

/-- A cue acts on each channel whose output is in its target (R194, R198), channel 0 first: the order is free. -/
def State.onOutputs (s : State) (address : Address) (rule : Env → Desk → Desk) : State :=
  let t := s.intake.resolve address
  (List.finRange 4).foldl (fun s n => if t.hasOutput n then s.onChannel n rule else s) s

/-- WINDOW_OPEN (R63, R198). -/
def execWindowOpen (address : Address) (opens : FrameNo) (closes : Option FrameNo) (s : State) :
    Host.Outcome State Fault Refusal :=
  .next <| s.onOutputs address (fun e d => d.judgeWindowOpen e opens closes)

/-- WINDOW_CLOSE (R65, R198). -/
def execWindowClose (address : Address) (closes : FrameNo) (s : State) : Host.Outcome State Fault Refusal :=
  .next <| s.onOutputs address (fun e d => d.judgeWindowClose e closes)

end Sys2Proof.Machine
end

