-- ==== Sys2Proof/Machine/Split.lean ====
section
/-! DEFINITION. Split planning and rejoin (chapter 4): judging an announce, head matching, building and fitting the plan,
priming, split start, exhaustion, closing fade, rejoin and cancel, and the meanings of SPLIT_ANNOUNCE and SPLIT_CANCEL. -/

namespace Sys2Proof.Machine

/-! ### The timeline (R78 to R80) -/

/-- R78: included items placed in order, each by its own segue from the included item before it. -/
def place (own : ItemRef → Segue) : Option PlanItem → List PlanItem → List PlanItem
  | _, [] => []
  | pred, x :: rest =>
    if x.inclusion = .included then
      let placed : PlanItem :=
        match pred with
        | none => { x with segue := .cut, offset := 0 }
        | some p =>
          { x with
            segue := own x.ref
            offset := if own x.ref = .cut then p.offset + p.length else p.offset + p.segueOut }
      placed :: place own (some placed) rest
    else x :: place own pred rest

/-- R79: the largest end over placed included items. -/
def largestEnd (f : Nat) : List PlanItem → Nat
  | [] => 0
  | [x] => x.offset + x.length
  | x :: y :: rest =>
    let fin := if y.segue = .fade then y.offset + min f (x.length - x.segueOut) else x.offset + x.length
    max fin (largestEnd f (y :: rest))

def includedItems (items : List PlanItem) : List PlanItem := items.filter (fun x => decide (x.inclusion = .included))

/-- The planned length T. -/
def plannedLength (f : Nat) (items : List PlanItem) : Nat := largestEnd f (includedItems items)

/-- R80: the included droppable item latest in order of succession marked DROPPED, if there is one. -/
def dropLatest (droppable : ItemRef → Bool) : List PlanItem → Option (List PlanItem)
  | [] => none
  | x :: rest =>
    match dropLatest droppable rest with
    | some rest' => some (x :: rest')
    | none =>
      if x.inclusion = .included && droppable x.ref then
        some ({ x with inclusion := .dropped, offset := 0, segue := .cut } :: rest)
      else none

/-- R80: dropped one at a time while T exceeds L; `fuel` is the number of items. -/
def fitPlan (own : ItemRef → Segue) (droppable : ItemRef → Bool) (f l : Nat) : Nat → List PlanItem → List PlanItem
  | 0, items => items
  | fuel + 1, items =>
    if plannedLength f items > l then
      match dropLatest droppable items with
      | some items' => fitPlan own droppable f l fuel (place own none items')
      | none => items
    else items

namespace Desk

/-- R77: an item of the break as it enters the plan, after its claim. -/
def planItem (e : Env) (d : Desk) (r : ItemRef) : PlanItem :=
  let i := d.item r
  let size := (e.catalog.get i.cart).size
  { ref := r, cart := i.cart, inclusion := if i.held then .included else .notReady, segue := .cut, offset := 0,
    length := size.elim 0 (·.length), segueOut := size.elim 0 (·.segueOut) }

/-- R41, R77, R80: the provisional results of a plan's excluded items. -/
def markProvisional (d : Desk) (x : PlanItem) : Desk :=
  match x.inclusion with
  | .included => d
  | .dropped => d.setItem x.ref { d.item x.ref with result := .dropped, provisional := true }
  | .notReady => d.setItem x.ref { d.item x.ref with result := .notReady, provisional := true }

def setPlan (p : Plan) (d : Desk) : Desk := { d with ch := { d.ch with plan := some p } }

/-- R81: the plan is primed. A candidate left from FALLBACK makes way for the choice of a plan with no included item
(log 19). -/
def primePlan (e : Env) (p : Plan) (d : Desk) : Desk :=
  let p := { p with primed := true, wantFill := p.noneIncluded && decide (p.length.toNat > d.ch.settings.pad) }
  let d := (d.setPlan p).noFillWait
  let d := if p.wantFill then d.giveUpCandidate else d
  d.servicePlan e p

/-- R81: the plan is primed when P reaches S - 8, or is past it where it is armed. A plan armed between a re-base and its output
period, whose S - 8 the re-base passes over (R1), is primed at the first output period past S - 8 (log 48). -/
def planPrimes (e : Env) (d : Desk) : Desk :=
  match d.ch.plan with
  | some p =>
    if !p.primed && atOrAfter e.pos (p.start - frames Config.primeLead) then d.primePlan e p else d
  | none => d

/-- A plan armed, and primed at once where S - 8 is at or before P. -/
def armPlan (e : Env) (p : Plan) (d : Desk) : Desk := (d.setPlan p).planPrimes e

/-- R77 to R80: the break gathered at the head planned for S, E and L as judged. -/
def planBreak (e : Env) (a : Announce) (entries : List (Fin 128)) (d : Desk) : Desk :=
  let refs := d.openItems entries
  let d := refs.foldl (fun d r => d.claim e r) d
  let own := fun r : ItemRef => (d.entry r.index).ownSegue r.part
  let droppable := fun r : ItemRef => (d.entry r.index).droppable
  let f := d.ch.settings.fade
  let items := fitPlan own droppable f a.length.toNat refs.length (place own none (refs.map (d.planItem e)))
  let d := items.foldl markProvisional d
  d.armPlan e { breakNo := a.breakNo, start := a.start, stop := a.start + a.length, length := a.length, items := items,
                planned := plannedLength f items, primed := false, wantFill := false }

/-- R76: an unplanned split. -/
def unplanned (e : Env) (a : Announce) (d : Desk) : Desk :=
  let policy := d.ch.settings.policy
  let d := d.record e { note .splitUnplanned a.start with
    breakNo := some a.breakNo, ring := some (d.ch.head, none), reason := some (.policy policy), frames := some a.length }
  match policy with
  | .passNetwork => { d with ch := { d.ch with lastTaken := some a.breakNo } }
  | .fill =>
    d.armPlan e { breakNo := a.breakNo, start := a.start, stop := a.start + a.length, length := a.length, items := [],
                  planned := 0, primed := false, wantFill := false }

/-- R75: a missed break b, gathered and skipped. -/
def skipBreak (e : Env) (number : BreakNo) (entries : List (Fin 128)) (d : Desk) : Desk :=
  (d.openItems entries).foldl (fun d r => d.settle e r .skipped (some (number, e.pos, 0))) d

/-- R75: head matching; every pass that goes on returns an entry to the hub, so `fuel` need not exceed the ring. -/
def matchHead (e : Env) (a : Announce) : Nat → Desk → Desk
  | 0, d => d.unplanned e a
  | fuel + 1, d =>
    if d.headEntry.startsBreak then
      if d.headEntry.breakNo = a.breakNo then
        match d.gather e with
        | some (_, entries, d) => d.planBreak e a entries
        | none => d
      else if isBefore d.headEntry.breakNo a.breakNo then
        match d.gather e with
        | some (number, entries, d) => matchHead e a fuel (d.skipBreak e number entries)
        | none => d
      else d.unplanned e a
    else d.unplanned e a

/-- R74 and R75: lateness, length and head, against the P of the event. -/
def judgeTiming (e : Env) (a : Announce) (d : Desk) : Desk :=
  let stop := a.start + a.length
  let early := e.pos + frames Config.primeLead
  let start := if isBefore a.start early then early else a.start
  if !isAfter stop early then d.cueIgnored e .cueLate (some a.breakNo) (some a.start)
  else if (stop - start).toNat < 2 * d.ch.settings.fade then d.cueIgnored e .cueShort (some a.breakNo) (some a.start)
  else d.matchHead e { a with start := start, length := stop - start } 129

/-- The end frame of the split being aired or of the armed plan. -/
def stopInHand (d : Desk) : Option FrameNo :=
  match d.ch.split, d.ch.plan with
  | some x, _ => some x.stop
  | none, some p => some p.stop
  | none, none => none

/-- R71 step 2: c repeats the plan, the split, the pending announce or the last-taken break number. -/
def repeats (d : Desk) (c : BreakNo) : Bool :=
  d.ch.plan.any (fun p => decide (p.breakNo = c)) || d.ch.split.any (fun x => decide (x.breakNo = c)) ||
    d.ch.pending.any (fun a => decide (a.breakNo = c)) || d.ch.lastTaken.any (fun b => decide (b = c))

/-- R71 from step 2. -/
def judgeFresh (e : Env) (a : Announce) (d : Desk) : Desk :=
  if d.repeats a.breakNo then d
  else if decide (d.ch.state = .loc) || decide (d.ch.state = .brk) || d.ch.held.isSome then
    d.cueIgnored e .cueState (some a.breakNo) (some a.start)
  else
    match d.stopInHand with
    | some stop =>
      if atOrAfter a.start stop && d.ch.pending.isNone then { d with ch := { d.ch with pending := some a } }
      else d.cueIgnored e .cueConflict (some a.breakNo) (some a.start)
    | none => d.judgeTiming e a

/-- R54 and R71: a SPLIT_ANNOUNCE cue. -/
def judgeAnnounce (e : Env) (a : Announce) (d : Desk) : Desk :=
  if d.ch.state = .bypass then d
  else if d.ch.settings.source = .cue then d.judgeFresh e a
  else d.cueIgnored e .cueSource (some a.breakNo) (some a.start)

/-- R73: the pending announce taken out of its slot and judged afresh. -/
def processPending (e : Env) (d : Desk) : Desk :=
  match d.ch.pending with
  | some a => ({ d with ch := { d.ch with pending := none } } : Desk).judgeFresh e a
  | none => d

/-! ### Cancel (R91 to R94) -/

def splitCancelled (e : Env) (number : BreakNo) (k : FrameNo) (d : Desk) : Desk :=
  d.record e { note .splitCancelled e.pos with breakNo := some number, detail := some k }

/-- R92: an armed plan dropped. The fill candidate that waits beside a primed plan with no included item is given up, whether it
was loaded for the plan or by FALLBACK (log 18). -/
def cancelPlan (e : Env) (p : Plan) (k : FrameNo) (d : Desk) : Desk :=
  let d := if p.primed && d.emptyPlan then d.giveUpCandidate.fillUnwanted else d
  let d := d.cutWaiting e .cancelled (p.items.map (·.ref))
  let d := { d with ch := { d.ch with plan := none, lastTaken := some p.breakNo } }
  ((d.splitCancelled e p.breakNo k).processPending e).service e

/-- R94: a cancel of the split being aired. -/
def cancelSplit (e : Env) (x : Split) (k : FrameNo) (d : Desk) : Desk :=
  let soonest := e.next + frames d.ch.settings.fade
  let rejoin := if isAfter k soonest then k else soonest
  let earlier := match x.rejoin with
    | none => true
    | some r => isBefore rejoin r
  if atOrAfter rejoin x.stop then d
  else if earlier && decide (x.phase ≠ .closing) then
    { d with ch := { d.ch with
      split := some { x with rejoin := some rejoin, fadeStart := rejoin - frames d.ch.settings.fade } } }
  else d

/-- R91: a SPLIT_CANCEL cue: the armed plan, the split, or the pending announce with number c, or none. -/
def judgeCancel (e : Env) (c : BreakNo) (k : FrameNo) (d : Desk) : Desk :=
  if d.ch.state = .bypass then d
  else
    match d.ch.plan.filter (fun p => decide (p.breakNo = c)), d.ch.split.filter (fun x => decide (x.breakNo = c)),
      d.ch.pending.filter (fun a => decide (a.breakNo = c)) with
    | some p, _, _ => d.cancelPlan e p k
    | none, some x, _ => d.cancelSplit e x k
    | none, none, some _ => ({ d with ch := { d.ch with pending := none } } : Desk).splitCancelled e c k
    | none, none, none => d.cueIgnored e .cueState (some c) (some k)

/-! ### What a split does at an output period -/

/-- R88: the fade start of a split that rejoins at E. -/
def fadeStartOf (f : Nat) (start stop : FrameNo) : FrameNo :=
  if isBefore (stop - frames f) start then start else stop - frames f

/-- R82 step 5: a provisional result becomes final. -/
def settleProvisional (e : Env) (number : BreakNo) (d : Desk) (x : PlanItem) : Desk :=
  if (d.item x.ref).provisional then d.settle e x.ref (d.item x.ref).result (some (number, e.pos, 0)) else d

/-- R82, R83: the split starts. A candidate that is not the plan's own is given up (log 18); the pass position is the start
slot and the exhausted mark clear, whatever was chosen for the plan before S (R102, log 19). -/
def startSplit (e : Env) (p : Plan) (d : Desk) : Desk :=
  let d := if d.ch.state = .fallback then d.record e (note .fallbackEnd p.start) else d
  let d := d.cutFill e
  let d := if d.emptyPlan then d else d.giveUpCandidate
  let items := p.items.filter (fun x => decide (x.inclusion = .included) && decide ((d.item x.ref).result = .none))
  let d := d.record e { note .breakStart p.start with
    breakNo := some p.breakNo, frames := some p.length, detail := some (BitVec.ofNat 32 p.planned) }
  let split : Split :=
    { breakNo := p.breakNo, start := p.start, stop := p.stop, length := p.length, planned := p.planned, items := items,
      phase := .items, rejoin := none, fadeStart := fadeStartOf d.ch.settings.fade p.start p.stop,
      pass := d.ch.fill.start, exhausted := false, wantFill := false }
  let d := { d with ch := { d.ch with plan := none, split := some split, lastTaken := some p.breakNo } }
  p.items.foldl (settleProvisional e p.breakNo) (d.setState .split)

/-- The split starts when P reaches S. -/
def splitStarts (e : Env) (d : Desk) : Desk :=
  match d.ch.plan with
  | some p =>
    if e.live && decide (e.pos = p.start) && (decide (d.ch.state = .pass) || decide (d.ch.state = .fallback)) then
      d.startSplit e p
    else d
  | none => d

/-- R86: the break items are exhausted; fill or padding follows by the remainder. A candidate already loaded starts now; where
there is none a choice is called for, even if an earlier one waits. -/
def splitExhausted (e : Env) (d : Desk) : Desk :=
  match d.ch.split with
  | some x =>
    if x.phase = .items && x.items.isEmpty then
      if signedDiff (x.rejoin.getD x.stop) e.pos > d.ch.settings.pad then
        if d.candidateDeck.isSome then (d.setSplit { x with phase := .fill, wantFill := false }).candidateFollows
        else (d.setSplit { x with phase := .fill, wantFill := true }).noFillWait
      else ((d.setSplit { x with phase := .pad, wantFill := false }).giveUpCandidate).noFillWait
    else d
  | none => d

/-- R88, R89, R95: the closing fade begins. -/
def splitCloses (e : Env) (d : Desk) : Desk :=
  match d.ch.split with
  | some x =>
    if decide (x.phase ≠ .closing) && e.live && atOrAfter e.pos x.fadeStart then
      let g := (x.rejoin.getD x.stop - e.pos).toNat
      let result : Result := if x.rejoin.isSome then .cancelled else .cutOff
      let d := d.setSplit { x with phase := .closing, wantFill := false }
      (((d.closeAll g).cutWaiting e result (x.items.map (·.ref))).giveUpCandidate).noFillWait
    else d
  | none => d

/-- R90, R95: the split ends at its rejoin frame or at E. -/
def endSplit (e : Env) (x : Split) (reason : Reason) (position : FrameNo) (frames : BitVec 32) (d : Desk) : Desk :=
  (((d.endSounding e).breakEnded e x.breakNo reason position frames).leaveInsert e).processPending e

def splitEnds (e : Env) (d : Desk) : Desk :=
  match d.ch.split with
  | some x =>
    if e.live && x.rejoin == some e.pos then d.endSplit e x .endCancel e.pos (e.pos - x.start)
    else if e.live && decide (e.pos = x.stop) then d.endSplit e x .endNormal e.pos x.length
    else d
  | none => d

end Desk

/-- SPLIT_ANNOUNCE (R71, R197, R198). A length of 0 or at or above 2^31 makes a cue that reaches an output a link error. -/
def execSplitAnnounce (address : Address) (breakNo : BreakNo) (start length : FrameNo) (s : State) :
    Host.Outcome State Fault Refusal :=
  .next <|
    if announceLength length then
      s.onOutputs address (fun e d => d.judgeAnnounce e { breakNo := breakNo, start := start, length := length })
    else if (s.intake.resolve address).outputs = 0 then s
    else s.linkError

/-- SPLIT_CANCEL (R91, R198). -/
def execSplitCancel (address : Address) (breakNo : BreakNo) (frame : FrameNo) (s : State) :
    Host.Outcome State Fault Refusal :=
  .next <| s.onOutputs address (fun e d => d.judgeCancel e breakNo frame)

end Sys2Proof.Machine
end

