-- ==== Sys2Proof/Machine/Channel.lean ====
section
/-! DEFINITION. Requests, triggers and lines of the insertion channels (chapters 3 and 5): CHANNEL_MODE, CHANNEL_SET,
CHANNEL_CLEAR, TIMER_SET, TAKE, FILL_SET, FILL_RANGE, the FIRE lines and the schedule timer; the consequences of a resync
(R14) and of a cart becoming READY (R104). -/

namespace Sys2Proof.Machine

namespace Desk

/-! ### Mode and settings -/

/-- R46: BYPASS to PASS. -/
def toService (e : Env) (d : Desk) : Desk := (d.setState .pass).service e

/-- R47: the channel may leave service. -/
def mayBypass (d : Desk) : Bool := decide (d.ch.state = .pass) && !d.committed && !d.anySounding

/-- R49: a fade start point not yet reached is computed anew from F. -/
def refade (d : Desk) : Desk :=
  match d.ch.split with
  | some x =>
    if x.phase = .closing then d
    else
      let f := d.ch.settings.fade
      let start := match x.rejoin with
        | some r => r - frames f
        | none => fadeStartOf f x.start x.stop
      d.setSplit { x with fadeStart := start }
  | none => d

/-- R48 step 3 and R49: all seven settings take the values carried. -/
def changeSettings (x : Settings) (d : Desk) : Desk :=
  (({ d with ch := { d.ch with settings := x } } : Desk).refade).placeGuard

/-! ### Clear (R50) -/

/-- Steps 1 and 2 for one deck: ABORTED where its item sounds, CLEARED where it waits. -/
def clearDeck (e : Env) (sounding : Bool) (d : Desk) (id : DeckId) : Desk :=
  let k := d.deck id
  if sounding && k.sounding then d.endDeck e id .aborted
  else if !sounding && k.waiting then d.endDeck e id .cleared
  else d

/-- Step 3: the items of the plan, of the break being aired and of the held window's primed entry. -/
def clearedItems (d : Desk) : List ItemRef :=
  let planned := match d.ch.plan with
    | some p => (p.items.map (·.ref)).filter (fun r => !(d.item r).final)
    | none => []
  let airing := match d.ch.split with
    | some x => x.items.map (·.ref)
    | none => []
  let primed := match d.ch.held, d.pendingB with
    | some _, some r => [r]
    | _, _ => []
  planned ++ airing ++ d.breakItems ++ primed

/-- Step 4: the items without a result in the other CHANNEL entries, with no record. -/
def clearWaiting (e : Env) (d : Desk) : Desk :=
  (List.finRange 128).foldl
    (fun d i =>
      if (d.entry i).owner = .channel then
        (d.openItems [i]).foldl (fun d r => d.settle e r .cleared none) d
      else d)
    d

/-- R50: the channel is stopped at once. -/
def clear (e : Env) (d : Desk) : Desk :=
  let d := d.decksInOrder.foldl (clearDeck e true) d
  let d := d.decksInOrder.foldl (clearDeck e false) d
  let d := (d.clearedItems).foldl (finishUnsounded e .cleared) d
  let d := d.clearWaiting e
  { d with ch := { d.ch with
    state := .bypass, plan := none, pending := none, lastTaken := none, held := none, split := none, brk := none,
    window := none, lastRing := none, timer := none, fill := { d.ch.fill with wait := false } } }

/-! ### Resync (R14) -/

/-- An item of an abandoned plan returns unplanned. -/
def unplanItem (d : Desk) (x : PlanItem) : Desk :=
  let d := d.unhold x.ref
  let i := d.item x.ref
  d.setItem x.ref (if i.provisional then { i with result := .none, provisional := false } else i)

/-- Every deck holding an item of the plan returns to IDLE. -/
def idlePlanned (p : Plan) (d : Desk) (id : DeckId) : Desk :=
  match (d.deck id).ringItem with
  | some r => if p.items.any (fun x => x.ref == r) then d.setDeck id (d.deck id).idled else d
  | none => d

/-- The armed plan abandoned. The fill candidate that waits beside a primed plan with no included item is given up, whether it was
loaded for the plan or by FALLBACK (log 18). -/
def abandonPlan (e : Env) (d : Desk) : Desk :=
  match d.ch.plan with
  | none => d
  | some p =>
    let d := if p.primed && d.emptyPlan then d.giveUpCandidate.fillUnwanted else d
    let d := [DeckId.a, .b].foldl (idlePlanned p) d
    let d := p.items.foldl unplanItem d
    let head := match p.items with
      | x :: _ => x.ref.index
      | [] => d.ch.head
    ({ d with ch := { d.ch with plan := none, head := head } } : Desk).record e
      { note .planAbandoned e.pos with breakNo := some p.breakNo }

def abandonPending (e : Env) (d : Desk) : Desk :=
  match d.ch.pending with
  | none => d
  | some a =>
    ({ d with ch := { d.ch with pending := none } } : Desk).record e
      { note .planAbandoned e.pos with breakNo := some a.breakNo }

def abandonWindow (e : Env) (d : Desk) : Desk :=
  match d.ch.held with
  | none => d
  | some h => d.discardWindow.record e (note .planAbandoned h.opens)

/-- The frame numbers that the running split, break or window waits for, moved by the offset. The split's start S moves with
them (log 15). -/
def movePoints (delta : FrameNo) (d : Desk) : Desk :=
  { d with ch := { d.ch with
    split := d.ch.split.map (fun x => ({ x with
      start := x.start + delta, stop := x.stop + delta, rejoin := x.rejoin.map (· + delta),
      fadeStart := x.fadeStart + delta } : Split))
    brk := d.ch.brk.map (fun b => ({ b with
      start := b.start.map (· + delta), guardPoint := b.guardPoint.map (· + delta) } : BreakCtx))
    window := d.ch.window.map (fun w => ({ w with
      closes := w.closes.map (· + delta), ends := w.ends.map (· + delta) } : WindowCtx)) } }

def timerOff (e : Env) (d : Desk) : Desk :=
  if d.ch.timer.isSome then ({ d with ch := { d.ch with timer := none } } : Desk).record e (note .timersOff e.pos) else d

/-- R14: the channel brought into the new numbering, the frame numbers moved by the offset. -/
def renumber (delta : FrameNo) (e : Env) (d : Desk) : Desk :=
  ((((((d.abandonPlan e).abandonPending e).abandonWindow e).movePoints delta).timerOff e).service e)

/-! ### Timer (R57) -/

/-- The timer on whose target P is at or after, and its expiry: it turns off or is set on past P. -/
def timerExpired (e : Env) (d : Desk) : Option Timer :=
  match d.ch.timer with
  | some t => if e.live && atOrAfter e.pos t.target then some t else none
  | none => none

def rearmed (p : FrameNo) (t : Timer) : Option Timer :=
  if t.period = 0 then none
  else some { t with target := t.target + frames (((p - t.target).toNat / t.period + 1) * t.period) }

/-- R57: an expiry, which triggers a break under source TIMER. -/
def timerExpires (e : Env) (d : Desk) : Desk :=
  match d.timerExpired e with
  | some t =>
    let d := { d with ch := { d.ch with timer := rearmed e.pos t } }
    if d.ch.settings.source = .timer then d.trigger e else d
  | none => d

/-! ### Fill requests -/

/-- R99: a slot set, and the choice retried where one waits. -/
def setSlot (slot : Fin 16) (cart : Fin 1024) (e : Env) (d : Desk) : Desk :=
  ({ d with ch := { d.ch with fill := { d.ch.fill with slots := put d.ch.fill.slots slot cart } } } : Desk).retryFill e

/-- A fill item on a deck marked by a range change. -/
def markRange (k : Deck) : Deck := if k.fillItem.isSome then { k with rangeMark := true } else k

/-- R100: the range set, the cursor on its start slot, a ONE_PASS split's pass begun anew, loaded fill items marked; a choice
that waits is retried, and one that the cleared exhausted mark allows again is made (R103). -/
def setRange (start stop : Fin 16) (e : Env) (d : Desk) : Desk :=
  let inPass := fun x : Split => decide (x.phase = .items) || decide (x.phase = .fill)
  let split :=
    if d.ch.settings.fillMode = .onePass then d.ch.split.map (fun x => if inPass x then x.passAt start else x) else d.ch.split
  let ch : Channel := { d.ch with
    fill := { d.ch.fill with start := start, stop := stop, cursor := start }
    split := split
    deckA := markRange d.ch.deckA
    deckB := markRange d.ch.deckB }
  (({ d with ch := ch } : Desk).retryFill e).service e

end Desk

/-- R104: a cart became READY, a retry event for every channel's fill wait, taken for channel 0 first (log 43). -/
def State.cartReady (s : State) : State :=
  (List.finRange 4).foldl (fun s n => s.onChannel n (fun e d => d.retryFill e)) s

/-! ### Requests -/

/-- CHANNEL_MODE IN_SERVICE on a channel (R46). -/
def State.inService (s : State) (tag : BitVec 16) (n : Fin 4) : State :=
  if s.store.scan.done then
    if (s.channels.get n).state = .bypass then
      (s.onChannel n (fun e d => d.toService e)).answer tag 0x0008 .done
    else s.answer tag 0x0008 .state
  else s.answer tag 0x0008 .scanning

/-- CHANNEL_MODE BYPASS on a channel (R47). -/
def State.toBypass (s : State) (tag : BitVec 16) (n : Fin 4) : State :=
  if (s.desk n).mayBypass then (s.onChannel n (fun _ d => d.setState .bypass)).answer tag 0x0008 .done
  else s.answer tag 0x0008 .state

/-- CHANNEL_MODE IN_SERVICE (R46). The row carries the mode byte as sent, so that an unknown mode can be written; mode 1 is
the row CHANNEL_MODE_BYPASS and acts as it does. -/
def execChannelModeInService (address : Address) (tag : BitVec 16) (channel mode : Byte) (s : State) :
    Host.Outcome State Fault Refusal :=
  .next <| s.atPart address fun s =>
    match field 4 channel.toNat with
    | some n =>
      if mode = 0 then s.inService tag n
      else if mode = 1 then s.toBypass tag n
      else s.answer tag 0x0008 .badField
    | none => s.answer tag 0x0008 .badField

/-- CHANNEL_MODE BYPASS (R47). -/
def execChannelModeBypass (address : Address) (tag : BitVec 16) (channel : Byte) (s : State) :
    Host.Outcome State Fault Refusal :=
  .next <| s.atPart address fun s =>
    match field 4 channel.toNat with
    | some n => s.toBypass tag n
    | none => s.answer tag 0x0008 .badField

/-- The settings that CHANNEL_SET carries, when each is in its range (Table 3-3). -/
def settingsOf (source policy fadeLength padLimit : Byte) (overrunGuard : BitVec 32) (silenceFallback fillMode : Byte) :
    Option Settings :=
  match sourceOf source, policyOf policy, switch silenceFallback, fillModeOf fillMode with
  | some so, some po, some si, some fi =>
    let g := overrunGuard.toNat
    if inRange 4 64 fadeLength.toNat && inRange 0 250 padLimit.toNat && (decide (g = 0) || inRange 250 75000 g) then
      some { source := so, policy := po, fade := fadeLength.toNat, pad := padLimit.toNat, guard := g,
             silenceFallback := si, fillMode := fi }
    else none
  | _, _, _, _ => none

/-- CHANNEL_SET (R48, R49). -/
def execChannelSet (address : Address) (tag : BitVec 16) (channel source policy fadeLength padLimit : Byte)
    (overrunGuard : BitVec 32) (silenceFallback fillMode : Byte) (s : State) : Host.Outcome State Fault Refusal :=
  .next <| s.atPart address fun s =>
    match field 4 channel.toNat,
      settingsOf source policy fadeLength padLimit overrunGuard silenceFallback fillMode with
    | some n, some x =>
      let c := s.channels.get n
      if x.source ≠ c.settings.source ∧ c.state ≠ .bypass then s.answer tag 0x0009 .state
      else (s.onChannel n (fun _ d => d.changeSettings x)).answer tag 0x0009 .done
    | _, _ => s.answer tag 0x0009 .badField

/-- CHANNEL_CLEAR (R50). -/
def execChannelClear (address : Address) (tag : BitVec 16) (channel : Byte) (s : State) :
    Host.Outcome State Fault Refusal :=
  .next <| s.atPart address fun s =>
    match field 4 channel.toNat with
    | some n => (s.onChannel n (fun e d => d.clear e)).answer tag 0x000A .done
    | none => s.answer tag 0x000A .badField

/-- The longest timer period (R56). -/
def timerPeriodLimit : Nat := 21600000

/-- The schedule timer of a channel set. -/
def State.setTimer (s : State) (n : Fin 4) (t : Option Timer) : State :=
  { s with channels := put s.channels n { s.channels.get n with timer := t } }

/-- TIMER_SET (R56). -/
def execTimerSet (address : Address) (tag : BitVec 16) (channel mode : Byte) (target : FrameNo) (period : BitVec 32)
    (s : State) : Host.Outcome State Fault Refusal :=
  .next <| s.atPart address fun s =>
    match field 4 channel.toNat, switch mode with
    | some n, some false => (s.setTimer n none).answer tag 0x000B .done
    | some n, some true =>
      if period.toNat ≤ timerPeriodLimit then
        if isAfter target s.time.pos then
          (s.setTimer n (some { target := target, period := period.toNat })).answer tag 0x000B .done
        else s.answer tag 0x000B .range
      else s.answer tag 0x000B .badField
    | _, _ => s.answer tag 0x000B .badField

/-- TAKE on a channel in BREAK (R58): the hard flag is examined here alone. -/
def State.takeInBreak (s : State) (tag : BitVec 16) (n : Fin 4) (hard : Byte) : State :=
  let fading := match (s.channels.get n).brk with
    | some b => match b.closing with
      | .none => false
      | .guard => true
      | .take _ fading => fading
    | none => false
  match switch hard with
  | none => s.answer tag 0x000C .badField
  | some false => s.answer tag 0x000C .busy
  | some true =>
    if fading then s.answer tag 0x000C .busy
    else if (s.desk n).headEntry.startsBreak then
      (s.onChannel n (fun e d => d.takeHard e)).answer tag 0x000C .done
    else s.answer tag 0x000C .empty

/-- TAKE (R58). -/
def execTake (address : Address) (tag : BitVec 16) (channel hard : Byte) (s : State) : Host.Outcome State Fault Refusal :=
  .next <| s.atPart address fun s =>
    match field 4 channel.toNat with
    | none => s.answer tag 0x000C .badField
    | some n =>
      let c := s.channels.get n
      if c.settings.source = .command then
        match c.state with
        | .bypass | .split | .loc => s.answer tag 0x000C .state
        | .brk => s.takeInBreak tag n hard
        | .pass | .fallback =>
          if (s.desk n).committed then s.answer tag 0x000C .busy
          else if (s.desk n).headEntry.startsBreak then
            (s.onChannel n (fun e d => d.trigger e)).answer tag 0x000C .done
          else s.answer tag 0x000C .empty
      else s.answer tag 0x000C .wrongSource

/-- FILL_SET (R99). -/
def execFillSet (address : Address) (tag : BitVec 16) (channel slot : Byte) (cart : BitVec 16) (s : State) :
    Host.Outcome State Fault Refusal :=
  .next <| s.atPart address fun s =>
    match field 4 channel.toNat, field 16 slot.toNat, field 1024 cart.toNat with
    | some n, some i, some c => (s.onChannel n (Desk.setSlot i c)).answer tag 0x000D .done
    | _, _, _ => s.answer tag 0x000D .badField

/-- FILL_RANGE (R100). -/
def execFillRange (address : Address) (tag : BitVec 16) (channel start stop : Byte) (s : State) :
    Host.Outcome State Fault Refusal :=
  .next <| s.atPart address fun s =>
    match field 4 channel.toNat, field 16 start.toNat, field 16 stop.toNat with
    | some n, some i, some j => (s.onChannel n (Desk.setRange i j)).answer tag 0x000E .done
    | _, _, _ => s.answer tag 0x000E .badField

/-! ### Lines and the timer -/

def State.setFire (s : State) (n : Fin 4) (x : Line) : State :=
  { s with lines := { s.lines with fire := put s.lines.fire n x } }

/-- FIRE_EDGE (R55): the falling edge begins the wait, and a line still low after 10 ms gives its edge event. -/
def execFireEdge (line : Fin 4) (stage : LineStage) (s : State) : Host.Outcome State Fault Refusal :=
  .next <|
    match stage, s.lines.fire.get line with
    | .falls, .high => s.setFire line .waiting
    | .heldLow, .waiting =>
      let s := s.setFire line .spent
      if (s.channels.get line).settings.source = .line then s.onChannel line (fun e d => d.trigger e) else s
    | _, _ => s

/-- FIRE_LINE_RETURN_HIGH (R55): a wait is abandoned, and the next falling edge can be taken. -/
def execFireLineReturnHigh (line : Fin 4) (s : State) : Host.Outcome State Fault Refusal := .next (s.setFire line .high)

/-- SCHEDULE_TIMER_EXPIRY (R57), taken on its own: where the timer is on and P is at or after its target it expires, else
nothing happens (log 3). -/
def execScheduleTimerExpiry (channel : Fin 4) (s : State) : Host.Outcome State Fault Refusal :=
  .next (s.onChannel channel (fun e d => d.timerExpires e))

end Sys2Proof.Machine
end

