-- ==== Sys2Proof/Machine/Feed.lean ====
section
/-! DEFINITION. Programme Timebase, Feed Monitor and Level Watches (chapter 1): storing and judging programme frames, loss,
restore and resync, the watches, and the meanings of PROGRAMME_FRAME, FEED_LOST, WATCH_TRIP, FEED_SET, DELAY_SET and
WATCH_SET. -/

namespace Sys2Proof.Machine

/-! ### The delay line -/

/-- R4: a frame in its slot. -/
def Timebase.put (t : Timebase) (x : Slot) : Timebase :=
  { t with line := Machine.put t.line ⟨x.number.toNat % 512, Nat.mod_lt _ (by decide)⟩ (some x) }

def State.storeFrame (s : State) (number : FrameNo) (audio : Audio) (concealed : Bool) : State :=
  { s with time := s.time.put { number := number, audio := audio, concealed := concealed } }

/-- R4: the store window: (N - next position) mod 2^32 lies in 0 to 511. -/
def State.inStoreWindow (s : State) (n : FrameNo) : Bool := decide ((n - s.time.nextPosition.getD 0).toNat ≤ 511)

/-- The newest frame accepted. -/
def Feed.newest (f : Feed) : FrameNo := f.last.getD 0

/-! ### The feed break record (R15) -/

/-- A break published: a new record, or the present one extended with its break point kept. -/
def Feed.publishBreak (f : Feed) (cause : BreakCause) (point : FrameNo) : Feed :=
  match f.brk with
  | none => { f with brk := some { cause := cause, point := point, resume := none } }
  | some b => { f with brk := some { b with cause := cause, resume := none } }

/-- A resume point published. -/
def Feed.publishResume (f : Feed) (r : FrameNo) : Feed :=
  { f with brk := f.brk.map (fun b => ({ b with resume := some r } : FeedBreak)) }

/-- R15, removal: at the first output period at which P is at or after the resume point. -/
def Feed.removePast (f : Feed) (p : FrameNo) : Feed :=
  match f.brk.bind (·.resume) with
  | some r => if atOrAfter p r then { f with brk := none } else f
  | none => f

/-! ### Level watches -/

/-- The largest magnitude among the samples of a frame. -/
def peak (a : Audio) : Nat := a.foldl (fun m x => max m x.toInt.natAbs) 0

/-- R20: the whole part of 20 log10(8388608 / m), limited to 96; 96 for a frame of zeros. It is the largest d with
10^d × m^20 at most 8388608^20. -/
def depthOf (m : Nat) : Nat :=
  if m = 0 then 96
  else ((List.range 96).filter (fun d => decide (10 ^ (d + 1) * m ^ 20 ≤ 8388608 ^ 20))).length

def peakDepth (a : Audio) : Nat := depthOf (peak a)

/-- R20: the frame meets the condition of the watch. -/
def Watch.meets (w : Watch) (depth : Nat) : Bool :=
  match w.direction with
  | .quiet => decide (w.threshold ≤ depth)
  | .loud => decide (depth < w.threshold)

def Watch.distance (w : Watch) (depth : Nat) : Nat := ((depth : Int) - w.threshold).natAbs

/-- The run lengthened by a frame. -/
def Watch.lengthen (w : Watch) (x : FrameNo) (depth : Nat) : Watch :=
  if w.run = 0 then { w with run := 1, first := some x, extreme := w.distance depth }
  else { w with run := satInc w.run, extreme := max w.extreme (w.distance depth) }

/-- The run ended, the watch CLEAR. -/
def Watch.ended (w : Watch) : Watch := { w with tripped := false, run := 0, first := none, extreme := 0 }

/-- R20: the watch is due to trip: its run has reached W. -/
def Watch.due (w : Watch) : Bool := w.enabled && !w.tripped && decide (w.run ≠ 0) && decide (w.window ≤ w.run)

def State.setWatch (s : State) (i : Fin 5) (w : Watch) : State := { s with watches := put s.watches i w }

/-- R20 and R17: a watch trips. A QUIET trip of the feed watch in LOCKED makes the feed SILENT, and its FEED_SILENT record
stands before the WATCH_TRIP record (log 25). -/
def State.tripWatch (s : State) (i : Fin 5) : State :=
  let w := s.watches.get i
  let first := w.first.getD 0
  let s := s.setWatch i { w with tripped := true }
  let s :=
    if i = 0 ∧ w.direction = .quiet ∧ s.feed.state = .locked then
      ({ s with feed := { (s.feed.publishBreak .silent first) with state := .silent } } : State).append (note .feedSilent first)
    else s
  s.append { note .watchTrip first with watch := some i, detail := some (BitVec.ofNat 32 w.extreme) }

/-- A WATCH_CLEAR record. -/
def watchClear (i : Fin 5) (position : FrameNo) (reason : Reason) (run : Nat) : Record :=
  { note .watchClear position with watch := some i, reason := some reason, detail := some (BitVec.ofNat 32 run) }

/-- R18: the end of a silent feed: a resume point, LOCKED, and a FEED_RESTORED record. -/
def State.endSilence (s : State) (r : FrameNo) : State :=
  ({ s with feed := { s.feed.publishResume r with state := .locked } } : State).append (note .feedRestored r)

/-- R20: one frame observed by a watch, and R17, R18 where it is the feed watch. -/
def State.observe (s : State) (i : Fin 5) (x : FrameNo) (depth : Nat) : State :=
  let w := s.watches.get i
  if w.enabled then
    if w.meets depth then
      let s := s.setWatch i (w.lengthen x depth)
      if (w.lengthen x depth).due then s.tripWatch i else s
    else
      let s := s.setWatch i w.ended
      if w.tripped then
        let s := s.append (watchClear i x .frame w.run)
        if i = 0 ∧ s.feed.state = .silent then s.endSilence x else s
      else s
  else s

/-- R21: the run of the feed watch ended by the feed. -/
def State.endFeedRun (s : State) (position : FrameNo) : State :=
  let w := s.watches.get 0
  let s := s.setWatch 0 w.ended
  if w.tripped then s.append (watchClear 0 position .feed w.run) else s

/-! ### Judging a programme frame -/

/-- A rule for each channel, channel 0 first: "their records carry no stated order". -/
def State.onChannels (s : State) (rule : Env → Desk → Desk) : State :=
  (List.finRange 4).foldl (fun s n => s.onChannel n rule) s

/-- R5 and R16: the first lock. -/
def State.lock (s : State) (n : FrameNo) (audio : Audio) : State :=
  let base := n - frames s.time.delay
  let s := s.storeFrame n audio false
  let feed := (s.feed.publishBreak .lost base).publishResume n
  let s : State := { s with
    time := { s.time with nextPosition := some base }
    feed := { feed with state := .locked, last := some n, idle := 0 } }
  let s := s.append (note .feedRestored n)
  let s := s.observe 0 n (peakDepth audio)
  s.onChannels (Desk.renumber base)

/-- R13: a resync on frame N. -/
def State.resync (s : State) (n : FrameNo) (audio : Audio) : State :=
  let base := n - frames s.time.delay
  let delta := base - s.time.nextPosition.getD 0
  let s : State := { s with time := { s.time with line := Vector.replicate 512 none, nextPosition := some base } }
  let s := s.storeFrame n audio false
  let s : State := { s with feed := { s.feed with
    state := .locked, last := some n, idle := 0, brk := some { cause := .resync, point := base, resume := some n } } }
  let s := s.append { note .feedResync base with detail := some n }
  let s := s.endFeedRun n
  let s := s.observe 0 n (peakDepth audio)
  s.onChannels (Desk.renumber delta)

/-- R9: k concealment frames from x on, each stored and observed as a frame of depth 96. -/
def State.conceal (s : State) (x : FrameNo) : Nat → State
  | 0 => s
  | k + 1 => ((s.storeFrame x Audio.silence true).observe 0 x 96).conceal (x + 1) k

/-- R8: frame N stored in sequence or after a gap. -/
def State.acceptFrame (s : State) (n : FrameNo) (audio : Audio) (gap : Nat) : State :=
  let s := s.conceal (s.feed.newest + 1) gap
  let s := s.storeFrame n audio false
  let s : State := { s with feed := { s.feed with last := some n, idle := 0 } }
  s.observe 0 n (peakDepth audio)

/-- R10: a stale frame, discarded unless it repairs its concealment frame. -/
def State.staleFrame (s : State) (n : FrameNo) (audio : Audio) : State :=
  let repairs := match s.time.slotOf n with
    | some slot => slot.concealed
    | none => false
  if s.inStoreWindow n && repairs then s.storeFrame n audio false else s

/-- R12: a restore. -/
def State.restoreFeed (s : State) (n : FrameNo) (audio : Audio) : State :=
  let s := s.storeFrame n audio false
  let s : State := { s with feed := { s.feed.publishResume n with state := .locked, last := some n, idle := 0 } }
  let s := s.append (note .feedRestored n)
  s.observe 0 n (peakDepth audio)

/-- At or before last: k is 0 or above 2^31 (Table 1-3, R12). -/
def staleDistance (k : Nat) : Bool := decide (k = 0) || decide (2 ^ 31 < k)

/-- R8 to R10: a frame in LOCKED or SILENT, judged by its distance from last. -/
def State.judgeFrame (s : State) (n : FrameNo) (audio : Audio) : State :=
  let k := (n - s.feed.newest).toNat
  if staleDistance k then s.staleFrame n audio
  else if k ≤ Config.gapLimit + 1 then
    (if s.inStoreWindow n then s.acceptFrame n audio (k - 1) else s.resync n audio)
  else s.resync n audio

/-- R12: a frame in LOST, judged by its distance from where the feed should be. -/
def State.judgeLost (s : State) (n : FrameNo) (audio : Audio) : State :=
  let j := (n - (s.time.pos + frames s.time.delay)).toNat
  if staleDistance (n - s.feed.newest).toNat then s.staleFrame n audio
  else if j ≤ 8 ∨ 2 ^ 32 - 8 ≤ j then s.restoreFeed n audio
  else s.resync n audio

/-- PROGRAMME_FRAME (R5, R8, R12). -/
def execProgrammeFrame (number : FrameNo) (audio : Audio) (s : State) : Host.Outcome State Fault Refusal :=
  .next <|
    match s.feed.state with
    | .noLock => s.lock number audio
    | .locked | .silent => s.judgeFrame number audio
    | .lost => s.judgeLost number audio

/-! ### Loss -/

/-- R11: the feed is due to be lost. -/
def State.lossDue (s : State) : Bool :=
  (decide (s.feed.state = .locked) || decide (s.feed.state = .silent)) && decide (s.feed.lossWait ≤ s.feed.idle)

/-- R11: the feed becomes LOST. -/
def State.loseFeed (s : State) : State :=
  let point := s.feed.newest + 1
  let s : State := { s with feed := { s.feed.publishBreak .lost point with state := .lost } }
  (s.append (note .feedLost point)).endFeedRun point

/-- R11 at an output period after the first lock. -/
def State.countIdle (s : State) : State :=
  if s.feed.state = .noLock then s
  else
    let s : State := { s with feed := { s.feed with idle := min (s.feed.idle + 1) 250 } }
    if s.lossDue then s.loseFeed else s

/-- FEED_LOST (R11), taken on its own: where the idle count stands at or above the loss wait the feed is lost, else nothing
happens (log 3). -/
def execFeedLost (s : State) : Host.Outcome State Fault Refusal := .next (if s.lossDue then s.loseFeed else s)

/-- WATCH_TRIP (R20), taken on its own: where the run has reached the window the watch trips, else nothing happens (log 3). -/
def execWatchTrip (watch : Fin 5) (s : State) : Host.Outcome State Fault Refusal :=
  .next (if (s.watches.get watch).due then s.tripWatch watch else s)

/-! ### Requests -/

/-- FEED_SET (R19). -/
def execFeedSet (address : Address) (tag : BitVec 16) (lossWait : Byte) (s : State) : Host.Outcome State Fault Refusal :=
  .next <| s.atPart address fun s =>
    if inRange 5 250 lossWait.toNat then
      ({ s with feed := { s.feed with lossWait := lossWait.toNat } } : State).answer tag 0x0001 .done
    else s.answer tag 0x0001 .badField

/-- "Every slot whose number is at or before the current P is then emptied" (R7); before P is set none is (log 20). -/
def Timebase.emptyPast (t : Timebase) : Timebase :=
  match t.position with
  | some p => { t with line := t.line.map (fun slot => slot.filter (fun x => !atOrAfter p x.number)) }
  | none => t

/-- R7: an accepted DELAY_SET. -/
def State.setDelay (s : State) (delay : Nat) : State :=
  let time : Timebase := { s.time with delay := delay }
  if s.feed.state = .locked ∨ s.feed.state = .silent then
    { s with time := ({ time with nextPosition := some (s.feed.newest - frames delay) } : Timebase).emptyPast }
  else { s with time := time }

/-- DELAY_SET (R7). -/
def execDelaySet (address : Address) (tag : BitVec 16) (delay : BitVec 16) (s : State) :
    Host.Outcome State Fault Refusal :=
  .next <| s.atPart address fun s =>
    if inRange 32 500 delay.toNat then
      if s.channels.toList.all (fun c => decide (c.state = .bypass)) then (s.setDelay delay.toNat).answer tag 0x0002 .done
      else s.answer tag 0x0002 .state
    else s.answer tag 0x0002 .badField

/-- R22: the settings of a watch replaced and its measurement abandoned. -/
def State.changeWatch (s : State) (i : Fin 5) (threshold : Nat) (direction : Direction) (window : Nat) (enabled : Bool) :
    State :=
  let w := s.watches.get i
  let s := s.setWatch i
    { w.ended with threshold := threshold, direction := direction, window := window, enabled := enabled }
  let s := if w.tripped then s.append (watchClear i (w.first.getD 0) .set w.run) else s
  if i = 0 ∧ s.feed.state = .silent then s.endSilence (s.feed.newest + 1) else s

/-- WATCH_SET (R22). -/
def execWatchSet (address : Address) (tag : BitVec 16) (watch threshold direction : Byte) (window : BitVec 16)
    (enable : Byte) (s : State) : Host.Outcome State Fault Refusal :=
  .next <| s.atPart address fun s =>
    match field 5 watch.toNat, directionOf direction, switch enable with
    | some i, some dir, some on =>
      if inRange 0 96 threshold.toNat && inRange 1 15000 window.toNat then
        (s.changeWatch i threshold.toNat dir window.toNat on).answer tag 0x0003 .done
      else s.answer tag 0x0003 .badField
    | _, _, _ => s.answer tag 0x0003 .badField

end Sys2Proof.Machine
end

