-- ==== Sys2Proof/Machine/Composer.lean ====
section
/-! DEFINITION. The output composer (sections 5.6 to 5.8): gains, the sum of the sources, origin and on-air tag, and what the
emission of one frame does to the decks (R181, R182). -/

namespace Sys2Proof.Machine

/-! ### Gains (R110, R111) -/

/-- A gain: a rational number from 0 to 1. -/
structure Gain where
  num : Nat
  den : Nat
deriving DecidableEq, Repr

def Gain.full : Gain := { num := 1, den := 1 }

/-- R110: "Its gain in the k-th output period of the ramp, k running from 1 to G, is (G - k)/G." The period at hand is the
one after those elapsed. -/
def Ramp.gain (r : Ramp) : Gain := { num := r.length - (r.elapsed + 1), den := r.length }

/-- R111: "its gain is the lower of the two ramps' gains". -/
def Gain.lower (a b : Gain) : Gain := if a.num * b.den ≤ b.num * a.den then a else b

def Deck.gain (k : Deck) : Gain :=
  match k.ramp, k.closing with
  | some a, some b => a.gain.lower b.gain
  | some a, none => a.gain
  | none, some b => b.gain
  | none, none => .full

/-- The ramp advances by one at every output period (R110). -/
def Ramp.advance (r : Ramp) : Ramp := { r with elapsed := r.elapsed + 1 }

def Ramp.over (r : Option Ramp) : Bool :=
  match r with
  | some x => decide (x.length ≤ x.elapsed)
  | none => false

/-! ### The sum (R109) -/

/-- A sample by a gain, "rounded toward zero to a whole number". -/
def Gain.scale (g : Gain) (x : Sample) : Int := Int.tdiv (x.toInt * g.num) g.den

/-- A source added to the sums, sample by sample. -/
def addSource (g : Gain) : List Int → Audio → List Int
  | [], _ => []
  | sums, [] => sums
  | x :: sums, y :: a => (x + g.scale y) :: addSource g sums a

/-- "The sum is limited to the range -8388608 to 8388607". -/
def clamp (x : Int) : Sample :=
  if x < -8388608 then BitVec.ofInt 24 (-8388608) else if 8388607 < x then BitVec.ofInt 24 8388607 else BitVec.ofInt 24 x

/-- R109: the samples of the output frame. -/
def mix (sources : List (Gain × Audio)) : Audio :=
  (sources.foldl (fun sums s => addSource s.1 sums s.2) (List.replicate Audio.size 0)).map clamp

/-! ### Taking a frame from a deck (R181, R182) -/

/-- The frame that a deck gives up at this output period, and the frames left (R181). A deck whose item began to sound in this
very period while it was not READY gives up none, whatever its buffer holds (R52 and R185; log 44). -/
def Deck.next? (k : Deck) : Option (Audio × List Audio) :=
  match k.sounding && !k.unready, k.buffer with
  | true, a :: rest => some (a, rest)
  | _, _ => none

/-- The frame that a deck contributes at this output period, with its gain. -/
def Deck.source? (k : Deck) : List (Gain × Audio) :=
  match k.next? with
  | some (a, _) => [(k.gain, a)]
  | none => []

/-- A sounding deck after it gave up its frame, or after a period with silence substituted. Its ramps advance in either case. -/
def Deck.emitted (k : Deck) : Deck :=
  if k.sounding then
    let k := match k.next? with
      | some (_, rest) =>
        { k with buffer := rest, consecutive := 0, fillAired := if k.fillItem.isSome then k.fillAired + 1 else k.fillAired }
      | none => { k with underruns := satInc k.underruns, consecutive := k.consecutive + 1 }
    { k with ramp := k.ramp.map Ramp.advance, closing := k.closing.map Ramp.advance, unready := false }
  else k

namespace Desk

/-- R39: the aired frames of a ring item counted in its entry, when its own frame is emitted. -/
def countAired (k : Deck) (d : Desk) : Desk :=
  match k.next?, k.ringItem with
  | some _, some r => d.setItem r { d.item r with aired := (d.item r).aired + 1 }
  | _, _ => d

/-- What one output period does to a deck. -/
def emitDeck (id : DeckId) (d : Desk) : Desk := (d.countAired (d.deck id)).setDeck id (d.deck id).emitted

/-- R61, R62: the output periods since the start position, and those left of a TAKE's fade. -/
def countBreak (d : Desk) : Desk :=
  { d with ch := { d.ch with brk := d.ch.brk.map (fun b => ({ b with
      ran := if b.start.isSome then b.ran + 1 else b.ran
      closing := match b.closing with
        | .take left fading => .take (left - 1) fading
        | c => c } : BreakCtx)) } }

/-! ### The output frame -/

/-- R108: the network frame is carried in BYPASS and PASS, and in a BREAK triggered from PASS until its first item
sounds. -/
def carriesNetwork (d : Desk) : Bool :=
  match d.ch.state with
  | .bypass | .pass => true
  | .brk => d.ch.brk.any (fun b => b.fromPass && b.start.isNone)
  | .split | .loc | .fallback => false

/-- R113. -/
def origin (network : Bool) (d : Desk) : Origin :=
  let ring := (d.ch.deckA.sounding && d.ch.deckA.ringItem.isSome) || (d.ch.deckB.sounding && d.ch.deckB.ringItem.isSome)
  let fill := (d.ch.deckA.sounding && d.ch.deckA.fillItem.isSome) || (d.ch.deckB.sounding && d.ch.deckB.fillItem.isSome)
  if ring then .insert
  else if fill && network then .mix
  else if fill then .fill
  else if network then .network
  else .silence

/-- R114: "the cart of the sounding item that started most recently". -/
def onAirCart (d : Desk) : Fin 1024 :=
  match d.ch.deckA.sounding, d.ch.deckB.sounding with
  | true, true => if d.ch.deckB.order < d.ch.deckA.order then d.ch.deckA.cart else d.ch.deckB.cart
  | true, false => d.ch.deckA.cart
  | false, true => d.ch.deckB.cart
  | false, false => 0

/-- R108, R109, R113, R114: the output frame of this output period; `network` is frame P when it is present. -/
def outFrame (e : Env) (network : Option Audio) (d : Desk) : OutFrame :=
  let carried := if d.carriesNetwork then network else none
  let sources := (carried.elim [] (fun a => [(Gain.full, a)])) ++ d.ch.deckA.source? ++ d.ch.deckB.source?
  { audio := mix sources, position := e.pos, origin := d.origin carried.isSome, onAir := d.onAirCart, state := d.ch.state }

/-- What the emission does to the channel. -/
def emit (d : Desk) : Desk := ((d.emitDeck .a).emitDeck .b).countBreak

/-- R182: the deck's consecutive underruns have reached 25. -/
def starved (d : Desk) (id : DeckId) : Bool :=
  (d.deck id).sounding && decide (Config.underrunLimit ≤ (d.deck id).consecutive)

/-- R182: the items of the starved decks among these are abandoned, in the order given, and what comes next is loaded. -/
def abandon (e : Env) (ids : List DeckId) (d : Desk) : Desk :=
  match ids.filter d.starved with
  | [] => d
  | starving => (starving.foldl (fun d id => d.faultDeck e id) d).service e

/-- The items abandoned at this output period, written back in order of succession (R43). -/
def abandonDecks (e : Env) (d : Desk) : Desk := d.abandon e d.decksInOrder

end Desk

end Sys2Proof.Machine
end

