-- ==== Sys2Proof/Machine/Period.lean ====
section
/-! DEFINITION. The output period (R1): what a channel does at each, in the order of log 5, and OUTPUT_PERIOD; with
DECK_UNDERRUN_ABANDON. -/

namespace Sys2Proof.Machine

namespace Desk

/-! ### Ends -/

/-- R183: "An item ends at the output period after it emitted its last frame, or after the last output period of its fade
ramp." -/
def ended (d : Desk) (k : Deck) : Bool :=
  k.sounding && (decide (k.length ≤ d.aired k) || Ramp.over k.ramp || Ramp.over k.closing)

/-- A deck released at this output period (R183). -/
def releaseDeck (e : Env) (d : Desk) (id : DeckId) : Desk :=
  let k := d.deck id
  if d.ended k then
    let d := d.endDeck e id (d.naturalResult k)
    if k.fillItem.isSome then d.lookAtHead e else d
  else d

def releases (e : Env) (d : Desk) : Desk := d.decksInOrder.foldl (releaseDeck e) d

/-! ### The feed test (R68) -/

/-- R68: the exit fade of a sounding fill item. One that still fades under the exit fade of an earlier fallback exit keeps that
ramp, and no new one begins (log 46). -/
def exitFade (f : Nat) (d : Desk) (id : DeckId) : Desk :=
  let k := d.deck id
  if k.sounding && k.fillItem.isSome && k.ramp.isNone then d.setRamp id { kind := .exit, length := f, elapsed := 0 } else d

/-- R68: FALLBACK left for PASS. Every candidate is given up, that of a primed plan or a prepared window too, and a choice that
waits for one ends: fill stops being wanted at a fallback exit (R104), and none is chosen before S or O. -/
def leaveFallback (e : Env) (d : Desk) : Desk :=
  let d := (d.setState .pass).noFillCalled
  let d : Desk := [DeckId.a, .b].foldl (exitFade d.ch.settings.fade) d
  d.giveUpCandidate.record e (note .fallbackEnd e.pos)

/-- R68: the feed test at P. -/
def feedTest (e : Env) (d : Desk) : Desk :=
  match d.ch.state with
  | .pass =>
    if e.broken d.ch.settings then (d.setState .fallback).record e (note .fallbackStart e.pos) else d
  | .fallback => if !e.broken d.ch.settings && e.present then d.leaveFallback e else d
  | _ => d

/-! ### Starts (R52, R103) -/

/-- R103: a fill candidate is due by its mode. -/
def fillDue (d : Desk) (k : Deck) : Bool :=
  match k.mode with
  | .whenReady => decide (k.state = .ready) && !d.anySounding
  | .following => !d.anySounding
  | .named => false

/-- The state of the channel lets a fill candidate start. In FALLBACK one loaded before a plan was primed waits for S (log 40),
and one loaded before a window was prepared for O (R103). -/
def fillMayStart (d : Desk) : Bool :=
  match d.ch.state with
  | .fallback => !d.planPrimed && !d.ch.held.any HeldWindow.prepares
  | .split => d.ch.split.any (fun x => decide (x.phase = .fill))
  | .loc => d.ch.window.any (fun w => w.ends.isNone)
  | .bypass | .pass | .brk => false

/-- The state of the channel lets a ring item start at its start point; the first item of a break starts when its deck is
READY (R59). -/
def ringMayStart (d : Desk) (k : Deck) (r : ItemRef) (before : Deck) : Bool :=
  match d.ch.state with
  | .split => d.ch.split.any (fun x => decide (x.phase = .items)) && d.ringDue r before
  | .brk =>
    match d.ch.brk with
    | some b => decide (b.closing = .none) && (if b.start.isNone then decide (k.state = .ready) else d.ringDue r before)
    | none => false
  | .loc => d.ch.window.any (fun w => w.ends.isNone) && d.ringDue r before
  | .bypass | .pass | .fallback => false

/-- The item on the deck starts at this output period. An item loaded before it goes first, but for a fill candidate that the
state holds back (R59, R103). -/
def mayStart (d : Desk) (id : DeckId) : Bool :=
  let k := d.deck id
  let before := d.deck (otherDeck id)
  k.waiting && !(before.waiting && decide (before.order < k.order) && (before.fillItem.isNone || d.fillMayStart)) &&
    match k.item with
    | some (.ring r) => d.ringMayStart k r before
    | some (.fill _) => d.fillMayStart && d.fillDue k
    | none => false

/-- R52, R110: the segue fade of the item that an item entering by FADE follows. -/
def segueFade (r : ItemRef) (other : DeckId) (d : Desk) : Desk :=
  let k := d.deck other
  if k.sounding && k.ringItem.isSome && decide (k.order = d.ch.lastStart) &&
      decide ((d.entry r.index).ownSegue r.part = .fade) then
    let g := min d.ch.settings.fade (k.length - d.aired k)
    d.setDeck other { k with
      state := .fading, ramp := some { kind := .segue, length := g, elapsed := 0 }, due := d.aired k + g }
  else d

/-- R59: the first item of a free-length break cuts in over the network or the sounding fill item, and BREAK_START is
written. -/
def breakBegins (e : Env) (d : Desk) : Desk :=
  match d.ch.brk with
  | some b =>
    if b.start.isNone then
      let d := (d.cutFill e).giveUpCandidate
      let d := (d.setBreak { b with start := some e.pos }).placeGuard
      d.breakStarted e b.breakNo
    else d
  | none => d

/-- R42: the entry's start position, set once. -/
def markStart (e : Env) (i : Fin 128) (d : Desk) : Desk :=
  if (d.entry i).start.isNone then d.setEntry i { d.entry i with start := some e.pos } else d

/-- R85: as the last included item begins, a candidate is called for where the expected remainder exceeds the pad limit. The
remainder runs from P plus the item's due frames, without the silent frame of a start on a deck that is not READY (log 47), to the
split's end E (log 30). -/
def callFill (e : Env) (id : DeckId) (d : Desk) : Desk :=
  match d.ch.split with
  | some x =>
    let remainder := signedDiff x.stop (e.pos + frames (d.deck id).due)
    if x.phase = .items && x.items.all (fun p => d.sounds p.ref) && decide (remainder > (d.ch.settings.pad : Int)) then
      d.setSplit { x with wantFill := true }
    else d
  | none => d

/-- The item on a deck begins to sound, with its frame substituted where the deck is not READY (R52). -/
def play (e : Env) (id : DeckId) (d : Desk) : Desk :=
  let k := d.deck id
  let d := d.setDeck id { k with
    state := .playing, order := d.ch.stamp, fillStart := if k.fillItem.isSome then some e.pos else none
    unready := decide (k.state ≠ .ready) }
  { d with ch := { d.ch with stamp := d.ch.stamp + 1, lastStart := d.ch.stamp } }

/-- An item starts (R52, R59, R82, R103). Unplayable items of a break that are passed over in the output period in which its first
item begins to sound, an earlier playable one having been given up, write their NOT_READY records before BREAK_START: the model's
choice (log 25). -/
def begin (e : Env) (id : DeckId) (d : Desk) : Desk :=
  match (d.deck id).ringItem with
  | some r =>
    let d := ((d.passBefore e r).breakBegins e).segueFade r (otherDeck id)
    ((d.play e id).markStart e r.index).callFill e id
  | none => d.play e id

def startDeck (e : Env) (d : Desk) (id : DeckId) : Desk := if d.mayStart id then d.begin e id else d

/-- The starts of this output period, the earlier in succession first, with the items of a break passed over on the way. -/
def starts (e : Env) (d : Desk) : Desk :=
  d.decksInOrder.foldl (fun d id => (d.startDeck e id).passReached e) (d.passReached e)

/-! ### One output period of a channel (log 5) -/

/-- What ends at P. -/
def periodEnds (e : Env) (d : Desk) : Desk := (((d.releases e).breakEnds e).splitEnds e).windowEnds e

/-- What opens at P, and the feed test. -/
def periodOpens (e : Env) (d : Desk) : Desk := ((d.splitStarts e).windowOpens e).feedTest e

/-- What is primed and what begins to close at P. -/
def periodFades (e : Env) (d : Desk) : Desk :=
  ((((d.planPrimes e).windowPrimes e).splitCloses e).breakCloses e).windowCloses e

/-- The rules of chapters 3 and 4 at an output period. What is loaded at its end starts at the next (R52). -/
def period (e : Env) (d : Desk) : Desk :=
  let d := d.periodEnds e
  let retry := d.opensWaiting e
  ((((((d.periodOpens e).periodFades e).splitExhausted e).starts e).timerExpires e).serviceAs retry e)

end Desk

/-! ### The whole part -/

/-- R1: P takes its coming value. Before the first lock it has none (R2). -/
def Timebase.advance (t : Timebase) : Timebase :=
  match t.nextPosition with
  | some x => { t with position := some x, nextPosition := some (x + 1) }
  | none => t

/-- P advanced, and the feed break record removed where P is at or after its resume point (R15). -/
def State.advance (s : State) : State :=
  let time := s.time.advance
  { s with
    time := time
    feed := match time.position with
      | some p => s.feed.removePast p
      | none => s.feed }

/-- Frame P, when the delay line holds it (R3). -/
def State.networkFrame (s : State) : Option Audio := (s.time.position.bind s.time.slotOf).map (·.audio)

/-- The composer after it emitted a frame. -/
def Composer.emit (o : OutFrame) : Composer := { origin := o.origin, onAir := o.onAir, emitted := some o }

/-- One output period of channel and output n: the rules, the frame emitted (R108), then the abandoned items (R182). -/
def State.channelPeriod (s : State) (n : Fin 4) : State :=
  let s := s.onChannel n (fun e d => d.period e)
  let frame := (s.desk n).outFrame (s.env n) s.networkFrame
  let s : State := { s with outputs := put s.outputs n (Composer.emit frame) }
  s.onChannel n (fun e d => d.emit.abandonDecks e)

/-- R20: watch n + 1 observes the frame of output n. -/
def State.observeOutput (s : State) (n : Fin 4) : State :=
  match (s.outputs.get n).emitted with
  | some o => s.observe n.succ o.position (peakDepth o.audio)
  | none => s

/-- R175: "At each output period every deck's allowance becomes unused again." -/
def Channel.renewAllowances (c : Channel) : Channel :=
  { c with deckA := { c.deckA with allowanceUsed := false }, deckB := { c.deckB with allowanceUsed := false } }

/-- OUTPUT_PERIOD (R1, R11, R15, R20, R108, R175), in the order of log 5. -/
def execOutputPeriod (s : State) : Host.Outcome State Fault Refusal :=
  let s := s.advance
  let s := (List.finRange 4).foldl State.channelPeriod s
  let s := (List.finRange 4).foldl State.observeOutput s
  let s : State := { s with channels := s.channels.map Channel.renewAllowances }
  .next s.countIdle

/-- DECK_UNDERRUN_ABANDON (R182), taken on its own: where the consecutive underruns of a sounding deck have reached 25 its
item is abandoned, else nothing happens (log 3). -/
def execDeckUnderrunAbandon (channel : Fin 4) (deck : DeckId) (s : State) : Host.Outcome State Fault Refusal :=
  .next (s.onChannel channel (fun e d => d.abandon e [deck]))

end Sys2Proof.Machine
end

