-- ==== Sys2Proof/Machine/Store.lean ====
section
/-! DEFINITION. The cart store (chapter 7): unit map, catalog, CART_QUERY, UNIT_QUERY, CART_DELETE, UNIT_ERASE and the erase
job. -/

namespace Sys2Proof.Machine

/-! ### Fields (R142) -/

/-- A cart number from 1 to 1023. -/
def cartField (x : BitVec 16) : Option (Fin 1024) := (field 1024 x.toNat).filter (fun c => decide (c ≠ 0))

/-- A range of 1 to 64 units that stays in its bank (R144, R147). -/
def unitRange (bank : Byte) (first : BitVec 16) (count : Byte) : Option (Fin 4 × Nat × Nat) :=
  match field 4 bank.toNat with
  | some b =>
    if inRange 1 64 count.toNat && decide (first.toNat + count.toNat ≤ Config.unitsPerBank) then
      some (b, first.toNat, count.toNat)
    else none
  | none => none

/-! ### Map and catalog -/

abbrev UnitMap := Vector (Option UnitState) 4096

def UnitMap.at (m : UnitMap) (unit : Nat) : Option UnitState := m[unit]?.join

def UnitMap.mark (m : UnitMap) (unit : Nat) (x : UnitState) : UnitMap := m.setIfInBounds unit (some x)

/-- Units first to first + n - 1 marked. -/
def UnitMap.markRun (m : UnitMap) (first : Nat) (x : UnitState) : Nat → UnitMap
  | 0 => m
  | n + 1 => (UnitMap.markRun m first x n).mark (first + n) x

/-- The unit number of a run's first unit. -/
def Run.start (r : Run) : Nat := unitNumber r.bank r.first

def Run.holds (r : Run) (unit : Nat) : Bool := decide (r.start ≤ unit) && decide (unit < r.start + r.count)

/-- The cart whose run holds a CLAIMED unit (R144); 0 where none does. -/
def Store.cartOf (t : Store) (unit : Nat) : Fin 1024 :=
  ((List.finRange 1024).find? (fun c => (t.catalog.get c).run.any (fun r => r.holds unit))).getD 0

def Store.setEntry (t : Store) (c : Fin 1024) (x : CatalogEntry) : Store := { t with catalog := put t.catalog c x }

def State.setStore (s : State) (t : Store) : State := { s with store := t }

/-- R165: the progress of the download of a LOADING cart. -/
def Store.progress (t : Store) (c : Fin 1024) : Option Progress :=
  (t.download.filter (fun d => decide (d.cart = c))).map (fun d =>
    { phase := d.phase, expected := d.expected, errors := d.errors, programmed := d.programmed })

/-- CART_QUERY (R142, R143, R165). -/
def execCartQuery (address : Address) (tag : BitVec 16) (cart : BitVec 16) (s : State) : Host.Outcome State Fault Refusal :=
  .next <| s.atPart address fun s =>
    match cartField cart with
    | none => s.answer tag 0x0012 .badField
    | some c =>
      if s.store.scan.done then
        let x := s.store.catalog.get c
        s.answer tag 0x0012 .done
          (.cart x (s.store.holds.get c) (if x.state = .loading then s.store.progress c else none))
      else s.answer tag 0x0012 .scanning

/-- R144: the states of a range of units, a CLAIMED unit with its cart. -/
def Store.report (t : Store) (first count : Nat) : List (Option UnitState × Fin 1024) :=
  (List.range count).map (fun i =>
    let x := UnitMap.at t.map (first + i)
    (x, if x = some .claimed then t.cartOf (first + i) else 0))

/-- UNIT_QUERY (R142, R144). -/
def execUnitQuery (address : Address) (tag : BitVec 16) (bank : Byte) (first : BitVec 16) (count : Byte) (s : State) :
    Host.Outcome State Fault Refusal :=
  .next <| s.atPart address fun s =>
    match unitRange bank first count with
    | none => s.answer tag 0x0013 .badField
    | some (b, f, n) =>
      if s.store.scan.done then s.answer tag 0x0013 .done (.units (s.store.report (unitNumber b f) n))
      else s.answer tag 0x0013 .scanning

/-! ### CART_DELETE (R145, R146) -/

/-- Every unit of the cart's run becomes DIRTY and the entry EMPTY. -/
def Store.remove (t : Store) (c : Fin 1024) : Store :=
  let map := match (t.catalog.get c).run with
    | some r => UnitMap.markRun t.map r.start .dirty r.count
    | none => t.map
  { t with map := map, catalog := put t.catalog c CatalogEntry.empty }

/-- The answer to a CART_CLOSE: cart, segments accepted, offset errors (R167). -/
def State.answerClose (s : State) (d : Download) (code : ResultCode) : State :=
  match d.close with
  | some w => s.answer w.tag 0x0017 code (.close d.cart d.expected d.errors)
  | none => s

/-- R146: the download of a LOADING cart abandoned, a waiting close answered TORN. -/
def State.abandonDownload (s : State) : State :=
  match s.store.download with
  | some d => ({ s with store := { s.store with download := none } } : State).answerClose d .torn
  | none => s

/-- CART_DELETE (R142, R145, R146). -/
def execCartDelete (address : Address) (tag : BitVec 16) (cart : BitVec 16) (s : State) : Host.Outcome State Fault Refusal :=
  .next <| s.atPart address fun s =>
    match cartField cart with
    | none => s.answer tag 0x0014 .badField
    | some c =>
      if s.store.scan.done then
        match (s.store.catalog.get c).state with
        | .empty => s.answer tag 0x0014 .state
        | .ready =>
          if s.store.holds.get c = 0 then (s.setStore (s.store.remove c)).answer tag 0x0014 .done
          else s.answer tag 0x0014 .held
        | .torn => (s.setStore (s.store.remove c)).answer tag 0x0014 .done
        | .loading => ((s.setStore (s.store.remove c)).abandonDownload).answer tag 0x0014 .done
      else s.answer tag 0x0014 .scanning

/-! ### The erase job (R147 to R149) -/

/-- R149: the job ends when its list is empty and no unit is in flight. -/
def State.finishJob (s : State) : State :=
  match s.store.job with
  | some j =>
    if j.units.isEmpty && j.inFlight.isNone then
      ({ s with store := { s.store with job := none } } : State).answer j.tag 0x0015 .done (.erase j.erased j.failed)
    else s
  | none => s

/-- The units of a range in a state, in rising order. -/
def Store.unitsIn (t : Store) (first count : Nat) (x : UnitState) : List Nat :=
  ((List.range count).map (first + ·)).filter (fun u => decide (UnitMap.at t.map u = some x))

/-- UNIT_ERASE (R142, R147). -/
def execUnitErase (address : Address) (tag : BitVec 16) (bank : Byte) (first : BitVec 16) (count : Byte) (s : State) :
    Host.Outcome State Fault Refusal :=
  .next <| s.atPart address fun s =>
    match unitRange bank first count with
    | none => s.answer tag 0x0015 .badField
    | some (b, f, n) =>
      if s.store.scan.done then
        if s.store.job.isSome then s.answer tag 0x0015 .busy
        else if (s.store.unitsIn (unitNumber b f) n .claimed).isEmpty then
          let job : EraseJob :=
            { tag := tag, bank := b, units := s.store.unitsIn (unitNumber b f) n .dirty, inFlight := none, erased := 0,
              failed := 0 }
          ({ s with store := { s.store with job := some job } } : State).finishJob
        else s.answer tag 0x0015 .state
      else s.answer tag 0x0015 .scanning

/-- R148: the completion of the erase of a unit. -/
def State.eraseEnds (s : State) (unit : Nat) (success : Bool) : State :=
  let job := s.store.job.map (fun j => ({ j with
    inFlight := none
    erased := if success then j.erased + 1 else j.erased
    failed := if success then j.failed else j.failed + 1 } : EraseJob))
  let store : Store :=
    { s.store with job := job, map := UnitMap.mark s.store.map unit (if success then .erased else .bad) }
  let s : State := { s with store := store }
  let s := if success then s
    else s.append { note .unitBad s.time.pos with reason := some .badErase, detail := some (BitVec.ofNat 32 unit) }
  s.finishJob

end Sys2Proof.Machine
end

