-- ==== Sys2Proof/Machine/Download.lean ====
section
/-! DEFINITION. Loading carts (chapter 8): CART_OPEN, SEGMENT_FRAME, CART_CLOSE, the program queue, and what the completion
of a program does. -/

namespace Sys2Proof.Machine

/-! ### Opening (R157, R158) -/

/-- The fields of CART_OPEN that pass step 1 of R157. -/
structure OpenFields where
  cart : Fin 1024
  run : Run
  size : CartLength
deriving DecidableEq, Repr

/-- R157, step 1. -/
def openFields (cart : BitVec 16) (bank : Byte) (first count : BitVec 16) (length segueOut : BitVec 32) : Option OpenFields :=
  match cartField cart, field 4 bank.toNat with
  | some c, some b =>
    if inRange 1 1024 count.toNat && decide (first.toNat + count.toNat ≤ Config.unitsPerBank) &&
        inRange 1 (runCapacity count.toNat) length.toNat && decide (segueOut.toNat < length.toNat) then
      some { cart := c, run := { bank := b, first := first.toNat, count := count.toNat },
             size := { length := length.toNat, segueOut := segueOut.toNat } }
    else none
  | _, _ => none

/-- A staging page that is EMPTY, at the open (R158) and after its program (R162). Table 8-1 gives each staging page a content page
number and states none for an EMPTY one: the number 0 is the model's choice (log 50). -/
def Staging.empty : Staging := { state := .empty, page := 0, frames := [] }

/-- R158: an accepted CART_OPEN. -/
def Store.openCart (t : Store) (f : OpenFields) : Store :=
  let number := t.downloadNumber + 1
  { t with
    map := UnitMap.markRun t.map f.run.start .claimed f.run.count
    catalog := put t.catalog f.cart
      { state := .loading, run := some f.run, size := some f.size, check := none, download := some number }
    downloadNumber := number
    download := some
      { number := number, cart := f.cart, phase := .receiving, expected := 0, check := checkStart, errors := 0,
        nextPage := 0, x := Staging.empty, y := Staging.empty, queue := [], inFlight := none, close := none,
        programmed := 0 } }

/-- CART_OPEN (R157, R158). -/
def execCartOpen (address : Address) (tag : BitVec 16) (cart : BitVec 16) (bank : Byte) (first count : BitVec 16)
    (length segueOut : BitVec 32) (s : State) : Host.Outcome State Fault Refusal :=
  .next <| s.atPart address fun s =>
    match openFields cart bank first count length segueOut with
    | none => s.answer tag 0x0016 .badField
    | some f =>
      if s.store.scan.done then
        if s.store.download.any (fun d => decide (d.cart ≠ f.cart)) then s.answer tag 0x0016 .busy
        else if (s.store.catalog.get f.cart).state ≠ .empty then s.answer tag 0x0016 .state
        else if (s.store.unitsIn f.run.start f.run.count .erased).length = f.run.count then
          (s.setStore (s.store.openCart f)).answer tag 0x0016 .done
        else s.answer tag 0x0016 .notErased
      else s.answer tag 0x0016 .scanning

/-! ### Programs (R161) -/

/-- The cart's run, as its catalog entry holds it. -/
def Store.runOf (t : Store) (c : Fin 1024) : Run := (t.catalog.get c).run.getD { bank := 0, first := 0, count := 0 }

/-- Content page j is the first of its unit. -/
def firstOfUnit (j : Nat) : Bool := decide (j = 0) || (decide (62 ≤ j) && decide ((j - 62) % 63 = 0))

/-- R161: the programs for content page j of a run: the unit header before the first content page of its unit. -/
def contentPrograms (cart : Fin 1024) (r : Run) (id : StagingId) (x : Staging) : List Program :=
  let p := contentPlace x.page
  let unit := r.start + p.1
  let content : Program :=
    { kind := .content id, unit := unit, ordinal := p.1, page := p.2, contents := contentPage x.frames }
  if firstOfUnit x.page then
    [{ kind := .unitHeader, unit := unit, ordinal := p.1, page := 0, contents := unitHeaderPage cart p.1 r.bank }, content]
  else [content]

def Download.staging (d : Download) : StagingId → Staging
  | .x => d.x
  | .y => d.y

def Download.setStaging (d : Download) (id : StagingId) (x : Staging) : Download :=
  match id with
  | .x => { d with x := x }
  | .y => { d with y := x }

/-- R160: a page that holds its eighth frame becomes PENDING, its program queued. -/
def Download.pend (d : Download) (r : Run) (id : StagingId) : Download :=
  let x : Staging := { d.staging id with state := .pending }
  let d := d.setStaging id x
  { d with queue := d.queue ++ contentPrograms d.cart r id x }

/-! ### Segments (R159, R160, R163) -/

/-- R160: the staging page that takes the next segment: the one FILLING, or an EMPTY one, X first. -/
def Download.target (d : Download) : Option StagingId :=
  if d.x.state = .filling then some .x
  else if d.y.state = .filling then some .y
  else if d.x.state = .empty then some .x
  else if d.y.state = .empty then some .y
  else none

/-- An accepted segment placed (R159, R160). -/
def Download.accept (d : Download) (r : Run) (id : StagingId) (audio : Audio) : Download :=
  let x := d.staging id
  let fresh := decide (x.state = .empty)
  let x : Staging :=
    if fresh then { state := .filling, page := d.nextPage, frames := [audio] } else { x with frames := x.frames ++ [audio] }
  let d : Download := { d.setStaging id x with
    nextPage := if fresh then d.nextPage + 1 else d.nextPage
    check := checkOver d.check (audioBytes audio)
    expected := d.expected + 1 }
  if x.frames.length < Config.framesPerPage then d else d.pend r id

/-- A CART_TORN record of a download (R123). -/
def tornRecord (position : FrameNo) (d : Download) (r : Run) (reason : Reason) : Record :=
  { note .cartTorn position with
    reason := some reason, cart := some d.cart, frames := some (BitVec.ofNat 32 d.expected),
    detail := some (BitVec.ofNat 32 r.start) }

/-- The cart becomes TORN and the context absent (R163, R164, R167). -/
def Store.tear (t : Store) (c : Fin 1024) : Store :=
  { t with catalog := put t.catalog c { t.catalog.get c with state := .torn }, download := none }

/-- R163: an overflow. -/
def State.overflow (s : State) (d : Download) : State :=
  let r := s.store.runOf d.cart
  (s.setStore (s.store.tear d.cart)).append (tornRecord s.time.pos d r .tornOverflow)

/-- The download context replaced. -/
def State.setDownload (s : State) (d : Download) : State := { s with store := { s.store with download := some d } }

/-- R159: a segment judged against the context. -/
def State.segment (s : State) (d : Download) (offset : BitVec 32) (audio : Audio) : State :=
  let length := (s.store.catalog.get d.cart).size.elim 0 (·.length)
  if d.phase = .closing then s
  else if offset.toNat ≠ d.expected ∨ d.expected = length then s.setDownload { d with errors := satInc16 d.errors }
  else
    match d.target with
    | some id => s.setDownload (d.accept (s.store.runOf d.cart) id audio)
    | none => s.overflow d

/-- SEGMENT_FRAME (R159, R160, R163, R194). -/
def execSegmentFrame (address : Address) (cart : BitVec 16) (offset : BitVec 32) (audio : Audio) (s : State) :
    Host.Outcome State Fault Refusal :=
  .next <| s.atPart address fun s =>
    match s.store.download with
    | some d => if cart.toNat = d.cart.val then s.segment d offset audio else s
    | none => s

/-! ### Closing (R166, R167) -/

/-- R167: the cart header program. -/
def cartHeaderProgram (d : Download) (r : Run) (z : CartLength) (check : BitVec 32) : Program :=
  { kind := .cartHeader, unit := r.start, ordinal := 0, page := 1,
    contents := cartHeaderPage d.cart z.length z.segueOut check r.count }

/-- R166: the close may be judged: nothing queued, nothing in flight, both staging pages EMPTY. -/
def Download.drained (d : Download) : Bool :=
  decide (d.phase = .closing) && d.queue.isEmpty && d.inFlight.isNone && decide (d.x.state = .empty) &&
    decide (d.y.state = .empty)

/-- R167: a waiting close judged, when it may be. -/
def State.judgeClose (s : State) : State :=
  match s.store.download with
  | some d =>
    match d.drained, d.close with
    | true, some w =>
      let x := s.store.catalog.get d.cart
      let r := s.store.runOf d.cart
      let z := x.size.getD { length := 0, segueOut := 0 }
      if d.expected = z.length ∧ checkFinal d.check = w.check then
        s.setDownload { d with queue := [cartHeaderProgram d r z w.check] }
      else
        ((s.setStore (s.store.tear d.cart)).append (tornRecord s.time.pos d r .tornClose)).answerClose d .torn
    | _, _ => s
  | none => s

/-- R166: a FILLING page completed with silence. -/
def Download.padPage (d : Download) (r : Run) (id : StagingId) : Download :=
  let x := d.staging id
  if x.state = .filling then
    let padded : Staging :=
      { x with frames := x.frames ++ List.replicate (Config.framesPerPage - x.frames.length) Audio.silence }
    (d.setStaging id padded).pend r id
  else d

/-- CART_CLOSE (R166). -/
def execCartClose (address : Address) (tag : BitVec 16) (cart : BitVec 16) (check : BitVec 32) (s : State) :
    Host.Outcome State Fault Refusal :=
  .next <| s.atPart address fun s =>
    match cartField cart with
    | none => s.answer tag 0x0017 .badField
    | some c =>
      if s.store.scan.done then
        match s.store.download.filter (fun d => decide (d.cart = c)) with
        | none => s.answer tag 0x0017 .state
        | some d =>
          if d.phase = .closing then s.answer tag 0x0017 .busy
          else
            let r := s.store.runOf c
            let d : Download := { d with phase := .closing, close := some { tag := tag, check := check } }
            (s.setDownload ((d.padPage r .x).padPage r .y)).judgeClose
      else s.answer tag 0x0017 .scanning

/-! ### Completions (R162, R164) -/

/-- R139: the run cut before the unit of an ordinal, which becomes BAD; the units after it become DIRTY. -/
def Store.cutRun (t : Store) (c : Fin 1024) (ordinal unit : Nat) : Store :=
  let r := t.runOf c
  let map := UnitMap.markRun t.map (unit + 1) .dirty (r.count - (ordinal + 1))
  { t with
    map := UnitMap.mark map unit .bad
    catalog := put t.catalog c { t.catalog.get c with run := some { r with count := ordinal } } }

/-- A UNIT_BAD record with reason PROGRAM. -/
def badProgramRecord (position : FrameNo) (c : Fin 1024) (unit : Nat) : Record :=
  { note .unitBad position with
    reason := some .badProgram, cart := some c, detail := some (BitVec.ofNat 32 unit) }

/-- R164: a program of the present download failed. -/
def State.failProgram (s : State) (d : Download) (p : Program) : State :=
  let r := s.store.runOf d.cart
  let s := (s.setStore (s.store.cutRun d.cart p.ordinal p.unit)).append (badProgramRecord s.time.pos d.cart p.unit)
  ((s.setStore (s.store.tear d.cart)).append (tornRecord s.time.pos d r .tornProgram)).answerClose d .torn

/-- R167: the cart header is in flash: the cart becomes READY with its content check. -/
def State.finishClose (s : State) (d : Download) : State :=
  let x : CatalogEntry := { s.store.catalog.get d.cart with state := .ready, check := d.close.map (·.check) }
  let store : Store := { s.store with catalog := put s.store.catalog d.cart x, download := none }
  ((s.setStore store).answerClose d .done).cartReady

/-- R162: a program of the present download succeeded. -/
def State.programDone (s : State) (d : Download) (p : Program) : State :=
  let d : Download := { d with inFlight := none }
  match p.kind with
  | .unitHeader => (s.setDownload d).judgeClose
  | .content id => (s.setDownload { d.setStaging id Staging.empty with programmed := d.programmed + 1 }).judgeClose
  | .cartHeader => s.finishClose d

/-- R162: a completion of a download that has ended: ignored, but for a failure on a cart still TORN by that download. -/
def State.lateProgram (s : State) (p : Program) (c : Fin 1024) (tag : BitVec 32) (success : Bool) : State :=
  let x := s.store.catalog.get c
  if x.state = .torn ∧ x.download = some tag ∧ success = false then
    (s.setStore (s.store.cutRun c p.ordinal p.unit)).append (badProgramRecord s.time.pos c p.unit)
  else s

/-- R162, R164: the completion of a program, by its tag. -/
def State.programEnds (s : State) (p : Program) (c : Fin 1024) (tag : BitVec 32) (success : Bool) : State :=
  match s.store.download.filter (fun d => decide (d.number = tag)) with
  | some d => if success then s.programDone d p else s.failProgram d p
  | none => s.lateProgram p c tag success

end Sys2Proof.Machine
end

