-- ==== Sys2Proof/Machine/Scan.lean ====
section
/-! DEFINITION. The start-up scan (section 7.7): classing pages, the reads of each bank, assembling runs, and the end of the
scan. -/

namespace Sys2Proof.Machine

/-! ### Classing pages (R136, R137) -/

/-- R136: a unit header with a correct check, valid or damaged by its other conditions. -/
def headerClass (bank : Fin 4) (unit : Nat) (p : FlashPage) : UnitClass :=
  let ordinal := numberOf (pageBytes p 2 2)
  match field 1024 (numberOf (pageBytes p 0 2)) with
  | some c =>
    if c ≠ 0 ∧ numberOf (pageBytes p 4 1) = bank.val ∧ ordinal ≤ unit then .header c ordinal else .damaged
  | none => .damaged

/-- R136 and R151: the class of page 0, in the order of section 12.6; none where the page is to be read again. -/
def classOf (bank : Fin 4) (unit : Nat) (p : FlashPage) : Option UnitClass :=
  if isBlank p then some .blank
  else if p = .void then some .void
  else if pageBytes p 0 8 = badMark then some .bad
  else if checkGood p 8 then some (headerClass bank unit p)
  else none

/-- R137: the fields of a cart header with a correct check, if it is valid for the cart of its unit header. -/
def cartHeaderOf (cart : Fin 1024) (p : FlashPage) : Option CartHeader :=
  let length := numberOf (pageBytes p 4 4)
  let segueOut := numberOf (pageBytes p 8 4)
  let count := numberOf (pageBytes p 16 2)
  if numberOf (pageBytes p 0 2) = cart.val ∧ inRange 1 1024 count ∧ inRange 1 (runCapacity count) length ∧
      segueOut < length then
    some { length := length, segueOut := segueOut, check := BitVec.ofNat 32 (numberOf (pageBytes p 12 4)), count := count }
  else none

/-! ### The reads of a bank (R151, R152) -/

/-- Page 0 of the next unit, or none after the last. -/
def nextUnit (unit : Nat) : BankScan :=
  if unit + 1 < Config.unitsPerBank then { read := some { unit := unit + 1, page1 := false }, attempt := 1 }
  else { read := none, attempt := 1 }

def Scan.setBank (t : Scan) (bank : Fin 4) (b : BankScan) : Scan := { t with banks := put t.banks bank b }

def Scan.setClass (t : Scan) (unit : Nat) (c : UnitClass) : Scan := { t with classes := t.classes.setIfInBounds unit (some c) }

def Scan.classAt (t : Scan) (unit : Nat) : Option UnitClass := t.classes[unit]?.join

/-- The attempts a scan read has (R151, R152). -/
def scanAttempts : Nat := 4

/-- R151: a page 0 read, its contents absent when the bank failed. -/
def Scan.page0Read (t : Scan) (bank : Fin 4) (b : BankScan) (unit : Nat) (contents : Option FlashPage) : Scan :=
  match contents.bind (classOf bank unit) with
  | some c =>
    let t := t.setClass (unitNumber bank unit) c
    match c with
    | .header _ 0 => t.setBank bank { read := some { unit := unit, page1 := true }, attempt := 1 }
    | _ => t.setBank bank (nextUnit unit)
  | none =>
    if b.attempt < scanAttempts then t.setBank bank { b with attempt := b.attempt + 1 }
    else (t.setClass (unitNumber bank unit) .damaged).setBank bank (nextUnit unit)

/-- R152: a page 1 read. -/
def Scan.page1Read (t : Scan) (bank : Fin 4) (b : BankScan) (unit : Nat) (contents : Option FlashPage) : Scan :=
  let done := t.setBank bank (nextUnit unit)
  let again := if b.attempt < scanAttempts then t.setBank bank { b with attempt := b.attempt + 1 } else done
  match contents with
  | none => again
  | some p =>
    if isBlank p then done
    else if checkGood p 20 then
      match t.classAt (unitNumber bank unit) with
      | some (.header c _) =>
        match cartHeaderOf c p with
        | some h => { done with headers := done.headers ++ [(unitNumber bank unit, h)] }
        | none => done
      | _ => done
    else again

/-! ### Assembling runs (R153) -/

/-- A run found at a head. -/
structure Found where
  cart : Fin 1024
  unit : Nat
  count : Nat
  header : Option CartHeader
deriving DecidableEq, Repr

/-- The unit holds a valid unit header naming the cart with the ordinal. -/
def Scan.follows (t : Scan) (cart : Fin 1024) (ordinal unit : Nat) : Bool :=
  decide (t.classAt unit = some (.header cart ordinal))

/-- The longest unbroken sequence from a head, in units beyond the first `n`; `fuel` bounds the units of the bank left. -/
def Scan.unbroken (t : Scan) (cart : Fin 1024) (head : Nat) : Nat → Nat → Nat
  | 0, n => n
  | fuel + 1, n => if t.follows cart n (head + n) then Scan.unbroken t cart head fuel (n + 1) else n

/-- The run at a unit, if it is a head: READY grade with its cart header, or TORN grade without. -/
def Scan.runAt (t : Scan) (unit : Nat) : Option Found :=
  match t.classAt unit with
  | some (.header c 0) =>
    let n := t.unbroken c unit (Config.unitsPerBank - unit % Config.unitsPerBank - 1) 1
    match t.headers.lookup unit with
    | some h =>
      if h.count ≤ n then some { cart := c, unit := unit, count := h.count, header := some h }
      else some { cart := c, unit := unit, count := n, header := none }
    | none => some { cart := c, unit := unit, count := n, header := none }
  | _ => none

/-- Every run found, in rising order of its head. -/
def Scan.found (t : Scan) : List Found := (List.range 4096).filterMap t.runAt

/-- R153: the run kept for a cart number: READY grade before TORN grade, then the lowest head. -/
def keptRun (found : List Found) (c : Fin 1024) : Option Found :=
  let mine := found.filter (fun f => decide (f.cart = c))
  match mine.find? (fun f => f.header.isSome) with
  | some f => some f
  | none => mine.head?

/-! ### The end of the scan (R154) -/

/-- The catalog entry of a kept run. -/
def Found.entry (f : Found) : CatalogEntry :=
  { state := if f.header.isSome then .ready else .torn
    run := some { bank := Fin.ofNat 4 (f.unit / Config.unitsPerBank), first := f.unit % Config.unitsPerBank, count := f.count }
    size := f.header.map (fun h => { length := h.length, segueOut := h.segueOut })
    check := f.header.map (·.check)
    download := none }

/-- The map state of a unit by its class. -/
def mapState (found : List Found) (unit : Nat) : Option UnitClass → UnitState
  | some .blank => .erased
  | some .bad => .bad
  | some (.header c _) =>
    match keptRun found c with
    | some f => if f.unit ≤ unit ∧ unit < f.unit + f.count then .claimed else .dirty
    | none => .dirty
  | some .void => .dirty
  | some .damaged => .dirty
  | none => .dirty

/-- The carts in a state, in rising cart number. -/
def Store.cartsIn (t : Store) (x : CartState) : List (Fin 1024) :=
  (List.finRange 1024).filter (fun c => decide ((t.catalog.get c).state = x))

/-- The rebuilt map and catalog. -/
def Store.rebuilt (t : Store) : Store :=
  let found := t.scan.found
  { t with
    map := Vector.ofFn (fun u => some (mapState found u.val (t.scan.classes.get u)))
    catalog := Vector.ofFn (fun c => ((keptRun found c).map Found.entry).getD CatalogEntry.empty) }

/-- R154, step 1: the CART_TORN record of a cart found torn. -/
def scanTornRecord (position : FrameNo) (t : Store) (c : Fin 1024) : Record :=
  let r := t.runOf c
  { note .cartTorn position with
    reason := some .tornScan, cart := some c, frames := some (BitVec.ofNat 32 r.count),
    detail := some (BitVec.ofNat 32 r.start) }

/-- R154, step 2: the SCAN_DONE record (R123, section 12.4). -/
def scanDoneRecord (position : FrameNo) (t : Store) : Record :=
  let bad := (t.map.toList.filter (fun x => decide (x = some .bad))).length
  { note .scanDone position with
    frames := some (BitVec.ofNat 32 (t.cartsIn .ready).length),
    detail := some (BitVec.ofNat 32 ((t.cartsIn .torn).length * 65536 + bad)) }

/-- R154: the scan ends. -/
def State.endScan (s : State) : State :=
  let t := s.store.rebuilt
  let s := s.setStore t
  let s := s.appendAll ((t.cartsIn .torn).map (scanTornRecord s.time.pos t))
  let s := s.append (scanDoneRecord s.time.pos t)
  let s := s.setStore { s.store with scan := { s.store.scan with done := true } }
  if (t.cartsIn .ready).isEmpty then s else s.cartReady

/-- R150 to R154: the completion of a bank's scan read. -/
def State.scanRead (s : State) (bank : Fin 4) (contents : Option FlashPage) : State :=
  let b := s.store.scan.banks.get bank
  match b.read with
  | some r =>
    let scan :=
      if r.page1 then s.store.scan.page1Read bank b r.unit contents else s.store.scan.page0Read bank b r.unit contents
    let s := s.setStore { s.store with scan := scan }
    if scan.banks.toList.all (fun x => x.read.isNone) then s.endScan else s
  | none => s

end Sys2Proof.Machine
end

