-- ==== Sys2Proof/Machine/Port.lean ====
section
/-! DEFINITION. The media port (chapter 9): requests, guard and grants (R172 to R176), the completions of reads, programs and
erases (R171, R179, R180, R184), and the meanings of the rows of the port. -/

namespace Sys2Proof.Machine

/-! ### Requests (R172) -/

/-- Deck number: channel × 2, plus 1 for deck B. -/
def deckOfNumber (n : Fin 8) : Fin 4 × DeckId := (Fin.ofNat 4 (n.val / 2), if n.val % 2 = 0 then .a else .b)

def State.deckAt (s : State) (n : Fin 8) : Deck := (s.channels.get (deckOfNumber n).1).deck (deckOfNumber n).2

/-- No read of the deck's present item is in flight. -/
def Deck.readFree (k : Deck) : Bool := !(k.read.any (fun r => decide (r.load = k.load)))

/-- R172: the deck's read request is present. -/
def Deck.requests (k : Deck) : Bool :=
  k.readFree && k.pagesLeft &&
    (decide (k.state = .priming) || (k.sounding && decide (k.buffer.length ≤ Config.refillLevel)))

/-- Table 9-3, class 1. -/
def Deck.urgent (k : Deck) : Bool :=
  k.requests && (decide (k.state = .priming) || decide (k.buffer.length < Config.startLevel))

/-- Table 9-3, class 2. -/
def Deck.refill (k : Deck) : Bool :=
  k.requests && k.sounding && decide (Config.startLevel ≤ k.buffer.length) && !k.allowanceUsed

def Arbiter.busy (t : Arbiter) (bank : Fin 4) : Bool := (t.banks.get bank).isSome

/-- R176: the deck guards its bank. -/
def Deck.guards (k : Deck) (bank : Fin 4) : Bool :=
  k.source.any (fun z => decide (z.bank = bank)) && (decide (k.state = .priming) || k.sounding) &&
    decide (k.buffer.length < Config.guardLevel) && k.pagesLeft

def State.guarded (s : State) (bank : Fin 4) : Bool :=
  (List.finRange 8).any (fun n => (s.deckAt n).guards bank)

/-- R174: the search order after a pointer. -/
def deckSearch (pointer : Fin 8) : List (Fin 8) := (List.finRange 8).map (fun i => pointer + 1 + i)

def scanSearch (pointer : Fin 4) : List (Fin 4) := (List.finRange 4).map (fun i => pointer + 1 + i)

/-- The deck's bank is not busy. -/
def State.bankFree (s : State) (k : Deck) : Bool := k.source.any (fun z => !s.arbiter.busy z.bank)

/-! ### Grants (R173 to R175) -/

/-- The first eligible request, in class order (Table 9-3). -/
inductive Grant where
  | deck (n : Fin 8) (allowance : Bool)
  | scan (bank : Fin 4)
  | program (d : Download) (p : Program) (rest : List Program)
  | erase (j : EraseJob) (unit : Nat) (rest : List Nat)

def State.deckGrant (s : State) : Option Grant :=
  match (deckSearch s.arbiter.deckPointer).find? (fun n => (s.deckAt n).urgent && s.bankFree (s.deckAt n)) with
  | some n => some (.deck n false)
  | none =>
    match (deckSearch s.arbiter.deckPointer).find? (fun n => (s.deckAt n).refill && s.bankFree (s.deckAt n)) with
    | some n => some (.deck n true)
    | none => none

def State.scanGrant (s : State) : Option Grant :=
  ((scanSearch s.arbiter.scanPointer).find? (fun b =>
    !s.store.scan.done && (s.store.scan.banks.get b).read.isSome && !s.arbiter.busy b)).map .scan

def State.programGrant (s : State) : Option Grant :=
  match s.store.download with
  | some d =>
    match d.queue, d.inFlight with
    | p :: rest, none =>
      let bank := (s.store.runOf d.cart).bank
      if !s.arbiter.busy bank && !s.guarded bank then some (.program d p rest) else none
    | _, _ => none
  | none => none

def State.eraseGrant (s : State) : Option Grant :=
  match s.store.job with
  | some j =>
    match j.units, j.inFlight with
    | u :: rest, none => if !s.arbiter.busy j.bank && !s.guarded j.bank then some (.erase j u rest) else none
    | _, _ => none
  | none => none

/-- R173: what the arbiter would grant on a free port. -/
def State.nextGrant (s : State) : Option Grant :=
  match s.deckGrant with
  | some g => some g
  | none =>
    match s.scanGrant with
    | some g => some g
    | none =>
      match s.programGrant with
      | some g => some g
      | none => s.eraseGrant

/-- The port held and a bank busy (R170). -/
def Arbiter.hold (t : Arbiter) (x : Transaction) (bank : Fin 4) (op : BankOp) : Arbiter :=
  { t with port := some x, banks := put t.banks bank (some op) }

/-- A deck of the state replaced. -/
def State.setDeckAt (s : State) (n : Fin 4) (id : DeckId) (k : Deck) : State :=
  { s with channels := put s.channels n ((s.channels.get n).setDeck id k) }

/-- R172, R175, R184: the read of a deck granted. -/
def State.grantDeck (s : State) (n : Fin 8) (allowance : Bool) : State :=
  let k := s.deckAt n
  match k.source with
  | some z =>
    let k' : Deck := { k with
      read := some { page := k.nextPage, load := k.load }, allowanceUsed := k.allowanceUsed || allowance }
    let s := s.setDeckAt (deckOfNumber n).1 (deckOfNumber n).2 k'
    { s with arbiter := { s.arbiter.hold
        (.deckRead (deckOfNumber n).1 (deckOfNumber n).2 z.bank k.nextPage k.load allowance) z.bank .read with
        deckPointer := n } }
  | none => s

/-- R161: the program at the front granted: it leaves the queue, and a content page's staging page becomes PROGRAMMING. -/
def State.grantProgram (s : State) (d : Download) (p : Program) (rest : List Program) : State :=
  let bank := (s.store.runOf d.cart).bank
  let d' : Download := { d with queue := rest, inFlight := some p }
  let d' := match p.kind with
    | .content id => d'.setStaging id { d'.staging id with state := .programming }
    | .unitHeader => d'
    | .cartHeader => d'
  let s := s.setDownload d'
  { s with arbiter := s.arbiter.hold (.program bank) bank (.program p d.cart d.number) }

/-- R148: the erase of the job's next unit granted. -/
def State.grantErase (s : State) (j : EraseJob) (unit : Nat) (rest : List Nat) : State :=
  let store : Store := { s.store with
    job := some { j with units := rest, inFlight := some unit }, map := UnitMap.mark s.store.map unit .erasing }
  { s with store := store, arbiter := s.arbiter.hold (.erase j.bank) j.bank (.erase unit) }

def State.grant (s : State) : Grant → State
  | .deck n allowance => s.grantDeck n allowance
  | .scan bank =>
    { s with arbiter := { s.arbiter.hold (.scanRead bank) bank .read with scanPointer := bank } }
  | .program d p rest => s.grantProgram d p rest
  | .erase j unit rest => s.grantErase j unit rest

/-- MEDIA_PORT_GRANT (R173): on a free port the first eligible request is granted; with none, or on a held port, nothing
happens (log 4). -/
def execMediaPortGrant (s : State) : Host.Outcome State Fault Refusal :=
  .next <|
    match s.arbiter.port, s.nextGrant with
    | none, some g => s.grant g
    | _, _ => s

/-! ### Completions (R170, R171) -/

def State.freePort (s : State) : State := { s with arbiter := { s.arbiter with port := none } }

def State.freeBank (s : State) (bank : Fin 4) : State :=
  { s with arbiter := { s.arbiter with banks := put s.arbiter.banks bank none } }

/-- What a read of a page of the store brings; none when the bank reports a failure. -/
def State.contents (s : State) (page : Nat) : ReadOutcome → Option FlashPage
  | .stored => some (Flash.read s.flash page)
  | .other p => some p
  | .failed => none

/-- R179, R213: the 8 frames of a content page whose page check is correct. -/
def contentFrames (p : FlashPage) : Option (List Audio) :=
  if checkGood p 9216 then some ((List.range 8).map (fun i => audioOf (pageBytes p (i * 1152) 1152))) else none

/-- R178: a PRIMING deck becomes READY at the start level, or with no pages left. -/
def Deck.settled (k : Deck) : Deck :=
  if k.state = .priming ∧ (Config.startLevel ≤ k.buffer.length ∨ k.pagesLeft = false) then { k with state := .ready } else k

/-- R179: the frames of content page j that are numbered below the cart's length join the buffer. -/
def Deck.filled (k : Deck) (page : Nat) (frames : List Audio) : Deck :=
  let real := frames.take (k.length - page * Config.framesPerPage)
  ({ k with buffer := k.buffer ++ real, nextPage := k.nextPage + 1, retries := 0, read := none } : Deck).settled

namespace Desk

/-- R180: a failed read: a retry, or at the fourth failed attempt the item is given up. -/
def readFailed (id : DeckId) (allowance : Bool) (e : Env) (d : Desk) : Desk :=
  let k := d.deck id
  let k : Deck := { k with read := none, allowanceUsed := k.allowanceUsed && !allowance }
  if k.retries < 3 then d.setDeck id { k with retries := k.retries + 1 }
  else ((d.setDeck id k).faultDeck e id).service e

/-- R179, R180, R184: the completion of a deck's read. -/
def readEnds (id : DeckId) (page : Nat) (load : BitVec 32) (allowance : Bool) (contents : Option FlashPage) (e : Env)
    (d : Desk) : Desk :=
  let k := d.deck id
  if k.load = load ∧ k.state ≠ .idle then
    match contents.bind contentFrames with
    | some frames => d.setDeck id (k.filled page frames)
    | none => d.readFailed id allowance e
  else if k.read.any (fun r => decide (r.load = load)) then d.setDeck id { k with read := none }
  else d

end Desk

/-- The page of the store that holds content page j of the cart on a deck. -/
def Deck.storePage (k : Deck) (page : Nat) : Nat :=
  match k.source with
  | some z => pageNumber (unitNumber z.bank (z.firstUnit + (contentPlace page).1)) (contentPlace page).2
  | none => 0

/-- The completion of the deck read that holds the port. -/
def State.deckReadEnds (s : State) (n : Fin 4) (id : DeckId) (bank : Fin 4) (page : Nat) (load : BitVec 32)
    (allowance : Bool) (outcome : ReadOutcome) : State :=
  let contents := s.contents (((s.channels.get n).deck id).storePage page) outcome
  ((s.freePort.freeBank bank).onChannel n (Desk.readEnds id page load allowance contents))

/-- DECK_READ_COMPLETE (R171, R179, R180, R184). -/
def execDeckReadComplete (outcome : ReadOutcome) (s : State) : Host.Outcome State Fault Refusal :=
  .next <|
    match s.arbiter.port with
    | some (.deckRead n id bank page load allowance) => s.deckReadEnds n id bank page load allowance outcome
    | _ => s

/-- READ_RETRIES_EXHAUSTED (R180): the fourth failed attempt of the deck read that holds the port; with no such read nothing
happens (log 3). -/
def execReadRetriesExhausted (s : State) : Host.Outcome State Fault Refusal :=
  .next <|
    match s.arbiter.port with
    | some (.deckRead n id bank page load allowance) =>
      let k := (s.channels.get n).deck id
      if k.load = load ∧ k.state ≠ .idle ∧ k.retries = 3 then
        s.deckReadEnds n id bank page load allowance .failed
      else s
    | _ => s

/-- The page of the store that a scan read asks for. -/
def ScanRead.storePage (r : ScanRead) (bank : Fin 4) : Nat :=
  pageNumber (unitNumber bank r.unit) (if r.page1 then 1 else 0)

/-- SCAN_READ_COMPLETE (R151, R152, R171). -/
def execScanReadComplete (outcome : ReadOutcome) (s : State) : Host.Outcome State Fault Refusal :=
  .next <|
    match s.arbiter.port with
    | some (.scanRead bank) =>
      let page := match (s.store.scan.banks.get bank).read with
        | some r => r.storePage bank
        | none => 0
      (s.freePort.freeBank bank).scanRead bank (s.contents page outcome)
    | _ => s

/-- PROGRAM_TRANSFER_END (R170): the port becomes free, the bank stays busy. -/
def execProgramTransferEnd (s : State) : Host.Outcome State Fault Refusal :=
  .next <|
    match s.arbiter.port with
    | some (.program _) => s.freePort
    | _ => s

/-- ERASE_COMMAND_END (R170). -/
def execEraseCommandEnd (s : State) : Host.Outcome State Fault Refusal :=
  .next <|
    match s.arbiter.port with
    | some (.erase _) => s.freePort
    | _ => s

/-- The port is not held by a transaction on the bank: its program or erase has had its transfer or command end. -/
def Arbiter.released (t : Arbiter) (bank : Fin 4) : Bool :=
  match t.port with
  | some (.program b) => decide (b ≠ bank)
  | some (.erase b) => decide (b ≠ bank)
  | _ => true

/-- What a program leaves in the flash: its page, or a loose page after a failure (R138; log 9). -/
def State.programmedFlash (s : State) (p : Program) (success : Bool) : State :=
  let n := pageNumber p.unit p.page
  if success then { s with flash := Flash.program s.flash n p.contents }
  else { s with flash := Flash.program s.flash n (Flash.loosePage s.fresh n), fresh := s.fresh + 1 }

/-- What an erase leaves in the flash: blank pages, or after a failure the void mark in page 0 (R138) and loose pages
(log 9). -/
def State.erasedFlash (s : State) (unit : Nat) (success : Bool) : State :=
  if success then { s with flash := Flash.eraseUnit s.flash unit }
  else { s with flash := Flash.partErased s.flash s.fresh unit .void, fresh := s.fresh + 1 }

/-- PROGRAM_COMPLETE (R162, R164, R170, R171). -/
def execProgramComplete (bank : Fin 4) (success : Bool) (s : State) : Host.Outcome State Fault Refusal :=
  .next <|
    match s.arbiter.banks.get bank, s.arbiter.released bank with
    | some (.program p c tag), true => ((s.freeBank bank).programmedFlash p success).programEnds p c tag success
    | _, _ => s

/-- ERASE_COMPLETE (R148, R170, R171). -/
def execEraseComplete (bank : Fin 4) (success : Bool) (s : State) : Host.Outcome State Fault Refusal :=
  .next <|
    match s.arbiter.banks.get bank, s.arbiter.released bank with
    | some (.erase unit), true => ((s.freeBank bank).erasedFlash unit success).eraseEnds unit success
    | _, _ => s

end Sys2Proof.Machine
end

