-- ==== Sys2Proof/Machine/Return.lean ====
section
/-! DEFINITION. The return link (R124, R125, R204, R205), the log requests (R127 to R131) and STATUS_QUERY (R207, R208). -/

namespace Sys2Proof.Machine

/-! ### Frames of the return link -/

def State.setReturn (s : State) (t : ReturnLink) : State := { s with ret := t }

/-- R204: an answer frame may be started. -/
def State.answerDue (s : State) : Bool := s.ret.inFlight.isNone && !s.ret.queue.isEmpty && s.ret.carrier

/-- R124: a report frame may be started. -/
def State.reportDue (s : State) : Bool :=
  s.ret.inFlight.isNone && s.ret.queue.isEmpty && s.ret.carrier && decide (s.log.send < s.log.write)

/-- ANSWER_FRAME_START (R204). -/
def execAnswerFrameStart (s : State) : Host.Outcome State Fault Refusal :=
  .next (if s.answerDue then s.setReturn { s.ret with inFlight := some .answer } else s)

/-- ANSWER_FRAME_COMPLETE (R204): the oldest answer leaves the queue. -/
def execAnswerFrameComplete (s : State) : Host.Outcome State Fault Refusal :=
  .next <|
    match s.ret.inFlight with
    | some .answer => s.setReturn { s.ret with queue := s.ret.queue.tail, inFlight := none }
    | _ => s

/-- REPORT_FRAME_START (R124): the record at the send point is copied, and send increases by one. -/
def execReportFrameStart (s : State) : Host.Outcome State Fault Refusal :=
  .next <|
    if s.reportDue then
      let r := s.log.readBack (BitVec.ofNat 32 s.log.send)
      { s with ret := { s.ret with inFlight := some (.report r) }, log := { s.log with send := s.log.send + 1 } }
    else s

/-- REPORT_FRAME_COMPLETE (R125): the record has been sent. -/
def execReportFrameComplete (s : State) : Host.Outcome State Fault Refusal :=
  .next <|
    match s.ret.inFlight with
    | some (.report _) => s.setReturn { s.ret with inFlight := none }
    | _ => s

/-- R125: send becomes s again where record s is still retained. -/
def Log.unsend (l : Log) (r : Record) : Log :=
  if l.release ≤ r.sequence.toNat then { l with send := r.sequence.toNat } else l

/-- CARRIER_LOSS (R125, R205): a frame in flight is abandoned. -/
def execCarrierLoss (s : State) : Host.Outcome State Fault Refusal :=
  .next <|
    let t : ReturnLink := { s.ret with carrier := false, inFlight := none }
    match s.ret.inFlight with
    | some (.report r) => { s with ret := t, log := s.log.unsend r }
    | _ => s.setReturn t

/-- CARRIER_RETURN (R205). -/
def execCarrierReturn (s : State) : Host.Outcome State Fault Refusal := .next (s.setReturn { s.ret with carrier := true })

/-! ### Log requests -/

/-- The modes of LOG_READ (R127), coded from 0. -/
inductive ReadMode where
  | hold | next | back | offset
deriving DecidableEq, Repr

def readModeOf (b : Byte) : Option ReadMode :=
  if b = 0 then some .hold else if b = 1 then some .next else if b = 2 then some .back else if b = 3 then some .offset else none

/-- R128: the numbers of the records, in order. -/
def readNumbers (m : ReadMode) (c offset : BitVec 32) (n : Nat) : List (BitVec 32) :=
  (List.range n).map (fun i =>
    match m with
    | .hold => c + BitVec.ofNat 32 i
    | .next => c + BitVec.ofNat 32 i
    | .back => c - BitVec.ofNat 32 i
    | .offset => c + offset + BitVec.ofNat 32 i)

/-- R128: the cursor after the read. -/
def cursorAfter (m : ReadMode) (c : BitVec 32) (n : Nat) : BitVec 32 :=
  match m with
  | .hold => c
  | .next => c + BitVec.ofNat 32 n
  | .back => c - BitVec.ofNat 32 n
  | .offset => c

/-- LOG_READ (R127 to R129, R133). -/
def execLogRead (address : Address) (tag : BitVec 16) (mode count : Byte) (offset : BitVec 32) (s : State) :
    Host.Outcome State Fault Refusal :=
  .next <| s.atPart address fun s =>
    match readModeOf mode with
    | none => s.answer tag 0x000F .badField
    | some m =>
      if inRange 1 4 count.toNat then
        let c := s.log.cursor
        let records := (readNumbers m c offset count.toNat).map s.log.readBack
        let s : State := { s with log := { s.log with cursor := cursorAfter m c count.toNat } }
        s.answer tag 0x000F .done (.logRead s.log.cursor s.log.points records)
      else s.answer tag 0x000F .badField

/-- LOG_SEEK (R130, R133). -/
def execLogSeek (address : Address) (tag : BitVec 16) (sequence : BitVec 32) (s : State) :
    Host.Outcome State Fault Refusal :=
  .next <| s.atPart address fun s =>
    let s : State := { s with log := { s.log with cursor := sequence } }
    s.answer tag 0x0010 .done (.logSeek sequence s.log.points)

/-- LOG_RELEASE (R131, R133). -/
def execLogRelease (address : Address) (tag : BitVec 16) (sequence : BitVec 32) (s : State) :
    Host.Outcome State Fault Refusal :=
  .next <| s.atPart address fun s =>
    if s.log.release ≤ sequence.toNat ∧ sequence.toNat ≤ s.log.send then
      let s : State := { s with log := { s.log with release := sequence.toNat } }
      s.answer tag 0x0011 .done (.logRelease s.log.points)
    else s.answer tag 0x0011 .range

/-! ### Status -/

/-- STATUS_QUERY (R207, R208): the reply is built, then the flags are cleared where asked, then the reply is queued. -/
def execStatusQuery (address : Address) (tag : BitVec 16) (clear : Byte) (s : State) : Host.Outcome State Fault Refusal :=
  .next <| s.atPart address fun s =>
    match switch clear with
    | none => s.answer tag 0x001A .badField
    | some c =>
      let reply := s.status
      let s : State :=
        if c then { s with ret := { s.ret with answerLost := false }, log := { s.log with overrun := false } } else s
      s.answer tag 0x001A .done (.status reply)

end Sys2Proof.Machine
end

