-- ==== Sys2Proof/Machine/Intake.lean ====
section
/-! DEFINITION. Link Intake (chapter 10) and the inbound frames of chapter 12 as bytes: FILTER_SET, FILTER_CLEAR,
BAD_LINK_FRAME, UNKNOWN_KIND, and the part resets (R210). -/

namespace Sys2Proof.Machine

/-! ### Inbound frames as bytes (section 12.2) -/

/-- Byte i of a frame. -/
def byteAt (l : List Byte) (i : Nat) : Byte := l.getD i 0

/-- The number in n bytes from offset i. -/
def numberAt (l : List Byte) (i n : Nat) : Nat := numberOf ((l.drop i).take n)

def word16At (l : List Byte) (i : Nat) : BitVec 16 := BitVec.ofNat 16 (numberAt l i 2)

def word32At (l : List Byte) (i : Nat) : BitVec 32 := BitVec.ofNat 32 (numberAt l i 4)

/-- The audio frame of 1152 bytes from offset i. -/
def audioAt (l : List Byte) (i : Nat) : Audio := audioOf ((l.drop i).take 1152)

/-- What Link Intake makes of received bytes: a damaged or malformed frame, a cue whose body fails R197 with its
address, or a frame of good shape that says a command. -/
inductive Inbound where
  | damaged
  | badCue (address : Address)
  | command (c : Instr)
deriving DecidableEq, Repr

/-- R186: the last 4 bytes are the check over the bytes before them; a frame of fewer than 8 bytes fails (R214). -/
def frameGood (l : List Byte) : Bool :=
  decide (8 ≤ l.length) && decide ((check (l.take (l.length - 4))).toNat = numberOf (l.drop (l.length - 4)))

/-- The cue that a CUE frame carries (Table 12-2), its body judged by R197. -/
def cueOf (l : List Byte) : Inbound :=
  let address := word32At l 4
  let breakNo := word16At l 10
  let first := word32At l 12
  let second := word32At l 16
  if byteAt l 8 = 1 then
    (if announceLength second then .command (.splitAnnounce address breakNo first second) else .badCue address)
  else if byteAt l 8 = 2 then .command (.splitCancel address breakNo first)
  else if byteAt l 8 = 3 then
    .command (.windowOpen address first (if (byteAt l 9).getLsbD 0 then some second else none))
  else if byteAt l 8 = 4 then .command (.windowClose address first)
  else .badCue address

/-- The request that a REQUEST frame carries (Table 12-3); its field block begins at offset 12. -/
def requestOf (l : List Byte) : Instr :=
  let a := word32At l 4
  let t := word16At l 8
  let b := fun i => byteAt l (12 + i)
  let h := fun i => word16At l (12 + i)
  let w := fun i => word32At l (12 + i)
  match (word16At l 10).toNat with
  | 0x01 => .feedSet a t (b 0)
  | 0x02 => .delaySet a t (h 0)
  | 0x03 => .watchSet a t (b 0) (b 1) (b 2) (h 3) (b 5)
  | 0x04 => .roWrite a t (b 0) (b 1) (h 2) (b 4) (b 5) (h 6) (h 8)
  | 0x05 => .roRevoke a t (b 0) (b 1)
  | 0x06 => .roRead a t (b 0) (b 1)
  | 0x07 => .roHead a t (b 0) (b 1)
  | 0x08 => if b 1 = 1 then .channelModeBypass a t (b 0) else .channelModeInService a t (b 0) (b 1)
  | 0x09 => .channelSet a t (b 0) (b 1) (b 2) (b 3) (b 4) (w 5) (b 9) (b 10)
  | 0x0A => .channelClear a t (b 0)
  | 0x0B => .timerSet a t (b 0) (b 1) (w 2) (w 6)
  | 0x0C => .take a t (b 0) (b 1)
  | 0x0D => .fillSet a t (b 0) (b 1) (h 2)
  | 0x0E => .fillRange a t (b 0) (b 1) (b 2)
  | 0x0F => .logRead a t (b 0) (b 1) (w 2)
  | 0x10 => .logSeek a t (w 0)
  | 0x11 => .logRelease a t (w 0)
  | 0x12 => .cartQuery a t (h 0)
  | 0x13 => .unitQuery a t (b 0) (h 1) (b 3)
  | 0x14 => .cartDelete a t (h 0)
  | 0x15 => .unitErase a t (b 0) (h 1) (b 3)
  | 0x16 => .cartOpen a t (h 0) (b 2) (h 4) (h 6) (w 8) (w 12)
  | 0x17 => .cartClose a t (h 0) (w 2)
  | 0x18 => .filterSet a t (b 0) (b 1) (b 2) (w 4)
  | 0x19 => .filterClear a t (b 0)
  | 0x1A => .statusQuery a t (b 0)
  | 0x1B => .resetPart a t
  | _ => .unknownKind a t (word16At l 10)

/-- R214: the shape of a request: its length against its kind's field block, at least 16 for an unlisted kind. -/
def requestShape (l : List Byte) : Bool :=
  decide (16 ≤ l.length) &&
    match blockSize (word16At l 10) with
    | some n => decide (l.length = 16 + n)
    | none => true

/-- R186, R187, R214: what received bytes say. -/
def inboundOf (l : List Byte) : Inbound :=
  if frameGood l && decide (numberAt l 2 2 = l.length) then
    if byteAt l 0 = 1 then
      (if l.length = 1164 then .command (.programmeFrame (word32At l 4) (audioAt l 8)) else .damaged)
    else if byteAt l 0 = 2 then (if l.length = 24 then cueOf l else .damaged)
    else if byteAt l 0 = 3 then (if requestShape l then .command (requestOf l) else .damaged)
    else if byteAt l 0 = 4 then
      (if l.length = 1172 then
        .command (.segmentFrame (word32At l 4) (word16At l 8) (word32At l 12) (audioAt l 16))
      else .damaged)
    else .damaged
  else .damaged

/-- BAD_LINK_FRAME (R186, R187, R197): a damaged or malformed frame is counted; a cue of unknown kind, or a SPLIT_ANNOUNCE of a
length out of range, is counted where its address reaches an output. Bytes that make a frame which another row stands for change
nothing here (log 11). -/
def execBadLinkFrame (bytes : List Byte) (s : State) : Host.Outcome State Fault Refusal :=
  .next <|
    match inboundOf bytes with
    | .damaged => s.linkError
    | .badCue address => if (s.intake.resolve address).outputs = 0 then s else s.linkError
    | .command _ => s

/-! ### The site filter table (R191, R192) -/

def State.setFilter (s : State) (i : Fin 16) (x : Option FilterEntry) : State :=
  { s with intake := { s.intake with filter := put s.intake.filter i x } }

/-- R191, step 1: the entry that FILTER_SET carries. -/
def filterEntryOf (part outputs : Byte) (a : Address) : Option FilterEntry :=
  match switch part with
  | some p =>
    let o : BitVec 4 := outputs.setWidth 4
    if a = Config.broadcast ∨ (p = false ∧ o = 0) then none else some { address := a, part := p, outputs := o }
  | none => none

/-- FILTER_SET (R191, R193). -/
def execFilterSet (address : Address) (tag : BitVec 16) (entry part outputs : Byte) (filterAddress : Address) (s : State) :
    Host.Outcome State Fault Refusal :=
  .next <| s.atPart address fun s =>
    match field 16 entry.toNat, filterEntryOf part outputs filterAddress with
    | some i, some x =>
      if i = 0 then s.answer tag 0x0018 .state
      else (s.setFilter i (some x)).answer tag 0x0018 .done (.filter i x)
    | _, _ => s.answer tag 0x0018 .badField

/-- FILTER_CLEAR (R192, R193). -/
def execFilterClear (address : Address) (tag : BitVec 16) (entry : Byte) (s : State) : Host.Outcome State Fault Refusal :=
  .next <| s.atPart address fun s =>
    match field 16 entry.toNat with
    | some i => if i = 0 then s.answer tag 0x0019 .state else (s.setFilter i none).answer tag 0x0019 .done
    | none => s.answer tag 0x0019 .badField

/-- UNKNOWN_KIND (R200): the answer carries the tag and the kind as carried; nothing else changes. -/
def execUnknownKind (address : Address) (tag : BitVec 16) (kind : BitVec 16) (s : State) :
    Host.Outcome State Fault Refusal :=
  .next <| s.atPart address fun s => s.answer tag kind .unknownKind

/-! ### Part resets (R210) -/

/-- RESET_PART: no answer. -/
def execResetPart (address : Address) (_tag : BitVec 16) (s : State) : Host.Outcome State Fault Refusal :=
  .next <| s.atPart address fun s => s.partReset .request

/-- POWER_ON. -/
def execPowerOn (s : State) : Host.Outcome State Fault Refusal := .next (s.partReset .power)

def State.setResetLine (s : State) (x : Line) : State := { s with lines := { s.lines with reset := x } }

/-- RESET_LINE: the falling edge begins the 1 ms wait, and a line still low after it resets the part, once until it
returns high. -/
def execResetLine (stage : LineStage) (s : State) : Host.Outcome State Fault Refusal :=
  .next <|
    match stage, s.lines.reset with
    | .falls, .high => s.setResetLine .waiting
    | .heldLow, .waiting => (s.setResetLine .spent).partReset .line
    | _, _ => s

/-- RESET_LINE_RETURN_HIGH. -/
def execResetLineReturnHigh (s : State) : Host.Outcome State Fault Refusal := .next (s.setResetLine .high)

end Sys2Proof.Machine
end

