-- ==== Sys2Proof/Machine/Dispatch.lean ====
section
/-! DEFINITION. exec: one arm per command, each one call of its meaning. -/

namespace Sys2Proof.Machine

def exec (i : Instr) (s : State) : Host.Outcome State Fault Refusal :=
  match i with
  | .outputPeriod => Sys2Proof.Machine.execOutputPeriod s
  | .deckUnderrunAbandon channel deck => Sys2Proof.Machine.execDeckUnderrunAbandon channel deck s
  | .watchTrip watch => Sys2Proof.Machine.execWatchTrip watch s
  | .feedLost => Sys2Proof.Machine.execFeedLost s
  | .scheduleTimerExpiry channel => Sys2Proof.Machine.execScheduleTimerExpiry channel s
  | .programmeFrame number audio => Sys2Proof.Machine.execProgrammeFrame number audio s
  | .splitAnnounce address breakNo start length => Sys2Proof.Machine.execSplitAnnounce address breakNo start length s
  | .splitCancel address breakNo frame => Sys2Proof.Machine.execSplitCancel address breakNo frame s
  | .windowOpen address opens closes => Sys2Proof.Machine.execWindowOpen address opens closes s
  | .windowClose address closes => Sys2Proof.Machine.execWindowClose address closes s
  | .fireEdge line stage => Sys2Proof.Machine.execFireEdge line stage s
  | .segmentFrame address cart offset audio => Sys2Proof.Machine.execSegmentFrame address cart offset audio s
  | .badLinkFrame bytes => Sys2Proof.Machine.execBadLinkFrame bytes s
  | .feedSet address tag lossWait => Sys2Proof.Machine.execFeedSet address tag lossWait s
  | .delaySet address tag delay => Sys2Proof.Machine.execDelaySet address tag delay s
  | .watchSet address tag watch threshold direction window enable => Sys2Proof.Machine.execWatchSet address tag watch threshold direction window enable s
  | .roWrite address tag channel index breakNo flags segue itemA second => Sys2Proof.Machine.execRoWrite address tag channel index breakNo flags segue itemA second s
  | .roRevoke address tag channel index => Sys2Proof.Machine.execRoRevoke address tag channel index s
  | .roRead address tag channel index => Sys2Proof.Machine.execRoRead address tag channel index s
  | .roHead address tag channel index => Sys2Proof.Machine.execRoHead address tag channel index s
  | .channelModeInService address tag channel mode => Sys2Proof.Machine.execChannelModeInService address tag channel mode s
  | .channelModeBypass address tag channel => Sys2Proof.Machine.execChannelModeBypass address tag channel s
  | .channelSet address tag channel source policy fadeLength padLimit overrunGuard silenceFallback fillMode => Sys2Proof.Machine.execChannelSet address tag channel source policy fadeLength padLimit overrunGuard silenceFallback fillMode s
  | .channelClear address tag channel => Sys2Proof.Machine.execChannelClear address tag channel s
  | .timerSet address tag channel mode target period => Sys2Proof.Machine.execTimerSet address tag channel mode target period s
  | .take address tag channel hard => Sys2Proof.Machine.execTake address tag channel hard s
  | .fillSet address tag channel slot cart => Sys2Proof.Machine.execFillSet address tag channel slot cart s
  | .fillRange address tag channel start stop => Sys2Proof.Machine.execFillRange address tag channel start stop s
  | .logRead address tag mode count offset => Sys2Proof.Machine.execLogRead address tag mode count offset s
  | .logSeek address tag sequence => Sys2Proof.Machine.execLogSeek address tag sequence s
  | .logRelease address tag sequence => Sys2Proof.Machine.execLogRelease address tag sequence s
  | .cartQuery address tag cart => Sys2Proof.Machine.execCartQuery address tag cart s
  | .unitQuery address tag bank first count => Sys2Proof.Machine.execUnitQuery address tag bank first count s
  | .cartDelete address tag cart => Sys2Proof.Machine.execCartDelete address tag cart s
  | .unitErase address tag bank first count => Sys2Proof.Machine.execUnitErase address tag bank first count s
  | .cartOpen address tag cart bank first count length segueOut => Sys2Proof.Machine.execCartOpen address tag cart bank first count length segueOut s
  | .cartClose address tag cart check => Sys2Proof.Machine.execCartClose address tag cart check s
  | .filterSet address tag entry part outputs filterAddress => Sys2Proof.Machine.execFilterSet address tag entry part outputs filterAddress s
  | .filterClear address tag entry => Sys2Proof.Machine.execFilterClear address tag entry s
  | .statusQuery address tag clear => Sys2Proof.Machine.execStatusQuery address tag clear s
  | .resetPart address tag => Sys2Proof.Machine.execResetPart address tag s
  | .unknownKind address tag kind => Sys2Proof.Machine.execUnknownKind address tag kind s
  | .powerOn => Sys2Proof.Machine.execPowerOn s
  | .resetLine stage => Sys2Proof.Machine.execResetLine stage s
  | .mediaPortGrant => Sys2Proof.Machine.execMediaPortGrant s
  | .deckReadComplete outcome => Sys2Proof.Machine.execDeckReadComplete outcome s
  | .readRetriesExhausted => Sys2Proof.Machine.execReadRetriesExhausted s
  | .scanReadComplete outcome => Sys2Proof.Machine.execScanReadComplete outcome s
  | .programTransferEnd => Sys2Proof.Machine.execProgramTransferEnd s
  | .programComplete bank success => Sys2Proof.Machine.execProgramComplete bank success s
  | .eraseCommandEnd => Sys2Proof.Machine.execEraseCommandEnd s
  | .eraseComplete bank success => Sys2Proof.Machine.execEraseComplete bank success s
  | .answerFrameStart => Sys2Proof.Machine.execAnswerFrameStart s
  | .answerFrameComplete => Sys2Proof.Machine.execAnswerFrameComplete s
  | .reportFrameStart => Sys2Proof.Machine.execReportFrameStart s
  | .reportFrameComplete => Sys2Proof.Machine.execReportFrameComplete s
  | .carrierLoss => Sys2Proof.Machine.execCarrierLoss s
  | .carrierReturn => Sys2Proof.Machine.execCarrierReturn s
  | .fireLineReturnHigh line => Sys2Proof.Machine.execFireLineReturnHigh line s
  | .resetLineReturnHigh => Sys2Proof.Machine.execResetLineReturnHigh s

end Sys2Proof.Machine
end

