-- ==== Sys2Proof/Safety.lean ====
section
/-! DEFINITION. The laws that the manual states of the part's state, one per block, and the safe machine: what every step must
keep. None of them restricts a command. -/

namespace Sys2Proof.Machine

/-- R116, R119, R121: the three points, the slots of the retained records, and the number of a record in flight (R124). -/
structure LogLaw (s : State) : Prop where
  ordered : s.log.release ≤ s.log.send ∧ s.log.send ≤ s.log.write
  size : s.log.write - s.log.release ≤ Config.logSize
  numbered : 1 ≤ s.log.release ∧ s.log.write ≤ 0xFFFFFFFF
  placed : ∀ n, s.log.release ≤ n → n < s.log.write →
    ∃ r, s.log.slots.get (Fin.ofNat 512 n) = some r ∧ r.sequence = BitVec.ofNat 32 n
  inFlight : ∀ r, s.ret.inFlight = some (.report r) → r.sequence.toNat < s.log.send

/-- R203 to R205: at most 16 answers; an answer in flight is still in the queue; no frame without carrier. -/
structure ReturnLaw (s : State) : Prop where
  queue : s.ret.queue.length ≤ Config.answerQueueSize
  answer : s.ret.inFlight = some .answer → s.ret.queue ≠ []
  carrier : s.ret.carrier = false → s.ret.inFlight = none

/-- R134: the media store is in its canonical form. -/
def FlashLaw (s : State) : Prop := Flash.wf s.flash = true

/-- R1 to R3 and Table 1-1: P has a value only after a lock; a slot of the delay line holds a frame whose number has its place. -/
structure DelayLineLaw (s : State) : Prop where
  position : s.time.position.isSome = true → s.time.nextPosition.isSome = true
  locked : s.time.nextPosition.isSome = true ↔ s.feed.state ≠ .noLock
  slots : ∀ (i : Fin 512) (x : Slot), s.time.line.get i = some x → x.number.toNat % 512 = i.val
  delay : 32 ≤ s.time.delay ∧ s.time.delay ≤ 500

/-- Table 1-2: the Feed Monitor's values. -/
structure FeedLaw (s : State) : Prop where
  last : s.feed.last.isSome = true ↔ s.feed.state ≠ .noLock
  idle : s.feed.idle ≤ 250
  lossWait : 5 ≤ s.feed.lossWait ∧ s.feed.lossWait ≤ 250
  unlocked : s.feed.state = .noLock → s.feed.brk = none
  broken : s.feed.state = .lost ∨ s.feed.state = .silent → ∃ b, s.feed.brk = some b ∧ b.resume = none

/-- Table 1-5 and R20: "A disabled watch observes nothing. It stays CLEAR with run count 0"; a tripped watch has a run. -/
structure WatchLaw (w : Watch) : Prop where
  disabled : w.enabled = false → w.tripped = false ∧ w.run = 0
  tripped : w.tripped = true → w.run ≠ 0
  first : w.first.isSome = true ↔ w.run ≠ 0
  settings : w.threshold ≤ 96 ∧ 1 ≤ w.window ∧ w.window ≤ 15000

/-- The bank of a transaction. -/
def Transaction.bank : Transaction → Fin 4
  | .deckRead _ _ bank _ _ _ => bank
  | .scanRead bank => bank
  | .program bank => bank
  | .erase bank => bank

/-- What a bank carries on while its transaction holds the port. -/
def Transaction.carries : Transaction → BankOp → Prop
  | .deckRead .., .read => True
  | .scanRead .., .read => True
  | .program .., .program .. => True
  | .erase .., .erase .. => True
  | _, _ => False

/-- R170: while a transaction holds the port its bank is busy with it, and no bank is busy with a read otherwise. -/
structure PortLaw (s : State) : Prop where
  held : ∀ t, s.arbiter.port = some t → ∃ op, s.arbiter.banks.get t.bank = some op ∧ t.carries op
  reads : ∀ b, s.arbiter.banks.get b = some .read → ∃ t, s.arbiter.port = some t ∧ t.bank = b

/-- R189, R191: entry 0 of the site filter table is fixed, no entry holds the broadcast address, and every target holds the
part or an output. -/
structure FilterLaw (s : State) : Prop where
  fixed : s.intake.filter.get 0 = some { address := Config.serialAddress, part := true, outputs := 0 }
  others : ∀ i e, s.intake.filter.get i = some e → e.address ≠ Config.broadcast ∧ (e.part = true ∨ e.outputs ≠ 0)

/-- R140, R141, R150, R156: a held cart is READY with a count of at most 255; during the scan every entry is EMPTY, and after it
no scan read is left; the cart LOADING is the cart of the download. -/
structure HoldLaw (s : State) : Prop where
  held : ∀ c, s.store.holds.get c ≤ 255 ∧ (s.store.holds.get c ≠ 0 → (s.store.catalog.get c).state = .ready)
  scanning : s.store.scan.done = false → ∀ c, (s.store.catalog.get c).state = .empty
  scanned : s.store.scan.done = true → ∀ b, (s.store.scan.banks.get b).read = none
  loading : ∀ c, (s.store.catalog.get c).state = .loading ↔ ∃ d, s.store.download = some d ∧ d.cart = c

/-- Table 3-1, R45, R70, R73: a channel's contexts agree with its state; it is committed in PASS and FALLBACK only, by a plan or
a window but not both; it holds a pending announce only beside a plan or in SPLIT. R86: a split in phase FILL has made its first
choice. -/
structure ContextLaw (c : Channel) : Prop where
  split : c.split.isSome = true ↔ c.state = .split
  brk : c.brk.isSome = true ↔ c.state = .brk
  window : c.window.isSome = true ↔ c.state = .loc
  plan : c.plan.isSome = true → c.state = .pass ∨ c.state = .fallback
  held : c.held.isSome = true → c.state = .pass ∨ c.state = .fallback
  single : c.plan = none ∨ c.held = none
  pending : c.pending.isSome = true → c.plan.isSome = true ∨ c.state = .split
  filling : c.split.any (fun x => decide (x.phase = .fill) && x.wantFill) = false

/-- R108: an output frame has one audio frame and a state. -/
def OutputLaw (s : State) : Prop :=
  ∀ n o, (s.outputs.get n).emitted = some o →
    o.audio.length = Audio.size ∧ o.origin = (s.outputs.get n).origin ∧ o.onAir = (s.outputs.get n).onAir

/-- The laws together: what this model keeps from the reset on. -/
structure Safe (s : State) : Prop where
  log : LogLaw s
  ret : ReturnLaw s
  flash : FlashLaw s
  time : DelayLineLaw s
  feed : FeedLaw s
  watches : ∀ i, WatchLaw (s.watches.get i)
  port : PortLaw s
  filter : FilterLaw s
  holds : HoldLaw s
  channels : ∀ n, ContextLaw (s.channels.get n)
  outputs : OutputLaw s

/-! ### Commands that are due (log 2 and 3)

A run that models the part itself, and not a free order of commands, gives these commands as soon as they are due. -/

/-- An answer frame or a report frame is to be started (R124, R204). -/
def State.sendingDue (s : State) : Bool := s.answerDue || s.reportDue

/-- A request is to be granted on the free port (R173). -/
def State.grantDue (s : State) : Bool := s.arbiter.port.isNone && s.nextGrant.isSome

end Sys2Proof.Machine
end

