-- ==== Sys2Proof/Certificates/Slice0/Obligations.lean ====
section
/-! DEFINITION. Statements for the provers. `s.reached a` says that a request or segment to address a acts on the part; most
request statements name the whole next state, so that what they do not mention is unchanged. Where P is absent they read it as 0:
before the first lock by R2, and from it until the next output period by log 20, the model's choice. -/

namespace Sys2Proof.Machine

/-- The address reaches the part (R190, R194). -/
def State.reached (s : State) (a : Address) : Prop := (s.intake.resolve a).part = true

/-- The address reaches output n and no other. -/
def State.reachesOnly (s : State) (a : Address) (n : Fin 4) : Prop :=
  ∀ m, (s.intake.resolve a).hasOutput m = true ↔ m = n

/-- The destination address of a command that needs PART (Table 10-3): requests and segments. -/
def partAddress : Instr → Option Address
  | .segmentFrame a _ _ _ => some a
  | .feedSet a _ _ => some a
  | .delaySet a _ _ => some a
  | .watchSet a _ _ _ _ _ _ => some a
  | .roWrite a _ _ _ _ _ _ _ _ => some a
  | .roRevoke a _ _ _ => some a
  | .roRead a _ _ _ => some a
  | .roHead a _ _ _ => some a
  | .channelModeInService a _ _ _ => some a
  | .channelModeBypass a _ _ => some a
  | .channelSet a _ _ _ _ _ _ _ _ _ => some a
  | .channelClear a _ _ => some a
  | .timerSet a _ _ _ _ _ => some a
  | .take a _ _ _ => some a
  | .fillSet a _ _ _ _ => some a
  | .fillRange a _ _ _ _ => some a
  | .logRead a _ _ _ _ => some a
  | .logSeek a _ _ => some a
  | .logRelease a _ _ => some a
  | .cartQuery a _ _ => some a
  | .unitQuery a _ _ _ _ => some a
  | .cartDelete a _ _ => some a
  | .unitErase a _ _ _ _ => some a
  | .cartOpen a _ _ _ _ _ _ _ => some a
  | .cartClose a _ _ _ => some a
  | .filterSet a _ _ _ _ _ => some a
  | .filterClear a _ _ => some a
  | .statusQuery a _ _ => some a
  | .resetPart a _ => some a
  | .unknownKind a _ _ => some a
  | _ => none

/-- The destination address of a cue, which needs an output. -/
def cueAddress : Instr → Option Address
  | .splitAnnounce a _ _ _ => some a
  | .splitCancel a _ _ => some a
  | .windowOpen a _ _ => some a
  | .windowClose a _ => some a
  | _ => none

/-- The state with channel n replaced. -/
def State.withChannel (s : State) (n : Fin 4) (c : Channel) : State := { s with channels := put s.channels n c }

/-- Neither deck of a channel is loaded. -/
def Channel.decksIdle (c : Channel) : Prop := c.deckA.state = .idle ∧ c.deckB.state = .idle

/-- The channel has no armed plan and no held window. -/
def Channel.free (c : Channel) : Prop := c.plan = none ∧ c.held = none

/-- An answer of a request kind, with an empty payload. -/
def reply (tag kind : BitVec 16) (code : ResultCode) : Answer := { tag := tag, kind := kind, code := code, payload := .empty }

end Sys2Proof.Machine

open Sys2Proof Sys2Proof.Machine

/-! ### The machine -/

/-- A step takes the front command and runs it on the state with the queue's rest; with an empty queue the part idles (log 1). -/
def Obligations.StepRunsTheFrontCommand : Prop :=
  (∀ (s : State) (c : Instr) (rest : List Instr), s.pending = c :: rest → step s = exec c { s with pending := rest }) ∧
  (∀ s : State, s.pending = [] → step s = .next s)

/-- Every command, with any operands, in any state, is answered by a next state: also one that cannot come about there, by
the model's choice (log 4); and none touches the waiting commands, the model's own queue (log 1). -/
def Obligations.EveryCommandGivesANextState : Prop :=
  ∀ (c : Instr) (s : State), ∃ t, exec c s = .next t ∧ t.pending = s.pending

def Obligations.ResetIsSafe : Prop := Safe State.reset

/-- R116, R119 and R121 as an invariant. -/
def Obligations.LogLawKept : Prop := ∀ s t : State, LogLaw s → step s = .next t → LogLaw t

/-- Table 3-1, R45, R70 and the pending announce of R73 as an invariant; with R86, that a split in phase FILL has made its first
choice by the end of the output period (the mark wantFill, the model's own). -/
def Obligations.ChannelContextsKept : Prop :=
  ∀ s t : State, (∀ n, ContextLaw (s.channels.get n)) → step s = .next t → ∀ n, ContextLaw (t.channels.get n)

/-- Tables 1-1 and 1-2 as an invariant. -/
def Obligations.FeedAndDelayLineKept : Prop :=
  ∀ s t : State, FeedLaw s → DelayLineLaw s → step s = .next t → FeedLaw t ∧ DelayLineLaw t

/-- R20 with Table 1-5, R170, R203 to R205 and R189, as invariants. -/
def Obligations.BlockLawsKept : Prop :=
  ((∀ s t : State, (∀ i, WatchLaw (s.watches.get i)) → step s = .next t → ∀ i, WatchLaw (t.watches.get i)) ∧
   (∀ s t : State, PortLaw s → step s = .next t → PortLaw t)) ∧
  (∀ s t : State, step s = .next t → (ReturnLaw s → ReturnLaw t) ∧ (FilterLaw s → FilterLaw t))

/-- The media store keeps its canonical form (log 26); the output frame that a composer holds, which the model keeps (log 33),
keeps its audio frame and its fields; and R140, R141, R150, R156 as an invariant of the hold counts and the catalog. -/
def Obligations.StoreAndOutputLawsKept : Prop :=
  (∀ s t : State, FlashLaw s → step s = .next t → FlashLaw t) ∧
  (∀ s t : State, OutputLaw s → step s = .next t → OutputLaw t) ∧
  (∀ s t : State, HoldLaw s → step s = .next t → HoldLaw t)

/-! ### Link Intake -/

/-- R190: resolution of an address; R194: a frame whose target lacks what its kind needs changes nothing. -/
def Obligations.AddressResolution : Prop :=
  (∀ t : Intake, t.resolve Config.broadcast = { part := true, outputs := 0xF#4 }) ∧
  (∀ (t : Intake) (a : Address), a ≠ Config.broadcast →
    ((t.resolve a).part = true ↔ ∃ i e, t.filter.get i = some e ∧ e.address = a ∧ e.part = true) ∧
    (∀ n : Fin 4, (t.resolve a).hasOutput n = true ↔
      ∃ i e, t.filter.get i = some e ∧ e.address = a ∧ e.outputs.getLsbD n.val = true)) ∧
  (∀ (c : Instr) (a : Address) (s : State), partAddress c = some a → ¬ s.reached a → exec c s = .next s) ∧
  (∀ (c : Instr) (a : Address) (s : State), cueAddress c = some a → (s.intake.resolve a).outputs = 0 → exec c s = .next s)

/-- R186 to R188, R197, R214: a frame of fewer than 8 bytes, one whose check disagrees, one of unknown kind or of the wrong shape,
and a cue of unknown kind or a SPLIT_ANNOUNCE of length 0 or at or above 2^31 that reaches an output are counted, the count
saturating; bytes that make a frame which another row stands for change nothing (log 11). -/
def Obligations.BadFramesAreCounted : Prop :=
  ∀ (s : State) (l : List Byte),
    let counted : State := { s with intake := { s.intake with linkErrors :=
      if s.intake.linkErrors < 0xFFFFFFFF then s.intake.linkErrors + 1 else s.intake.linkErrors } }
    let n := l.length
    let kind := l.getD 0 0
    let good := 8 ≤ n ∧ (check (l.take (n - 4))).toNat = numberOf (l.drop (n - 4))
    let shaped := numberOf ((l.drop 2).take 2) = n ∧
      ((kind = 1 ∧ n = 1164) ∨ (kind = 2 ∧ n = 24) ∨ (kind = 4 ∧ n = 1172) ∨
       (kind = 3 ∧ 16 ≤ n ∧ ∀ m, blockSize (BitVec.ofNat 16 (numberOf ((l.drop 10).take 2))) = some m → n = 16 + m))
    let address : Address := BitVec.ofNat 32 (numberOf ((l.drop 4).take 4))
    let length := numberOf ((l.drop 16).take 4)
    let badCue := kind = 2 ∧ ((l.getD 8 0).toNat < 1 ∨ 4 < (l.getD 8 0).toNat ∨
      (l.getD 8 0 = 1 ∧ (length = 0 ∨ 2 ^ 31 ≤ length)))
    (¬ good ∨ ¬ shaped → exec (.badLinkFrame l) s = .next counted) ∧
    (good → shaped → badCue →
      ((s.intake.resolve address).outputs ≠ 0 → exec (.badLinkFrame l) s = .next counted) ∧
      ((s.intake.resolve address).outputs = 0 → exec (.badLinkFrame l) s = .next s)) ∧
    (good → shaped → ¬ badCue → exec (.badLinkFrame l) s = .next s)

/-- R191 and R192. -/
def Obligations.FilterRequests : Prop :=
  ∀ (s : State) (a x : Address) (tag : BitVec 16) (entry part outputs : Byte), s.reached a →
    let bad := 16 ≤ entry.toNat ∨ x = Config.broadcast ∨ 2 ≤ part.toNat ∨ (part = 0 ∧ outputs.setWidth 4 = (0 : BitVec 4))
    (bad → exec (.filterSet a tag entry part outputs x) s = .next (s.answer tag 0x0018 .badField)) ∧
    (¬ bad → entry = 0 → exec (.filterSet a tag entry part outputs x) s = .next (s.answer tag 0x0018 .state)) ∧
    (¬ bad → ∀ i : Fin 16, entry.toNat = i.val → i ≠ 0 →
      let e : FilterEntry := { address := x, part := decide (part = 1), outputs := outputs.setWidth 4 }
      exec (.filterSet a tag entry part outputs x) s =
        .next (({ s with intake := { s.intake with filter := put s.intake.filter i (some e) } } : State).answer tag 0x0018
          .done (.filter i e))) ∧
    (16 ≤ entry.toNat → exec (.filterClear a tag entry) s = .next (s.answer tag 0x0019 .badField)) ∧
    (entry = 0 → exec (.filterClear a tag entry) s = .next (s.answer tag 0x0019 .state)) ∧
    (∀ i : Fin 16, entry.toNat = i.val → i ≠ 0 →
      exec (.filterClear a tag entry) s =
        .next (({ s with intake := { s.intake with filter := put s.intake.filter i none } } : State).answer tag 0x0019 .done))

/-! ### Requests, answers, status and reset -/

/-- R200, first half: an unknown kind is answered with its tag and its kind as carried, and changes nothing else (that this row
with a kind that Table 12-3 lists is answered so too is the model's choice, log 11); and R203: the answer queue. -/
def Obligations.AnswersAreQueued : Prop :=
  (∀ (s : State) (a : Address) (tag kind : BitVec 16), s.reached a →
     exec (.unknownKind a tag kind) s = .next { s with ret := s.ret.enqueue (reply tag kind .unknownKind) }) ∧
  (∀ (t : ReturnLink) (x : Answer),
     (t.queue.length < 16 → t.enqueue x = { t with queue := t.queue ++ [x] }) ∧
     (16 ≤ t.queue.length → t.enqueue x = { t with answerLost := true }))

/-- R204, R205, R124, R125: frames of the return link. -/
def Obligations.ReturnLinkFrames : Prop :=
  ∀ s : State,
    (s.ret.inFlight = none → s.ret.queue ≠ [] → s.ret.carrier = true →
      exec .answerFrameStart s = .next { s with ret := { s.ret with inFlight := some .answer } }) ∧
    (s.ret.inFlight = some .answer →
      exec .answerFrameComplete s = .next { s with ret := { s.ret with queue := s.ret.queue.tail, inFlight := none } }) ∧
    (s.ret.inFlight = none → s.ret.queue = [] → s.ret.carrier = true → s.log.send < s.log.write →
      exec .reportFrameStart s = .next { s with
        ret := { s.ret with inFlight := some (.report (s.log.readBack (BitVec.ofNat 32 s.log.send))) }
        log := { s.log with send := s.log.send + 1 } }) ∧
    (∀ r, s.ret.inFlight = some (.report r) →
      exec .reportFrameComplete s = .next { s with ret := { s.ret with inFlight := none } }) ∧
    (∀ r, s.ret.inFlight = some (.report r) →
      exec .carrierLoss s = .next { s with
        ret := { s.ret with carrier := false, inFlight := none }
        log := if s.log.release ≤ r.sequence.toNat then { s.log with send := r.sequence.toNat } else s.log }) ∧
    (s.ret.inFlight = none ∨ s.ret.inFlight = some .answer →
      exec .carrierLoss s = .next { s with ret := { s.ret with carrier := false, inFlight := none } }) ∧
    (exec .carrierReturn s = .next { s with ret := { s.ret with carrier := true } })

/-- R207 and R208: STATUS_QUERY, its position 0 from the first lock until the next output period being the model's choice (log
20); and R209: the ALERT line. -/
def Obligations.StatusAndAlert : Prop :=
  (∀ (s : State) (a : Address) (tag : BitVec 16) (clear : Byte), s.reached a →
     let p : Status :=
       { feed := s.feed.state, position := s.time.position.getD 0,
         channels := [(s.channels.get 0).state, (s.channels.get 1).state, (s.channels.get 2).state, (s.channels.get 3).state],
         scanDone := s.store.scan.done,
         points := { release := s.log.release, send := s.log.send, write := s.log.write },
         overruns := s.log.overruns, linkErrors := s.intake.linkErrors, answerLost := s.ret.answerLost,
         overrun := s.log.overrun }
     (clear = 0 → exec (.statusQuery a tag clear) s = .next (s.answer tag 0x001A .done (.status p))) ∧
     (clear = 1 → exec (.statusQuery a tag clear) s = .next
       (({ s with ret := { s.ret with answerLost := false }, log := { s.log with overrun := false } } : State).answer tag 0x001A
         .done (.status p))) ∧
     (2 ≤ clear.toNat → exec (.statusQuery a tag clear) s = .next (s.answer tag 0x001A .badField))) ∧
  (∀ s : State, s.alert = true ↔
     (s.feed.state ≠ .locked ∨ (∃ n, (s.channels.get n).state = .fallback) ∨ (∃ i, (s.watches.get i).tripped = true) ∨
       s.log.overrun = true ∨ s.ret.answerLost = true))

/-- R210 and R211: the three part resets take every block to its values after part reset, RESTART alone in the log; the
carrier stays, and each FIRE line that is low is spent. That the waiting commands stay is the model's choice (log 1), as are the
stages of a RESET line (log 6) and that a spent line gives no further reset (log 4). In the media store a program in flight ended
as programmed or left a page that fails its checks (R169, R171), a cart header program always the latter (R169), and an erase
touched its own unit alone, whichever banks were busy; which of these is free (log 9). -/
def Obligations.PartResets : Prop :=
  ∀ (s : State) (a : Address) (tag : BitVec 16),
    let touches (b : Fin 4) (n : Nat) : Prop :=
      (∃ p c tag, s.arbiter.banks.get b = some (.program p c tag) ∧ n = p.unit * 64 + p.page) ∨
      s.arbiter.banks.get b = some (.erase (n / 64))
    let written (p : Program) (q : FlashPage) : Prop := (p.kind ≠ .cartHeader ∧ q = p.contents) ∨ (isBlank q = false ∧ q ≠ .void ∧
      pageBytes q 0 8 ≠ badMark ∧ checkGood q 8 = false ∧ checkGood q 20 = false)
    let after (cause : ResetCause) (t : State) : Prop :=
      t = State.afterReset cause s.pending t.flash s.ret.carrier t.lines t.fresh ∧
      t.log.slots.get 1 = some { sequence := 1, kind := .restart, position := 0, reason := some (.restart cause),
                                 detail := some Config.serialAddress } ∧
      (∀ n, t.lines.fire.get n = if s.lines.fire.get n = .high then .high else .spent) ∧
      ((∀ b, s.arbiter.banks.get b = none ∨ s.arbiter.banks.get b = some .read) → t.flash = s.flash) ∧
      (∀ b, (∀ m, m ≠ b → s.arbiter.banks.get m = none ∨ s.arbiter.banks.get m = some .read) →
        (∀ p c tag, s.arbiter.banks.get b = some (.program p c tag) →
          ∃ q, t.flash = Flash.program s.flash (p.unit * 64 + p.page) q ∧ written p q) ∧
        (∀ u, s.arbiter.banks.get b = some (.erase u) →
          ∀ n, n / 64 ≠ u → Flash.read t.flash n = Flash.read s.flash n)) ∧
      (∀ n, (∀ b, ¬ touches b n) → Flash.read t.flash n = Flash.read s.flash n) ∧
      (∀ b p c tag, Flash.wf s.flash = true → s.arbiter.banks.get b = some (.program p c tag) → p.unit < 4096 → p.page < 64 →
        (∀ m, m ≠ b → ¬ touches m (p.unit * 64 + p.page)) →
        ∃ q, Flash.read t.flash (p.unit * 64 + p.page) = trimPage q ∧ written p q)
    (∃ t, exec .powerOn s = .next t ∧ after .power t ∧ t.lines.reset = s.lines.reset) ∧
    (s.reached a → ∃ t, exec (.resetPart a tag) s = .next t ∧ after .request t ∧ t.lines.reset = s.lines.reset) ∧
    (s.lines.reset = .waiting → ∃ t, exec (.resetLine .heldLow) s = .next t ∧ after .line t ∧ t.lines.reset = .spent) ∧
    (s.lines.reset = .high →
      exec (.resetLine .falls) s = .next { s with lines := { s.lines with reset := .waiting } }) ∧
    (s.lines.reset = .spent → exec (.resetLine .heldLow) s = .next s) ∧
    (exec .resetLineReturnHigh s = .next { s with lines := { s.lines with reset := .high } })

/-! ### The as-run log -/

/-- R119, R120, R121: one append. -/
def Obligations.OneAppend : Prop :=
  ∀ (l : Log) (r : Record),
    let slot := l.slots.set (l.write % 512) (some { r with sequence := BitVec.ofNat 32 l.write }) (Nat.mod_lt _ (by decide))
    let counted := if l.overruns < 0xFFFFFFFF then l.overruns + 1 else l.overruns
    (l.write < 0xFFFFFFFF → l.write - l.release < 512 →
      l.append r = { l with slots := slot, write := l.write + 1 }) ∧
    (l.write < 0xFFFFFFFF → 512 ≤ l.write - l.release →
      l.append r = { l with
        slots := slot, write := l.write + 1, release := l.release + 1
        send := if l.send = l.release then l.send + 1 else l.send
        overrun := true, overruns := counted }) ∧
    (0xFFFFFFFF ≤ l.write → l.append r = { l with overrun := true, overruns := counted })

/-- R127 to R129: LOG_READ; R130 and R131: LOG_SEEK and LOG_RELEASE. -/
def Obligations.LogRequests : Prop :=
  ((∀ (s : State) (a : Address) (tag : BitVec 16) (mode count : Byte) (offset : BitVec 32), s.reached a →
     let c := s.log.cursor
     let n := count.toNat
     let points : Points := { release := s.log.release, send := s.log.send, write := s.log.write }
     let done (after : BitVec 32) (number : Nat → BitVec 32) : State :=
       ({ s with log := { s.log with cursor := after } } : State).answer tag 0x000F .done
         (.logRead after points ((List.range n).map (fun i => s.log.readBack (number i))))
     (4 ≤ mode.toNat ∨ n < 1 ∨ 4 < n → exec (.logRead a tag mode count offset) s = .next (s.answer tag 0x000F .badField)) ∧
     (1 ≤ n → n ≤ 4 →
       (mode = 0 → exec (.logRead a tag mode count offset) s = .next (done c (fun i => c + BitVec.ofNat 32 i))) ∧
       (mode = 1 → exec (.logRead a tag mode count offset) s =
         .next (done (c + BitVec.ofNat 32 n) (fun i => c + BitVec.ofNat 32 i))) ∧
       (mode = 2 → exec (.logRead a tag mode count offset) s =
         .next (done (c - BitVec.ofNat 32 n) (fun i => c - BitVec.ofNat 32 i))) ∧
       (mode = 3 → exec (.logRead a tag mode count offset) s =
         .next (done c (fun i => c + offset + BitVec.ofNat 32 i))))) ∧
   (∀ (l : Log) (q : BitVec 32) (r : Record), l.release ≤ q.toNat → q.toNat < l.write →
     l.slots.get (Fin.ofNat 512 q.toNat) = some r → l.readBack q = r) ∧
   (∀ (l : Log) (q : BitVec 32), q.toNat < l.release ∨ l.write ≤ q.toNat →
     l.readBack q = { sequence := q, kind := .none, position := 0 })) ∧
  (∀ (s : State) (a : Address) (tag : BitVec 16) (q : BitVec 32), s.reached a →
     exec (.logSeek a tag q) s = .next (({ s with log := { s.log with cursor := q } } : State).answer tag 0x0010 .done
       (.logSeek q { release := s.log.release, send := s.log.send, write := s.log.write })) ∧
     (s.log.release ≤ q.toNat → q.toNat ≤ s.log.send →
       exec (.logRelease a tag q) s = .next (({ s with log := { s.log with release := q.toNat } } : State).answer tag 0x0011
         .done (.logRelease { release := q.toNat, send := s.log.send, write := s.log.write }))) ∧
     (q.toNat < s.log.release ∨ s.log.send < q.toNat →
       exec (.logRelease a tag q) s = .next (s.answer tag 0x0011 .range)))

/-! ### Feed, delay line and watches -/

namespace Sys2Proof.Machine

/-- A watch CLEAR with its run ended. -/
def Watch.cleared (w : Watch) : Watch := { w with tripped := false, run := 0, first := none, extreme := 0 }

/-- R20: a frame that meets the condition of the watch, counted in its run. -/
def Watch.counted (w : Watch) (x : FrameNo) (depth : Nat) : Watch :=
  let distance := ((depth : Int) - w.threshold).natAbs
  if w.run = 0 then { w with run := 1, first := some x, extreme := distance }
  else { w with run := if w.run < 0xFFFFFFFF then w.run + 1 else w.run, extreme := max w.extreme distance }

/-- R15: the feed break record after a break of a cause: a new one, or the present one with its break point kept. -/
def Feed.broke (f : Feed) (cause : BreakCause) (point : FrameNo) : Feed :=
  { f with brk := some (match f.brk with
    | none => { cause := cause, point := point, resume := none }
    | some b => { b with cause := cause, resume := none }) }

/-- R12, R18: the resume point of a broken feed. -/
def Feed.resumed (f : Feed) (r : FrameNo) : Feed :=
  { f with brk := f.brk.map (fun b => ({ b with resume := some r } : FeedBreak)) }

/-- R21, R123: the WATCH_CLEAR record of watch i, as it stood before. -/
def Watch.clearRecord (w : Watch) (i : Fin 5) (position : FrameNo) (reason : Reason) : Record :=
  { sequence := 0, kind := .watchClear, position := position, watch := some i, reason := some reason,
    detail := some (BitVec.ofNat 32 w.run) }

/-- R11 and R21: the feed lost at a point, the run of its watch ended (the order of the two records is log 25). -/
def State.feedGone (s : State) (point : FrameNo) : State :=
  let w := s.watches.get 0
  let log := s.log.append { sequence := 0, kind := .feedLost, position := point }
  { s with
    feed := { s.feed.broke .lost point with state := .lost }
    watches := put s.watches 0 w.cleared
    log := if w.tripped then log.append (w.clearRecord 0 point .feed) else log }

/-- A frame in its slot of the delay line. -/
def State.stored (s : State) (x : FrameNo) (audio : Audio) (concealed : Bool) : State :=
  { s with time := { s.time with
    line := put s.time.line (Fin.ofNat 512 x.toNat) (some { number := x, audio := audio, concealed := concealed }) } }

end Sys2Proof.Machine

/-- R19: FEED_SET, and the loss wait at work in the next output period. R22: WATCH_SET, with R18 for watch 0 in feed state
SILENT. That an abandoned run has no first frame and extreme 0 is the model's choice (log 24). -/
def Obligations.FeedAndWatchSettings : Prop :=
  ((∀ (s : State) (a : Address) (tag : BitVec 16) (w : Byte), s.reached a →
     (5 ≤ w.toNat → w.toNat ≤ 250 → exec (.feedSet a tag w) s =
       .next (({ s with feed := { s.feed with lossWait := w.toNat } } : State).answer tag 0x0001 .done)) ∧
     (w.toNat < 5 ∨ 250 < w.toNat → exec (.feedSet a tag w) s = .next (s.answer tag 0x0001 .badField))) ∧
   (∀ s : State, s.feed.state = .locked ∨ s.feed.state = .silent → s.feed.lossWait ≤ min (s.feed.idle + 1) 250 →
     ∃ t, exec .outputPeriod s = .next t ∧ t.feed.state = .lost) ∧
   State.reset.feed.lossWait = 25) ∧
  (∀ (s : State) (a : Address) (tag : BitVec 16) (watch threshold direction enable : Byte) (window : BitVec 16), s.reached a →
     let bad := 5 ≤ watch.toNat ∨ 96 < threshold.toNat ∨ 2 ≤ direction.toNat ∨ window.toNat < 1 ∨ 15000 < window.toNat ∨
       2 ≤ enable.toNat
     let request : Instr := .watchSet a tag watch threshold direction window enable
     (bad → exec request s = .next (s.answer tag 0x0003 .badField)) ∧
     (¬ bad → ∀ i : Fin 5, watch.toNat = i.val →
       let w := s.watches.get i
       let w' : Watch :=
         { threshold := threshold.toNat, direction := if direction = 0 then .quiet else .loud, window := window.toNat,
           enabled := decide (enable = 1), tripped := false, run := 0, first := none, extreme := 0 }
       let log := if w.tripped then s.log.append { sequence := 0, kind := .watchClear, position := w.first.getD 0, watch := some i,
                                                   reason := some .set, detail := some (BitVec.ofNat 32 w.run) } else s.log
       (i ≠ 0 ∨ s.feed.state ≠ .silent →
         exec request s = .next (({ s with watches := put s.watches i w', log := log } : State).answer tag 0x0003 .done)) ∧
       (i = 0 → s.feed.state = .silent →
         let r := s.feed.last.getD 0 + 1
         exec request s = .next (({ s with
           watches := put s.watches i w'
           feed := { s.feed with state := .locked, brk := s.feed.brk.map (fun b => ({ b with resume := some r } : FeedBreak)) }
           log := log.append { sequence := 0, kind := .feedRestored, position := r } } : State).answer tag 0x0003 .done))))

/-- R7: DELAY_SET. While P is absent no slot is emptied (log 20). -/
def Obligations.DelaySetRequest : Prop :=
  ∀ (s : State) (a : Address) (tag delay : BitVec 16), s.reached a →
    let good := 32 ≤ delay.toNat ∧ delay.toNat ≤ 500
    let bypassed := ∀ n, (s.channels.get n).state = .bypass
    (¬ good → exec (.delaySet a tag delay) s = .next (s.answer tag 0x0002 .badField)) ∧
    (good → ¬ bypassed → exec (.delaySet a tag delay) s = .next (s.answer tag 0x0002 .state)) ∧
    (good → bypassed → s.feed.state = .noLock ∨ s.feed.state = .lost → exec (.delaySet a tag delay) s =
      .next (({ s with time := { s.time with delay := delay.toNat } } : State).answer tag 0x0002 .done)) ∧
    (good → bypassed → s.feed.state = .locked ∨ s.feed.state = .silent → ∀ last, s.feed.last = some last →
      ∃ line, exec (.delaySet a tag delay) s = .next (({ s with time := { s.time with
          delay := delay.toNat
          nextPosition := some (last - BitVec.ofNat 32 delay.toNat)
          line := line } } : State).answer tag 0x0002 .done) ∧
        ∀ i x, line.get i = some x ↔
          (s.time.line.get i = some x ∧ ∀ p, s.time.position = some p → atOrAfter p x.number = false))

/-- R5 and R16: the first lock: base position, the frame stored and observed by the feed watch, and each channel brought into the
new numbering by R14 (the order of these records is the model's choice, log 25). With the feed watch disabled and every channel in
BYPASS without plan, window or timer nothing else changes. The broken feed is good again at the frame received. -/
def Obligations.FirstLock : Prop :=
  ∀ (s : State) (n : FrameNo) (audio : Audio),
    s.feed.state = .noLock → s.feed.brk = none →
    let base := n - BitVec.ofNat 32 s.time.delay
    let locked : State := { s with
      time := { s.time with
        nextPosition := some base
        line := put s.time.line (Fin.ofNat 512 n.toNat) (some { number := n, audio := audio, concealed := false }) }
      feed := { s.feed with
        state := .locked, last := some n, idle := 0, brk := some { cause := .lost, point := base, resume := some n } }
      log := s.log.append { sequence := 0, kind := .feedRestored, position := n } }
    exec (.programmeFrame n audio) s =
      .next ((locked.observe 0 n (peakDepth audio)).onChannels (Desk.renumber base)) ∧
    ((s.watches.get 0).enabled = false →
      (∀ k, (s.channels.get k).state = .bypass ∧ (s.channels.get k).free ∧ (s.channels.get k).pending = none ∧
        (s.channels.get k).split = none ∧ (s.channels.get k).brk = none ∧ (s.channels.get k).window = none ∧
        (s.channels.get k).timer = none) →
      exec (.programmeFrame n audio) s = .next locked)

/-- R8 to R10: a frame in LOCKED or SILENT, by its distance from last: in sequence, a gap of 1 to 8 frames, each concealed by
silence, and stale. Each frame accepted or concealed is observed by the feed watch (`State.observe`, R20); the last clauses give the
next state whole with that watch disabled. -/
def Obligations.FrameJudgement : Prop :=
  ∀ (s : State) (n last : FrameNo) (audio : Audio),
    s.feed.state = .locked ∨ s.feed.state = .silent → s.feed.last = some last →
    let slot (x : FrameNo) : Fin 512 := Fin.ofNat 512 x.toNat
    let inWindow := (n - s.time.nextPosition.getD 0).toNat ≤ 511
    let gap := (List.range ((n - last).toNat - 1)).map (fun i => last + 1 + BitVec.ofNat 32 i)
    let silence : Audio := List.replicate 384 0
    let stored (line : Vector (Option Slot) 512) := put line (slot n) (some { number := n, audio := audio, concealed := false })
    let concealed (line : Vector (Option Slot) 512) (x : FrameNo) :=
      put line (slot x) (some { number := x, audio := silence, concealed := true })
    (1 ≤ (n - last).toNat → (n - last).toNat ≤ 9 → inWindow →
      let got := (gap.foldl (fun t x => (t.stored x silence true).observe 0 x 96) s).stored n audio false
      exec (.programmeFrame n audio) s =
        .next (({ got with feed := { got.feed with last := some n, idle := 0 } } : State).observe 0 n (peakDepth audio))) ∧
    (n = last ∨ 2 ^ 31 < (n - last).toNat →
      (inWindow → (∃ x, s.time.line.get (slot n) = some x ∧ x.number = n ∧ x.concealed = true) →
        exec (.programmeFrame n audio) s = .next { s with time := { s.time with line := stored s.time.line } }) ∧
      (¬ inWindow ∨ (∀ x, s.time.line.get (slot n) = some x → x.number = n → x.concealed = false) →
        exec (.programmeFrame n audio) s = .next s)) ∧
    ((s.watches.get 0).enabled = false → inWindow →
      (n - last = 1 → exec (.programmeFrame n audio) s = .next { s with
        time := { s.time with line := stored s.time.line }, feed := { s.feed with last := some n, idle := 0 } }) ∧
      (2 ≤ (n - last).toNat → (n - last).toNat ≤ 9 → exec (.programmeFrame n audio) s = .next { s with
        time := { s.time with line := stored (gap.foldl concealed s.time.line) }
        feed := { s.feed with last := some n, idle := 0 } }))

/-- R12 and R13: a frame after `last` in LOST, by its distance from where the feed should be, and a jump or a window slip in LOCKED
or SILENT: a restore, or a resync that ends the run of the feed watch and brings each channel into the new numbering. The frame is
observed by that watch (`State.observe`, R20); the order of the records is the model's choice (log 25). R14 on one channel: nothing but the frames that its split, break or window waits for is moved, S with them (log 15); a plan with a first
item on deck A, a pending announce and the timer given up; a prepared window given up. A deck that becomes IDLE has its
other fields cleared at once (log 49, the model's choice). -/
def Obligations.RestoreAndResync : Prop :=
  (∀ (s : State) (n last : FrameNo) (audio : Audio), s.feed.last = some last → n ≠ last → (n - last).toNat ≤ 2 ^ 31 →
    let slot : Fin 512 := Fin.ofNat 512 n.toNat
    let frame : Slot := { number := n, audio := audio, concealed := false }
    let j := (n - (s.time.position.getD 0 + BitVec.ofNat 32 s.time.delay)).toNat
    let near := j ≤ 8 ∨ 2 ^ 32 - 8 ≤ j
    let slips := 10 ≤ (n - last).toNat ∨ 511 < (n - s.time.nextPosition.getD 0).toNat
    (s.feed.state = .lost → near → exec (.programmeFrame n audio) s = .next (({ s with
      time := { s.time with line := put s.time.line slot (some frame) }
      feed := { s.feed.resumed n with state := .locked, last := some n, idle := 0 }
      log := s.log.append { sequence := 0, kind := .feedRestored, position := n } } : State).observe 0 n (peakDepth audio))) ∧
    ((s.feed.state = .lost ∧ ¬ near) ∨ ((s.feed.state = .locked ∨ s.feed.state = .silent) ∧ slips) →
      let base := n - BitVec.ofNat 32 s.time.delay
      let w := s.watches.get 0
      let log := s.log.append { sequence := 0, kind := .feedResync, position := base, detail := some n }
      let rebased : State := { s with
        time := { s.time with line := put (Vector.replicate 512 none) slot (some frame), nextPosition := some base }
        feed := { s.feed with state := .locked, last := some n, idle := 0,
                              brk := some { cause := .resync, point := base, resume := some n } }
        watches := put s.watches 0 w.cleared
        log := if w.tripped then log.append (w.clearRecord 0 n .feed) else log }
      exec (.programmeFrame n audio) s = .next ((rebased.observe 0 n (peakDepth audio)).onChannels
        (Desk.renumber (base - s.time.nextPosition.getD 0))))) ∧
  (∀ (e : Env) (d : Desk) (delta : FrameNo),
    let c := d.ch
    let abandoned (position : FrameNo) (number : Option BreakNo) : Record :=
      { sequence := 0, kind := .planAbandoned, position := position, channel := some e.chan, breakNo := number }
    let noContext := c.split = none ∧ c.brk = none ∧ c.window = none
    (c.free → c.pending = none → c.timer = none →
      c.state = .bypass ∨ c.state = .pass ∨
        (c.deckA.sounding = true ∧ c.deckB.sounding = true ∧ ∀ x, c.split = some x → x.wantFill = false) →
      d.renumber delta e = { d with ch := { c with
        split := c.split.map (fun x => ({ x with start := x.start + delta, stop := x.stop + delta,
                                                 rejoin := x.rejoin.map (· + delta), fadeStart := x.fadeStart + delta } : Split))
        brk := c.brk.map (fun b => ({ b with start := b.start.map (· + delta),
                                             guardPoint := b.guardPoint.map (· + delta) } : BreakCtx))
        window := c.window.map (fun w => ({ w with closes := w.closes.map (· + delta),
                                                   ends := w.ends.map (· + delta) } : WindowCtx)) } }) ∧
    (∀ p x a t, c.state = .pass → noContext → c.held = none → c.plan = some p → p.items = [x] → x.inclusion = .included →
      c.deckA.item = some (.ring x.ref) → c.deckA.waiting = true → c.deckB.state = .idle → c.deckB.item = none →
      c.pending = some a → c.timer = some t →
      (d.item x.ref).held = true → (d.item x.ref).provisional = false →
      let k := (d.item x.ref).cart
      d.renumber delta e = { (d.setItem x.ref { d.item x.ref with held := false }) with
        ch := { (d.setItem x.ref { d.item x.ref with held := false }).ch with
          plan := none, pending := none, timer := none, head := x.ref.index
          deckA := { Deck.reset with load := c.deckA.load, read := c.deckA.read, allowanceUsed := c.deckA.allowanceUsed } }
        holds := put d.holds k (d.holds.get k - 1)
        out := d.out ++ [abandoned e.pos (some p.breakNo), abandoned e.pos (some a.breakNo),
                         { sequence := 0, kind := .timersOff, position := e.pos, channel := some e.chan }] }) ∧
    (∀ h r, c.state = .pass → noContext → c.plan = none → c.pending = none → c.timer = none → c.held = some h →
      h.stage = .ring → c.deckA.item = some (.ring r) → c.deckA.waiting = true → c.deckB.state = .idle →
      (d.item r).held = true →
      let k := (d.item r).cart
      d.renumber delta e = { (d.setItem r { d.item r with held := false }) with
        ch := { (d.setItem r { d.item r with held := false }).ch with
          held := none, lastRing := none, head := r.index, fill := { c.fill with wait := false }
          deckA := { Deck.reset with load := c.deckA.load, read := c.deckA.read, allowanceUsed := c.deckA.allowanceUsed } }
        holds := put d.holds k (d.holds.get k - 1)
        out := d.out ++ [abandoned h.opens none] }))

/-- R20: peak depth, "the whole part of 20 log10(8388608 / m), limited to 96", m the largest magnitude of the frame's samples. -/
def Obligations.PeakDepth : Prop :=
  (depthOf 0 = 96 ∧
   ∀ m : Nat, 0 < m → m ≤ 8388608 →
     depthOf m ≤ 96 ∧ 10 ^ depthOf m * m ^ 20 ≤ 8388608 ^ 20 ∧
     (depthOf m < 96 → 8388608 ^ 20 < 10 ^ (depthOf m + 1) * m ^ 20)) ∧
  (∀ (a : Audio) (m : Nat), (∀ x ∈ a, x.toInt.natAbs ≤ m) → (m = 0 ∨ ∃ x ∈ a, x.toInt.natAbs = m) → peakDepth a = depthOf m)

/-- R11 and R20 where they come about: the feed lost and a watch tripped, taken as commands (log 3); and R20 with R17 and R18, one
frame x of a peak depth observed by watch i, as PROGRAMME_FRAME and OUTPUT_PERIOD have it: the run counted with its first frame and
extreme, a trip, a clear, and the feed made SILENT and LOCKED again. The order of the records is the model's choice (log 25). -/
def Obligations.FeedLostAndWatchTrip : Prop :=
  (∀ (s : State) (last : FrameNo), s.feed.state = .locked ∨ s.feed.state = .silent → s.feed.last = some last →
    s.feed.lossWait ≤ s.feed.idle → exec .feedLost s = .next (s.feedGone (last + 1))) ∧
  (∀ s : State, s.feed.state = .noLock ∨ s.feed.state = .lost ∨ s.feed.idle < s.feed.lossWait → exec .feedLost s = .next s) ∧
  (∀ (s : State) (i : Fin 5),
    let w := s.watches.get i
    let trip : Record := { sequence := 0, kind := .watchTrip, position := w.first.getD 0, watch := some i,
                           detail := some (BitVec.ofNat 32 w.extreme) }
    w.enabled = true → w.tripped = false → w.run ≠ 0 → w.window ≤ w.run →
    (i ≠ 0 ∨ w.direction = .loud ∨ s.feed.state ≠ .locked → exec (.watchTrip i) s = .next { s with
      watches := put s.watches i { w with tripped := true }, log := s.log.append trip }) ∧
    (i = 0 → w.direction = .quiet → s.feed.state = .locked → exec (.watchTrip i) s = .next { s with
      watches := put s.watches i { w with tripped := true }
      feed := { s.feed.broke .silent (w.first.getD 0) with state := .silent }
      log := (s.log.append { sequence := 0, kind := .feedSilent, position := w.first.getD 0 }).append trip })) ∧
  (∀ (s : State) (i : Fin 5), (s.watches.get i).enabled = false ∨ (s.watches.get i).tripped = true ∨ (s.watches.get i).run = 0 ∨
    (s.watches.get i).run < (s.watches.get i).window → exec (.watchTrip i) s = .next s) ∧
  (∀ (s : State) (i : Fin 5) (x : FrameNo) (depth : Nat),
    let w := s.watches.get i
    let met := (w.direction = .quiet ∧ w.threshold ≤ depth) ∨ (w.direction = .loud ∧ depth < w.threshold)
    let run := w.counted x depth
    let first := run.first.getD 0
    let trip : Record := { sequence := 0, kind := .watchTrip, position := first, watch := some i,
                           detail := some (BitVec.ofNat 32 run.extreme) }
    let silences := i = 0 ∧ w.direction = .quiet ∧ s.feed.state = .locked
    let restores := i = 0 ∧ s.feed.state = .silent
    let cleared := w.clearRecord i x .frame
    (w.enabled = false → s.observe i x depth = s) ∧
    (w.enabled = true → met →
      (w.tripped = true ∨ run.run < w.window → s.observe i x depth = { s with watches := put s.watches i run }) ∧
      (w.tripped = false → w.window ≤ run.run →
        (¬ silences → s.observe i x depth = { s with
          watches := put s.watches i { run with tripped := true }, log := s.log.append trip }) ∧
        (silences → s.observe i x depth = { s with
          watches := put s.watches i { run with tripped := true }
          feed := { s.feed.broke .silent first with state := .silent }
          log := (s.log.append { sequence := 0, kind := .feedSilent, position := first }).append trip }))) ∧
    (w.enabled = true → ¬ met →
      (w.tripped = false → s.observe i x depth = { s with watches := put s.watches i w.cleared }) ∧
      (w.tripped = true →
        (¬ restores → s.observe i x depth = { s with
          watches := put s.watches i w.cleared, log := s.log.append cleared }) ∧
        (restores → s.observe i x depth = { s with
          watches := put s.watches i w.cleared
          feed := { s.feed.resumed x with state := .locked }
          log := (s.log.append cleared).append { sequence := 0, kind := .feedRestored, position := x } }))))

/-! ### Output periods and composition -/

/-- R1, R2, R15, R108, R175, R181: an output period. P takes its next value, a feed break record whose resume point it reached is
removed, and each channel in turn takes its own rules at P (`Desk.period`), emits a frame from its decks and gives up starved
items; then the four output watches observe (R20, `State.observe`), the allowances are renewed, and a feed that is idle for the loss
wait is lost (R11). The order of the four and of the steps is log 5,
and of the records of a lost feed log 25. R113, R114: with the channels in BYPASS and their decks idle every
output carries network frame P or silence. -/
def Obligations.OutputPeriodInBypass : Prop :=
  (∀ s : State,
    let time : Timebase := match s.time.nextPosition with
      | some x => { s.time with position := some x, nextPosition := some (x + 1) }
      | none => s.time
    let feed : Feed := match time.position, s.feed.brk.bind (·.resume) with
      | some p, some r => if atOrAfter p r then { s.feed with brk := none } else s.feed
      | _, _ => s.feed
    let e (n : Fin 4) : Env := ({ s with time := time, feed := feed } : State).env n
    let frame : Option Audio := time.position.bind (fun p =>
      (s.time.line.get (Fin.ofNat 512 p.toNat)).bind (fun x => if x.number = p then some x.audio else none))
    let renewed (k : Deck) : Deck := { k with allowanceUsed := false }
    ∃ (t : State) (d : Fin 4 → Desk) (h : Fin 5 → Vector Nat 1024), exec .outputPeriod s = .next t ∧
      h 0 = s.store.holds ∧
      (∀ n : Fin 4,
        d n = ({ ch := s.channels.get n, holds := h n.castSucc, out := [] } : Desk).period (e n) ∧
        let o := (d n).outFrame (e n) frame
        let emitted := (d n).emit.abandonDecks (e n)
        t.outputs.get n = { origin := o.origin, onAir := o.onAir, emitted := some o } ∧ h n.succ = emitted.holds ∧
        t.channels.get n = { emitted.ch with deckA := renewed emitted.ch.deckA, deckB := renewed emitted.ch.deckB }) ∧
      let sent : State := { s with
        time := time, feed := feed, channels := t.channels, outputs := t.outputs, store := { s.store with holds := h 4 }
        log := s.log.appendAll ((List.finRange 4).flatMap (fun n => ((d n).emit.abandonDecks (e n)).out)) }
      let watched := (List.finRange 4).foldl (fun u n =>
        u.observe n.succ (time.position.getD 0) (peakDepth ((d n).outFrame (e n) frame).audio)) sent
      let idle := min (s.feed.idle + 1) 250
      let counted : State := { watched with feed := { watched.feed with idle := idle } }
      (s.feed.state = .noLock → t = watched) ∧
      (s.feed.state = .lost ∨ ((s.feed.state = .locked ∨ s.feed.state = .silent) ∧ idle < s.feed.lossWait) → t = counted) ∧
      (s.feed.state = .locked ∨ s.feed.state = .silent → s.feed.lossWait ≤ idle →
        t = counted.feedGone (s.feed.last.getD 0 + 1))) ∧
  (∀ s : State, (∀ n, (s.channels.get n).state = .bypass ∧ (s.channels.get n).decksIdle ∧ (s.channels.get n).free ∧
       (s.channels.get n).split = none ∧ (s.channels.get n).brk = none ∧ (s.channels.get n).window = none ∧
       (s.channels.get n).timer = none) →
     ∃ t, exec .outputPeriod s = .next t ∧
       t.time = (match s.time.nextPosition with
         | some x => { s.time with position := some x, nextPosition := some (x + 1) }
         | none => s.time) ∧
       t.flash = s.flash ∧ t.store = s.store ∧ t.arbiter = s.arbiter ∧ t.intake = s.intake ∧ t.ret = s.ret ∧ t.lines = s.lines ∧
       (∀ n, (t.channels.get n).state = .bypass ∧ (t.channels.get n).ring = (s.channels.get n).ring ∧
         (t.channels.get n).head = (s.channels.get n).head ∧ (t.channels.get n).fill = (s.channels.get n).fill) ∧
       ∀ n, ∃ o, (t.outputs.get n).emitted = some o ∧ (t.outputs.get n).origin = o.origin ∧ (t.outputs.get n).onAir = o.onAir ∧
         o.state = .bypass ∧ o.onAir = 0 ∧ o.position = t.time.position.getD 0 ∧
         (∀ p x, t.time.position = some p → s.time.line.get (Fin.ofNat 512 p.toNat) = some x → x.number = p →
           x.audio.length = 384 → o.audio = x.audio ∧ o.origin = .network) ∧
         ((∀ p x, t.time.position = some p → s.time.line.get (Fin.ofNat 512 p.toNat) = some x → x.number ≠ p) →
           o.audio = List.replicate 384 0 ∧ o.origin = .silence))

/-- R109: a single source at gain 1 is carried unaltered, and every sample of two sources at gain 1 is their limited sum. R110:
the gain of a ramp in its k-th output period. -/
def Obligations.MixAndRampGain : Prop :=
  ((∀ x : Audio, x.length = 384 → mix [(Gain.full, x)] = x) ∧
   (∀ x y : Audio, x.length = 384 → y.length = 384 → ∀ i (hx : i < x.length) (hy : i < y.length),
     (mix [(Gain.full, x), (Gain.full, y)])[i]? =
       some (BitVec.ofInt 24 (max (-8388608) (min 8388607 (x[i].toInt + y[i].toInt)))))) ∧
  (∀ (r : Ramp) (k : Nat), 1 ≤ k → k ≤ r.length → r.elapsed + 1 = k →
     r.gain = { num := r.length - k, den := r.length } ∧ r.advance.elapsed = k ∧
     ∀ x : Sample, r.gain.scale x = (x.toInt * ((r.length : Int) - k)).tdiv r.length)

/-! ### One channel at an output period

The rules of a channel at P are `d.period e`, with the order of log 5. -/

namespace Sys2Proof.Machine

/-- R183: a deck that becomes IDLE. Its load number, a read in flight and its allowance stay; that its other fields are cleared at
once is the model's choice (log 49). -/
def freedDeck (k : Deck) : Deck := { Deck.reset with load := k.load, read := k.read, allowanceUsed := k.allowanceUsed }

/-- R180: a deck whose item is given up at the fourth failed attempt of a read, which is over. -/
def failedDeck (k : Deck) (allowance : Bool) : Deck :=
  { freedDeck k with read := none, allowanceUsed := k.allowanceUsed && !allowance }

/-- R177: deck k loaded with an item whose cart has run r and length z, as the given one in order of loads and starts. -/
def loadedDeck (k : Deck) (item : DeckItem) (cart : Fin 1024) (r : Run) (z : CartLength) (order : Nat) : Deck :=
  { freedDeck k with
    state := .priming, item := some item, cart := cart, load := k.load + 1, due := z.length, order := order, mode := .named
    source := some { bank := r.bank, firstUnit := r.first, length := z.length, segueOut := z.segueOut } }

/-- The head of channel n is a break of one entry with one item, which is playable; its cart has run r and length z. -/
def State.headPlayable (s : State) (n : Fin 4) (r : Run) (z : CartLength) : Prop :=
  let x := (s.channels.get n).ring.get (s.channels.get n).head
  let k := x.itemA.cart
  x.owner = .channel ∧ x.first = true ∧ x.last = true ∧ k ≠ 0 ∧ x.itemA.result = .none ∧ x.itemB.cart = 0 ∧
    (s.store.catalog.get k).state = .ready ∧ s.store.holds.get k < 255 ∧ (s.store.catalog.get k).run = some r ∧
    (s.store.catalog.get k).size = some z

/-- R53: channel c gives deck `id` to an insert item and becomes d, and the hold counts become `after`: deck A where it is IDLE, deck B
where that alone is, or the deck of a fill candidate, which is given up, beside a deck that sounds. -/
def Channel.givesDeck (c : Channel) (holds : Vector Nat 1024) (id : DeckId) (d : Channel) (after : Vector Nat 1024) : Prop :=
  let k := c.deck id
  let other := c.deck (otherDeck id)
  other.ringItem = none ∧
    ((k.state = .idle ∧ k.item = none ∧ (id = .b → c.deckA.state ≠ .idle) ∧ d = c ∧ after = holds) ∨
     (∃ slot, k.item = some (.fill slot) ∧ k.waiting = true ∧ other.sounding = true ∧
       after = put holds k.cart (holds.get k.cart - 1) ∧
       d = ({ c with fill := { c.fill with cursor := if k.rangeMark = true then c.fill.cursor else slot } } : Channel).setDeck id
         (freedDeck k)))

/-- R59: the playable head break of channel n begun, on deck `id` of the channel as given; what sounds plays on. -/
def State.headBreakBegun (s : State) (n : Fin 4) (id : DeckId) (d : Channel) (holds : Vector Nat 1024) (r : Run)
    (z : CartLength) : State :=
  let c := s.channels.get n
  let x := c.ring.get c.head
  { s.withChannel n (({ d with
      state := .brk, head := x.successor c.head, fill := { d.fill with wait := false }, stamp := c.stamp + 1
      brk := some { breakNo := x.breakNo, entries := [c.head], start := none, ran := 0, guardPoint := none, closing := .none,
                    fromPass := decide (c.state = .pass) }
      ring := put c.ring c.head { x with itemA := { x.itemA with held := true } } } : Channel).setDeck id
        (loadedDeck (c.deck id) (.ring ⟨c.head, .a⟩) x.itemA.cart r z c.stamp)) with
    store := { s.store with holds := holds }
    log := if c.state = .fallback then
        s.log.append { sequence := 0, kind := .fallbackEnd, position := s.time.position.getD 0, channel := some n }
      else s.log }

/-- R62: the playable head break begun on deck A, which was k, in the place of the one that a TAKE hard has ended, once the ring, the hold
counts and the records are as given; the output is silent until it sounds. -/
def Desk.headRestarted (d : Desk) (ring : Vector Entry 128) (holds : Vector Nat 1024) (out : List Record) (r : Run)
    (z : CartLength) : Desk :=
  let c := d.ch
  let x := c.ring.get c.head
  let k := x.itemA.cart
  { holds := put holds k (holds.get k + 1)
    out := out
    ch := { c with
      head := x.successor c.head, fill := { c.fill with wait := false }, stamp := c.stamp + 1
      brk := some { breakNo := x.breakNo, entries := [c.head], start := none, ran := 0, guardPoint := none, closing := .none,
                    fromPass := false }
      ring := put ring c.head { x with itemA := { x.itemA with held := true } }
      deckA := loadedDeck c.deckA (.ring ⟨c.head, .a⟩) k r z c.stamp } }

/-- R52: a deck whose ring item begins to sound in channel c. -/
def begunDeck (c : Channel) (k : Deck) : Deck :=
  { k with state := .playing, order := c.stamp, fillStart := none, unready := decide (k.state = .priming) }

/-- R86, R64: a deck whose fill candidate begins to sound in channel c where the split exhausts its items or the window opens. -/
def begunFill (e : Env) (c : Channel) (k : Deck) : Deck :=
  { begunDeck c k with fillStart := some e.pos, mode := .following }

/-- R111: a sounding deck at a closing fade of g output periods. -/
def closedDeck (g : Nat) (k : Deck) : Deck :=
  { k with state := .fading, closing := match k.ramp with
    | some r => if r.length - r.elapsed ≤ g then k.closing else some { kind := .closing, length := g, elapsed := 0 }
    | none => some { kind := .closing, length := g, elapsed := 0 } }

/-- R183: no item sounding on a deck of the channel ends at this output period. -/
def Desk.noneEnds (d : Desk) : Prop :=
  ∀ k, k = d.ch.deckA ∨ k = d.ch.deckB → k.sounding = true →
    d.aired k < k.length ∧ ∀ r, k.ramp = some r ∨ k.closing = some r → r.elapsed < r.length

/-- The channel has no context of an insert state and no timer. -/
def Channel.quiet (c : Channel) : Prop :=
  c.split = none ∧ c.brk = none ∧ c.window = none ∧ c.lastRing = none ∧ c.timer = none

/-- Deck B holds nothing. -/
def Channel.onlyA (c : Channel) : Prop := c.deckB.state = .idle ∧ c.deckB.item = none

/-- R40: AIRED where every due frame was emitted, and TRUNCATED else. -/
def resultAt (due aired : Nat) : Result := if due ≤ aired then .aired else .truncated

/-- A record of the channel. -/
def Env.noted (e : Env) (kind : RecordKind) (position : FrameNo) : Record :=
  { sequence := 0, kind := kind, position := position, channel := some e.chan }

/-- R43, R106: the ITEM record of part A of ring entry i. -/
def Env.ringItem (e : Env) (position : FrameNo) (number : BreakNo) (i : Fin 128) (x : Item) (result : Result)
    (underruns : Nat) : Record :=
  { e.noted .item position with
    breakNo := some number, ring := some (i, some .a), cart := some x.cart, reason := some (.result result)
    frames := some (BitVec.ofNat 32 x.aired), detail := some (BitVec.ofNat 32 underruns) }

/-- R106: the ITEM record of the fill item on a deck. -/
def Env.fillItem (e : Env) (number : Option BreakNo) (slot : Fin 16) (position : FrameNo) (k : Deck) : Record :=
  { e.noted .item position with
    breakNo := number, fillSlot := some slot, cart := some k.cart, reason := some (.result (resultAt k.due k.fillAired))
    frames := some (BitVec.ofNat 32 k.fillAired), detail := some (BitVec.ofNat 32 k.underruns) }

/-- A BREAK_END record. -/
def Env.breakEnd (e : Env) (number : BreakNo) (reason : Reason) (position frames : FrameNo) : Record :=
  { e.noted .breakEnd position with breakNo := some number, reason := some reason, frames := some frames }

/-- R43: an entry whose item A, its only one, has its result: it returns to the hub. -/
def returned (z : Entry) (result : Result) : Entry :=
  { z with owner := .loader, itemA := { z.itemA with result := result, provisional := false, held := false } }

/-- R69 with both decks idle and no plan: PASS where frame P is present and the feed good, and else FALLBACK, which chooses a
fill item. -/
def Desk.goesOn (e : Env) (d : Desk) : Desk :=
  let c : Channel := { d.ch with
    split := none, brk := none, window := none, lastRing := none, fill := { d.ch.fill with wait := false } }
  if e.present = true ∧ e.broken c.settings = false then { d with ch := { c with state := .pass } }
  else ({ d with ch := { c with state := .fallback }, out := d.out ++ [e.noted .fallbackStart e.pos] } : Desk).chooseFill e
    .whenReady

end Sys2Proof.Machine

/-- R15: the feed test. R68: PASS stays while the feed is good, becomes FALLBACK where it is broken at P, and comes back at the first
output period at which the feed is good and frame P present: fill fades over the network and a candidate is given up. A fill item
still under the exit fade of an earlier exit keeps that ramp: the model's choice (log 46). An armed plan and a held window are kept
at the exit, but a fill choice that one of them still waits for is not made any more (R104). A deck that becomes IDLE has its
other fields cleared at once (log 49, the model's choice). -/
def Obligations.FallbackStartsAndEnds : Prop :=
  (∀ (s : State) (n : Fin 4) (x : Settings),
    let p := s.time.position.getD 0
    (s.env n).broken x = true ↔ s.feed.state = .noLock ∨ ∃ b, s.feed.brk = some b ∧
      (b.cause = .silent → x.silenceFallback = true) ∧ atOrAfter p b.point = true ∧ ∀ r, b.resume = some r → isBefore p r = true) ∧
  (∀ (e : Env) (d : Desk),
    let c := d.ch
    let broken := e.broken c.settings
    let mode := if c.deckA.state = .idle ∧ c.deckB.state = .idle then StartMode.whenReady else .following
    let faded (k : Deck) : Deck := if k.sounding = true ∧ k.fillItem.isSome = true ∧ k.ramp = none then
      { k with state := .fading, ramp := some { kind := .exit, length := c.settings.fade, elapsed := 0 } } else k
    c.free → c.quiet → d.noneEnds →
    (c.state = .pass → broken = false → d.period e = d) ∧
    (c.deckA.waiting = false → c.deckB.waiting = false →
      (c.state = .pass → broken = true → d.period e = ({ d with
        ch := { c with state := .fallback, fill := { c.fill with wait := false } }
        out := d.out ++ [e.noted .fallbackStart e.pos] } : Desk).chooseFill e mode) ∧
      (c.state = .fallback → broken = true ∨ e.present = false →
        d.period e = if c.fill.wait = true then d else d.chooseFill e mode) ∧
      (c.state = .fallback → broken = false → e.present = true → d.period e = { d with
        ch := { c with state := .pass, fill := { c.fill with wait := false }, deckA := faded c.deckA, deckB := faded c.deckB }
        out := d.out ++ [e.noted .fallbackEnd e.pos] })) ∧
    (∀ (id : DeckId) (slot : Fin 16), (c.deck id).item = some (.fill slot) → (c.deck id).waiting = true →
      (c.deck (otherDeck id)).waiting = false → c.state = .fallback → broken = false → e.present = true →
      let k := c.deck id
      let fill : FillTable := { c.fill with wait := false, cursor := if k.rangeMark = true then c.fill.cursor else slot }
      d.period e =
        { ch := (({ c with state := .pass, fill := fill } : Channel).setDeck id (freedDeck k)).setDeck (otherDeck id)
            (faded (c.deck (otherDeck id)))
          holds := put d.holds k.cart (d.holds.get k.cart - 1)
          out := d.out ++ [e.noted .fallbackEnd e.pos] })) ∧
  (∀ (e : Env) (d : Desk),
    let c := d.ch
    let faded (k : Deck) : Deck := if k.sounding = true ∧ k.fillItem.isSome = true ∧ k.ramp = none then
      { k with state := .fading, ramp := some { kind := .exit, length := c.settings.fade, elapsed := 0 } } else k
    c.state = .fallback → e.broken c.settings = false → e.present = true → c.deckA.candidate = false → c.deckB.candidate = false →
    d.feedTest e = { d with
      ch := { c with
        state := .pass, fill := { c.fill with wait := false }, deckA := faded c.deckA, deckB := faded c.deckB
        plan := c.plan.map (fun p => ({ p with wantFill := false } : Plan))
        held := c.held.map (fun h => (if h.stage = .call then { h with stage := .fill } else h : HeldWindow)) }
      out := d.out ++ [e.noted .fallbackEnd e.pos] })

/-- R82 to R85 at S, for a primed plan of one included item on deck A and an excluded item B of its entry, and for a plan without
items: padding, a fill item cut in FALLBACK, or the candidate started at once; the pass position is the start slot there (log 19).
The expected remainder is reckoned from S plus the due frames, also where the deck is not READY: the model's choice (log 47). A deck
that becomes IDLE has its other fields cleared at once (log 49, the model's choice). R81 first: the priming of a plan of one included
item, which is loaded onto an IDLE deck, or onto that of a candidate given up beside a deck that sounds. -/
def Obligations.SplitStarts : Prop :=
  (∀ (e : Env) (d : Desk) (p : Plan) (x : PlanItem) (r : Run) (z : CartLength) (id : DeckId) (y : Channel)
      (holds : Vector Nat 1024),
    let c := d.ch
    c.plan = some p → p.primed = false → p.items = [x] → x.inclusion = .included → (d.item x.ref).result = .none →
    (e.catalog.get x.cart).run = some r → (e.catalog.get x.cart).size = some z → c.split = none →
    c.givesDeck d.holds id y holds →
    (atOrAfter e.pos (p.start - 8) = false → d.planPrimes e = d) ∧
    (atOrAfter e.pos (p.start - 8) = true → d.planPrimes e = { d with
      holds := holds
      ch := ({ y with
        plan := some { p with primed := true, wantFill := false }, fill := { y.fill with wait := false }
        stamp := c.stamp + 1 } : Channel).setDeck id (loadedDeck (c.deck id) (.ring x.ref) x.cart r z c.stamp) })) ∧
  ∀ (e : Env) (d : Desk) (p : Plan),
    let c := d.ch
    let fallbackEnd : List Record := if c.state = .fallback then [e.noted .fallbackEnd p.start] else []
    let breakStart : Record := { e.noted .breakStart p.start with
      breakNo := some p.breakNo, frames := some p.length, detail := some (BitVec.ofNat 32 p.planned) }
    let split (items : List PlanItem) (phase : SplitPhase) (want : Bool) : Split :=
      { breakNo := p.breakNo, start := p.start, stop := p.stop, length := p.length, planned := p.planned, items := items
        phase := phase, rejoin := none, fadeStart := p.stop - BitVec.ofNat 32 c.settings.fade, pass := c.fill.start
        exhausted := false, wantFill := want }
    let began (x : Split) : Channel := { c with
      state := .split, plan := none, lastTaken := some p.breakNo, split := some x, fill := { c.fill with wait := false } }
    e.live = true → e.pos = p.start → isAfter (p.stop - BitVec.ofNat 32 c.settings.fade) p.start = true →
    c.state = .pass ∨ c.state = .fallback → c.plan = some p → p.primed = true → c.held = none → c.quiet → c.onlyA →
    (∀ x y, p.items = [x, y] → x.inclusion = .included → y.inclusion ≠ .included → x.ref.part = .a →
      y.ref = ⟨x.ref.index, .b⟩ → c.deckA.item = some (.ring x.ref) → c.deckA.waiting = true →
      let i := x.ref.index
      let z := c.ring.get i
      z.itemA.cart ≠ 0 → z.itemA.result = .none → z.itemA.provisional = false →
      z.itemB.provisional = true → z.itemB.held = false → z.start = none →
      let late := decide (signedDiff p.stop (p.start + BitVec.ofNat 32 c.deckA.due) > (c.settings.pad : Int))
      let t : Desk := { d with
        ch := { began (split [x] .items late) with
          ring := put c.ring i { z with itemB := { z.itemB with provisional := false }, start := some p.start }
          deckA := begunDeck c c.deckA, stamp := c.stamp + 1, lastStart := c.stamp }
        out := d.out ++ fallbackEnd ++ [breakStart, { e.ringItem p.start p.breakNo i z.itemB z.itemB.result 0 with
          ring := some (i, some .b) }] }
      d.period e = if late = true then t.chooseFill e .named else t) ∧
    (p.items = [] → signedDiff p.stop p.start ≤ (c.settings.pad : Int) →
      (c.deckA.state = .idle → c.deckA.item = none → d.period e = { d with
        ch := began (split [] .pad false), out := d.out ++ fallbackEnd ++ [breakStart] }) ∧
      (∀ slot, c.deckA.item = some (.fill slot) → c.deckA.sounding = true → c.deckA.ramp = none → c.deckA.fillStart.isSome = true →
        d.noneEnds → d.period e =
          { ch := { began (split [] .pad false) with deckA := freedDeck c.deckA }
            holds := put d.holds c.deckA.cart (d.holds.get c.deckA.cart - 1)
            out := d.out ++ fallbackEnd ++ [e.fillItem none slot (c.deckA.fillStart.getD e.pos) c.deckA, breakStart] })) ∧
    (p.items = [] → (c.settings.pad : Int) < signedDiff p.stop p.start → ∀ slot, c.deckA.item = some (.fill slot) →
      c.deckA.waiting = true → d.period e = ({ d with
        ch := { began (split [] .fill false) with deckA := begunFill e c c.deckA, stamp := c.stamp + 1, lastStart := c.stamp }
        out := d.out ++ fallbackEnd ++ [breakStart] } : Desk).chooseFill e .following)

/-- R86 to R90 and R95: a split whose items are exhausted pads, or starts its candidate, or chooses fill that follows; its closing
fade; and its end at E or at the rejoin frame K', with S in the frames K' - S as log 15 moves it, and R69. R73: a pending announce is
judged afresh at that end, here with R69 to PASS and an announce that is late. A deck that becomes IDLE has its other fields cleared
at once (log 49, the model's choice). -/
def Obligations.SplitAirsAndEnds : Prop :=
  (∀ (e : Env) (d : Desk) (x : Split) (slot : Fin 16) (q : FrameNo) (w : Announce),
    let c := d.ch
    c.state = .split → c.split = some x → c.plan = none → c.held = none → c.brk = none → c.window = none → c.lastRing = none →
    c.timer = none → c.pending = some w → c.lastTaken ≠ some w.breakNo → e.live = true → e.present = true →
    e.broken c.settings = false → isAfter (w.start + w.length) (e.pos + 8) = false →
    c.deckA.item = some (.fill slot) → c.deckA.sounding = true → c.deckA.ramp = none → c.deckA.fillStart = some q → c.onlyA →
    let ended (r : Record) : Desk :=
      { ch := { c with
          state := .pass, split := none, pending := none, fill := { c.fill with wait := false }, deckA := freedDeck c.deckA }
        holds := put d.holds c.deckA.cart (d.holds.get c.deckA.cart - 1)
        out := d.out ++ [e.fillItem (some x.breakNo) slot q c.deckA, r, { e.noted .cueIgnored e.pos with
          reason := some .cueLate, breakNo := some w.breakNo, detail := some w.start }] }
    (x.rejoin = some e.pos → d.period e = ended (e.breakEnd x.breakNo .endCancel e.pos (e.pos - x.start))) ∧
    (x.rejoin ≠ some e.pos → e.pos = x.stop → d.period e = ended (e.breakEnd x.breakNo .endNormal e.pos x.length))) ∧
  ∀ (e : Env) (d : Desk) (x : Split),
    let c := d.ch
    let stop := x.rejoin.getD x.stop
    let left := signedDiff stop e.pos
    let within (y : Split) : Channel := { c with split := some y, fill := { c.fill with wait := false } }
    c.state = .split → c.split = some x → c.plan = none → c.held = none → c.brk = none → c.window = none → c.lastRing = none →
    c.timer = none → c.pending = none → e.live = true →
    (x.phase = .items → x.items = [] → atOrAfter e.pos x.fadeStart = false → x.rejoin ≠ some e.pos → e.pos ≠ x.stop →
      d.noneEnds →
      (c.deckA.waiting = false → c.deckB.waiting = false →
        (left ≤ (c.settings.pad : Int) → d.period e = { d with ch := within { x with phase := .pad, wantFill := false } }) ∧
        ((c.settings.pad : Int) < left → d.period e = ({ d with ch := within { x with
          phase := .fill, wantFill := false } } : Desk).chooseFill e .following)) ∧
      (∀ slot, c.onlyA → c.deckA.item = some (.fill slot) → c.deckA.waiting = true →
        (left ≤ (c.settings.pad : Int) →
          let k := c.deckA
          let back := k.rangeMark = false ∧ c.settings.fillMode = .onePass
          d.period e = { d with
            holds := put d.holds k.cart (d.holds.get k.cart - 1)
            ch := { c with
              deckA := freedDeck k
              fill := { c.fill with wait := false, cursor := if k.rangeMark = true then c.fill.cursor else slot }
              split := some { x with
                phase := .pad, wantFill := false, pass := if back then slot else x.pass
                exhausted := if back then false else x.exhausted } } }) ∧
        ((c.settings.pad : Int) < left →
          let t : Desk := { d with ch := { c with
            split := some { x with phase := .fill, wantFill := false }
            deckA := begunFill e c c.deckA, stamp := c.stamp + 1, lastStart := c.stamp } }
          d.period e = if c.fill.wait = true then t else t.chooseFill e .following))) ∧
    (x.phase ≠ .closing → atOrAfter e.pos x.fadeStart = true → x.rejoin ≠ some e.pos → e.pos ≠ x.stop → d.noneEnds →
      c.deckA.sounding = true →
      let deckA := closedDeck (stop - e.pos).toNat c.deckA
      (x.items = [] → c.onlyA → d.period e = { d with ch := { within { x with phase := .closing, wantFill := false } with
        deckA := deckA } }) ∧
      (∀ a b, x.items = [a, b] → c.deckA.item = some (.ring a.ref) → c.deckB.item = some (.ring b.ref) → c.deckB.waiting = true →
        b.ref.part = .a → a.ref.index ≠ b.ref.index →
        let z := c.ring.get b.ref.index
        z.itemA.held = true → z.itemB.cart = 0 →
        let result : Result := if x.rejoin.isSome = true then .cancelled else .cutOff
        d.period e =
          { ch := { within { x with phase := .closing, wantFill := false, items := [a] } with
              deckA := deckA, deckB := freedDeck c.deckB, ring := put c.ring b.ref.index (returned z result) }
            holds := put d.holds z.itemA.cart (d.holds.get z.itemA.cart - 1)
            out := d.out ++ [e.ringItem e.pos x.breakNo b.ref.index z.itemA result c.deckB.underruns] })) ∧
    (∀ slot q, c.deckA.item = some (.fill slot) → c.deckA.sounding = true → c.deckA.ramp = none → c.deckA.fillStart = some q →
      c.onlyA →
      let ended (r : Record) : Desk := Desk.goesOn e
        { ch := { c with deckA := freedDeck c.deckA }
          holds := put d.holds c.deckA.cart (d.holds.get c.deckA.cart - 1)
          out := d.out ++ [e.fillItem (some x.breakNo) slot q c.deckA, r] }
      (x.rejoin = some e.pos → d.period e = ended (e.breakEnd x.breakNo .endCancel e.pos (e.pos - x.start))) ∧
      (x.rejoin ≠ some e.pos → e.pos = x.stop → d.period e = ended (e.breakEnd x.breakNo .endNormal e.pos x.length)))

/-- R59 to R62 for a break of one entry whose one item is on deck A: it starts when the deck is READY and cuts a fill item; the closing
fade of the guard, whose guard point becomes P plus F where an F lengthened puts its start in the past, too (log 39, the model's
choice); the end at the guard point (log 16), the normal end, and the end of a TAKE hard, with no break at the head, and
with a break of one entry with one playable item, which is started in its place; a break that never sounded, also after a TAKE
hard. A deck that becomes IDLE has its other fields cleared at once (log 49, the model's choice). -/
def Obligations.BreakStartsAndEnds : Prop :=
  ∀ (e : Env) (d : Desk) (b : BreakCtx),
    let c := d.ch
    c.state = .brk → c.brk = some b → c.plan = none → c.held = none → c.split = none → c.window = none → c.lastRing = none →
    c.timer = none → e.live = true →
    (b.entries = [] → b.closing = .none → c.deckA.state = .idle → c.deckA.item = none → c.onlyA →
      d.period e = Desk.goesOn e { d with out := d.out ++ (if b.start.isNone = true then
        [{ e.noted .breakStart e.pos with breakNo := some b.breakNo }] else []) ++
          [e.breakEnd b.breakNo .endNormal e.pos (BitVec.ofNat 32 b.ran)] }) ∧
    let headPlayable (holds : Vector Nat 1024) (r : Run) (y : CartLength) : Prop :=
      let x := c.ring.get c.head
      let m := x.itemA.cart
      x.owner = .channel ∧ x.first = true ∧ x.last = true ∧ m ≠ 0 ∧ x.itemA.result = .none ∧ x.itemB.cart = 0 ∧
        (e.catalog.get m).state = .ready ∧ holds.get m < 255 ∧ (e.catalog.get m).run = some r ∧ (e.catalog.get m).size = some y
    (∀ fading r y, b.entries = [] → b.closing = .take 0 fading → c.deckA.state = .idle → c.deckA.item = none → c.onlyA →
      headPlayable d.holds r y → d.period e = d.headRestarted c.ring d.holds
        (d.out ++ [e.breakEnd b.breakNo .endTake e.pos (BitVec.ofNat 32 b.ran)]) r y) ∧
    (∀ i : Fin 128, b.entries = [i] → c.deckA.item = some (.ring ⟨i, .a⟩) →
      let z := c.ring.get i
      let k := c.deckA
      z.itemA.cart ≠ 0 → z.itemA.result = .none → z.itemA.held = true → z.itemB.cart = 0 →
      (b.start = none → b.closing = .none → b.guardPoint = none → z.start = none → d.noneEnds →
        let started : Channel := { c with
          brk := some { b with
            start := some e.pos
            guardPoint := if c.settings.guard = 0 then none else some (e.pos + BitVec.ofNat 32 c.settings.guard) }
          ring := put c.ring i { z with start := some e.pos }
          deckA := begunDeck c k, stamp := c.stamp + 1, lastStart := c.stamp }
        let breakStart : Record := { e.noted .breakStart e.pos with breakNo := some b.breakNo }
        (k.state = .priming → c.deckB.waiting = false → d.period e = d) ∧
        (k.state = .ready → c.onlyA → d.period e = { d with ch := started, out := d.out ++ [breakStart] }) ∧
        (∀ slot q, k.state = .ready → c.deckB.item = some (.fill slot) → c.deckB.sounding = true → c.deckB.ramp = none →
          c.deckB.fillStart = some q → d.period e =
            { ch := { started with deckB := freedDeck c.deckB }
              holds := put d.holds c.deckB.cart (d.holds.get c.deckB.cart - 1)
              out := d.out ++ [e.fillItem none slot q c.deckB, breakStart] })) ∧
      (∀ s, b.start = some s → k.sounding = true → c.onlyA →
        let f := BitVec.ofNat 32 c.settings.fade
        let ended (result : Result) (rs : List Record) : Desk := Desk.goesOn e
          { ch := { c with deckA := freedDeck k, ring := put c.ring i (returned z result) }
            holds := put d.holds z.itemA.cart (d.holds.get z.itemA.cart - 1)
            out := d.out ++ [e.ringItem (z.start.getD e.pos) b.breakNo i z.itemA result k.underruns] ++ rs }
        (∀ g, b.closing = .none → b.guardPoint = some g → d.noneEnds →
          (atOrAfter e.pos (g - f) = false → d.period e = d) ∧
          (atOrAfter e.pos (g - f) = true → d.period e = { d with ch := { c with
            brk := some { b with guardPoint := some (if e.pos = g - f then g else e.pos + f), closing := .guard }
            deckA := closedDeck c.settings.fade k } })) ∧
        (∀ g, b.closing = .guard → b.guardPoint = some g → e.pos = g → k.ramp = none →
          d.period e = ended (resultAt k.due z.itemA.aired) [e.breakEnd b.breakNo .endGuard g (g - s)]) ∧
        (b.closing = .none → k.length ≤ z.itemA.aired → k.due ≤ z.itemA.aired →
          d.period e = ended .aired [e.breakEnd b.breakNo .endNormal e.pos (BitVec.ofNat 32 b.ran)]) ∧
        (∀ fading, b.closing = .take 0 fading → k.ramp = none →
          (c.ring.get c.head).owner = .loader ∨ (c.ring.get c.head).first = false →
          d.period e = ended (resultAt k.due z.itemA.aired) [e.breakEnd b.breakNo .endTake e.pos (BitVec.ofNat 32 b.ran),
            { e.noted .triggerIgnored e.pos with reason := some .empty, ring := some (c.head, none) }]) ∧
        (∀ fading r y, b.closing = .take 0 fading → k.ramp = none → c.head ≠ i →
          let result := resultAt k.due z.itemA.aired
          let released := put d.holds z.itemA.cart (d.holds.get z.itemA.cart - 1)
          headPlayable released r y → d.period e = d.headRestarted (put c.ring i (returned z result)) released
            (d.out ++ [e.ringItem (z.start.getD e.pos) b.breakNo i z.itemA result k.underruns,
              e.breakEnd b.breakNo .endTake e.pos (BitVec.ofNat 32 b.ran)]) r y)))

/-- R64: a window prepared at O - 8, or at the first output period past it where a re-base passes over it (the model's choice,
log 48), with a ring item or by a fill choice, and opened at O, the record of a left FALLBACK after its own
and a fill item cut (the order of the three records is the model's choice, log 25); an entry that came to the head while the fill
choice waited is loaded at O, and starts at the period after loading (R52) when it does. R66: its closing fade, which begins
at P with C' at P plus F where C - F is past (log 53, the model's choice), its end at C', and R69. A deck that becomes IDLE has its
other fields cleared at once (log 49, the model's choice). -/
def Obligations.WindowOpensAndCloses : Prop :=
  (∀ (e : Env) (d : Desk) (h : HeldWindow),
    let c := d.ch
    c.held = some h → c.plan = none → c.split = none → c.brk = none → c.window = none → c.timer = none → e.live = true →
    (h.stage = .waiting → c.state = .pass → e.broken c.settings = false → atOrAfter e.pos (h.opens - 8) = true →
      e.pos ≠ h.opens → c.deckA.state = .idle → c.deckA.item = none → c.onlyA → c.lastRing = none →
      let z := c.ring.get c.head
      let k := z.itemA.cart
      (z.owner = .loader →
        let called := ({ d with ch := { c with
          held := some { h with stage := .call }, fill := { c.fill with wait := false } } } : Desk).chooseFill e .named
        d.period e = if called.ch.fill.wait = true then called
          else { called with ch := { called.ch with held := some { h with stage := .fill } } }) ∧
      (∀ r y, z.owner = .channel → k ≠ 0 → z.itemA.result = .none → (e.catalog.get k).state = .ready → d.holds.get k < 255 →
        (e.catalog.get k).run = some r → (e.catalog.get k).size = some y → d.period e = { d with
          holds := put d.holds k (d.holds.get k + 1)
          ch := { c with
            held := some { h with stage := .ring }, head := z.successor c.head, lastRing := some ⟨c.head, .a⟩
            ring := put c.ring c.head { z with itemA := { z.itemA with held := true } }, fill := { c.fill with wait := false }
            stamp := c.stamp + 1
            deckA := { Deck.reset with
              state := .priming, item := some (.ring ⟨c.head, .a⟩), cart := k, load := c.deckA.load + 1, read := c.deckA.read
              allowanceUsed := c.deckA.allowanceUsed, due := y.length, order := c.stamp, mode := .named
              source := some { bank := r.bank, firstUnit := r.first, length := y.length, segueOut := y.segueOut } } } })) ∧
    (e.pos = h.opens → c.state = .pass ∨ c.state = .fallback → (∀ k, h.closes = some k → atOrAfter e.pos
        (k - BitVec.ofNat 32 c.settings.fade) = false) → (c.ring.get c.head).owner = .loader → c.fill.wait = false →
      d.noneEnds →
      let open' : Channel := { c with
        state := .loc, held := none, window := some { opens := h.opens, closes := h.closes, ends := none }
        stamp := c.stamp + 1, lastStart := c.stamp }
      let records : List Record :=
        e.noted .windowStart h.opens :: if c.state = .fallback then [e.noted .fallbackEnd e.pos] else []
      (∀ i, h.stage = .ring → c.deckA.item = some (.ring ⟨i, .a⟩) → c.deckA.waiting = true → c.lastRing = some ⟨i, .a⟩ →
        (c.ring.get i).itemB.cart = 0 → (c.ring.get i).start = none →
        let ring := put c.ring i { c.ring.get i with start := some e.pos }
        (c.onlyA → d.period e = ({ d with
          ch := { open' with deckA := begunDeck c c.deckA, ring := ring }, out := d.out ++ records } : Desk).chooseFill e
            .following) ∧
        (∀ slot q, c.deckB.item = some (.fill slot) → c.deckB.sounding = true → c.deckB.ramp = none → c.deckB.fillStart = some q →
          d.period e = ({
            ch := { open' with deckA := begunDeck c c.deckA, deckB := freedDeck c.deckB, ring := ring }
            holds := put d.holds c.deckB.cart (d.holds.get c.deckB.cart - 1)
            out := d.out ++ records ++ [e.fillItem none slot q c.deckB] } : Desk).chooseFill e .following)) ∧
      (∀ slot, h.stage = .fill → c.lastRing = none → c.deckA.item = some (.fill slot) → c.deckA.waiting = true → c.onlyA →
        d.period e = ({ d with ch := { open' with deckA := begunFill e c c.deckA }, out := d.out ++ records } : Desk).chooseFill e
          .following)) ∧
    (∀ r y, e.pos = h.opens → c.state = .pass ∨ c.state = .fallback → (∀ k, h.closes = some k → atOrAfter e.pos
        (k - BitVec.ofNat 32 c.settings.fade) = false) → h.stage = .call → c.fill.wait = true → c.lastRing = none →
      c.deckA.state = .idle → c.deckA.item = none → c.onlyA →
      let z := c.ring.get c.head
      let k := z.itemA.cart
      z.owner = .channel → k ≠ 0 → z.itemA.result = .none → z.itemB.cart = 0 → (c.ring.get (z.successor c.head)).owner = .loader →
      (e.catalog.get k).state = .ready → d.holds.get k < 255 → (e.catalog.get k).run = some r → (e.catalog.get k).size = some y →
      d.period e = ({
        holds := put d.holds k (d.holds.get k + 1)
        ch := { c with
          state := .loc, held := none, window := some { opens := h.opens, closes := h.closes, ends := none }
          head := z.successor c.head, lastRing := some ⟨c.head, .a⟩, fill := { c.fill with wait := false }
          ring := put c.ring c.head { z with itemA := { z.itemA with held := true } }
          stamp := c.stamp + 1
          deckA := { Deck.reset with
            state := .priming, item := some (.ring ⟨c.head, .a⟩), cart := k, load := c.deckA.load + 1, read := c.deckA.read
            allowanceUsed := c.deckA.allowanceUsed, due := y.length, order := c.stamp, mode := .named
            source := some { bank := r.bank, firstUnit := r.first, length := y.length, segueOut := y.segueOut } } }
        out := d.out ++ e.noted .windowStart h.opens ::
          (if c.state = .fallback then [e.noted .fallbackEnd e.pos] else []) } : Desk).chooseFill e .following)) ∧
  (∀ (e : Env) (d : Desk) (w : WindowCtx),
    let c := d.ch
    let f := BitVec.ofNat 32 c.settings.fade
    c.state = .loc → c.window = some w → c.held = none → c.plan = none → c.split = none → c.brk = none → c.lastRing = none →
    c.timer = none → e.live = true → c.deckA.sounding = true →
    (∀ k, w.ends = none → w.closes = some k → atOrAfter e.pos (k - f) = true → d.noneEnds →
      let point := if e.pos = k - f then k else e.pos + f
      let fading : Channel := { c with
        window := some { w with ends := some point }, deckA := closedDeck c.settings.fade c.deckA }
      (c.onlyA → d.period e = { d with ch := { fading with fill := { c.fill with wait := false } } }) ∧
      (∀ slot, c.deckB.item = some (.fill slot) → c.deckB.waiting = true →
        let k := c.deckB
        d.period e = { d with
          holds := put d.holds k.cart (d.holds.get k.cart - 1)
          ch := { fading with
            deckB := freedDeck k
            fill := { c.fill with wait := false, cursor := if k.rangeMark = true then c.fill.cursor else slot } } })) ∧
    (∀ slot q, w.ends = some e.pos → c.deckA.item = some (.fill slot) → c.deckA.ramp = none → c.deckA.fillStart = some q →
      c.onlyA → d.period e = Desk.goesOn e
        { ch := { c with deckA := freedDeck c.deckA }
          holds := put d.holds c.deckA.cart (d.holds.get c.deckA.cart - 1)
          out := d.out ++ [e.fillItem none slot q c.deckA, e.noted .windowEnd e.pos] }))

/-- R52 in a free-length break with its first item sounding on deck A and the next waiting on deck B: a cut follows the release, an
overlap or a fade starts at the segue-out, the fade with its ramp (R110). R43, R183: the release of an item that emitted its last
frame. R68: the release of a fill item after its exit fade. R67: a fill item ends in LOCAL while a candidate waits and the head is
CHANNEL-owned: that one entry's item is loaded and starts in this very period, where R52 alone would have it start at the next
(log 45), and the rest is loaded after it started. R39, R181, R182, R185: the frame a deck gives up, an item that began on a deck
not READY being silent for one frame whatever its buffer holds (log 44). A deck that becomes IDLE has its
other fields cleared at once (log 49, the model's choice). -/
def Obligations.ItemStartsAndReleases : Prop :=
  (∀ (e : Env) (d : Desk) (b : BreakCtx) (i j : Fin 128),
    let c := d.ch
    let a := c.deckA
    let k := c.deckB
    let x := c.ring.get i
    let z := c.ring.get j
    c.state = .brk → c.brk = some b → c.plan = none → c.held = none → c.split = none → c.window = none → c.lastRing = none →
    c.timer = none → b.start.isSome = true → b.closing = .none → b.guardPoint = none → b.entries = [i, j] → i ≠ j →
    a.item = some (.ring ⟨i, .a⟩) → k.item = some (.ring ⟨j, .a⟩) → a.sounding = true → k.waiting = true → a.order = c.lastStart →
    x.itemA.cart ≠ 0 → x.itemA.result = .none → x.itemA.held = true → x.itemB.cart = 0 →
    z.itemA.cart ≠ 0 → z.itemA.result = .none → z.itemA.held = true → z.itemB.cart = 0 → z.start = none →
    let begun : Channel := { c with
      ring := put c.ring j { z with start := some e.pos }
      deckB := begunDeck c k, stamp := c.stamp + 1, lastStart := c.stamp }
    (d.noneEnds →
      (z.segue = .cut ∨ x.itemA.aired < a.segueOut → d.period e = d) ∧
      (z.segue = .overlap → a.segueOut ≤ x.itemA.aired → d.period e = { d with ch := begun }) ∧
      (z.segue = .fade → a.segueOut ≤ x.itemA.aired →
        let g := min c.settings.fade (a.length - x.itemA.aired)
        d.period e = { d with ch := { begun with deckA := { a with
          state := .fading, ramp := some { kind := .segue, length := g, elapsed := 0 }, due := x.itemA.aired + g } } })) ∧
    (a.length ≤ x.itemA.aired → a.due ≤ x.itemA.aired → d.period e =
      { ch := { begun with
          brk := some { b with entries := [j] }, deckA := freedDeck a
          ring := put (put c.ring i (returned x .aired)) j { z with start := some e.pos } }
        holds := put d.holds x.itemA.cart (d.holds.get x.itemA.cart - 1)
        out := d.out ++ [e.ringItem (x.start.getD e.pos) b.breakNo i x.itemA .aired a.underruns] })) ∧
  (∀ (e : Env) (d : Desk) (r : Ramp) (slot : Fin 16) (q : FrameNo),
    let c := d.ch
    let k := c.deckA
    c.state = .pass → c.free → c.quiet → c.onlyA → e.broken c.settings = false → k.item = some (.fill slot) →
    k.sounding = true → k.ramp = some r → r.kind = .exit → r.length ≤ r.elapsed → k.fillStart = some q →
    d.period e =
      { ch := { c with deckA := freedDeck k }
        holds := put d.holds k.cart (d.holds.get k.cart - 1)
        out := d.out ++ [e.fillItem none slot q k] }) ∧
  (∀ (e : Env) (d : Desk) (w : WindowCtx) (slot next : Fin 16) (q : FrameNo) (r : Run) (y : CartLength),
    let c := d.ch
    let a := c.deckA
    let b := c.deckB
    let i := c.head
    let z := c.ring.get i
    let k := z.itemA.cart
    c.state = .loc → c.window = some w → w.ends = none →
    (∀ x, w.closes = some x → atOrAfter e.pos (x - BitVec.ofNat 32 c.settings.fade) = false) →
    c.held = none → c.plan = none → c.split = none → c.brk = none → c.timer = none → d.pendingB = none →
    a.item = some (.fill slot) → a.sounding = true → a.ramp = none → a.fillStart = some q → a.length ≤ a.fillAired →
    b.item = some (.fill next) → b.waiting = true → z.owner = .channel → k ≠ 0 → z.itemA.result = .none → z.start = none →
    let ended := put d.holds a.cart (d.holds.get a.cart - 1)
    let freed := put ended b.cart (ended.get b.cart - 1)
    (e.catalog.get k).state = .ready → freed.get k < 255 → (e.catalog.get k).run = some r → (e.catalog.get k).size = some y →
    d.period e = ({
      holds := put freed k (freed.get k + 1)
      ch := { c with
        head := z.successor i, lastRing := some ⟨i, .a⟩
        ring := put c.ring i { z with itemA := { z.itemA with held := true }, start := some e.pos }
        fill := { c.fill with wait := false, cursor := if b.rangeMark = true then c.fill.cursor else next }
        stamp := c.stamp + 2, lastStart := c.stamp + 1
        deckA := { Deck.reset with
          state := .playing, item := some (.ring ⟨i, .a⟩), cart := k, load := a.load + 1, read := a.read
          allowanceUsed := a.allowanceUsed, due := y.length, order := c.stamp + 1, mode := .named, unready := true
          source := some { bank := r.bank, firstUnit := r.first, length := y.length, segueOut := y.segueOut } }
        deckB := freedDeck b }
      out := d.out ++ [e.fillItem none slot q a] } : Desk).serviceLocal e false) ∧
  (∀ k : Deck,
    let ran (r : Ramp) : Ramp := { r with elapsed := r.elapsed + 1 }
    let on (x : Deck) : Deck := { x with ramp := k.ramp.map ran, closing := k.closing.map ran, unready := false }
    (k.sounding = false → k.source? = [] ∧ k.emitted = k) ∧
    (k.sounding = true → k.unready = true ∨ k.buffer = [] → k.source? = [] ∧ k.emitted = on { k with
      underruns := if k.underruns < 0xFFFFFFFF then k.underruns + 1 else k.underruns, consecutive := k.consecutive + 1 }) ∧
    (∀ f rest, k.sounding = true → k.unready = false → k.buffer = f :: rest → k.source? = [(k.gain, f)] ∧
      k.emitted = on { k with
        buffer := rest, consecutive := 0, fillAired := if k.fillItem.isSome = true then k.fillAired + 1 else k.fillAired })) ∧
  (∀ (d : Desk) (id : DeckId) (r : ItemRef),
    let k := d.ch.deck id
    let x := d.ch.ring.get r.index
    k.item = some (.ring r) → k.sounding = true → k.unready = false → k.buffer ≠ [] →
    let c : Channel := { d.ch with
      ring := put d.ch.ring r.index (x.setItem r.part { x.item r.part with aired := (x.item r.part).aired + 1 }) }
    d.emitDeck id = { d with ch := c.setDeck id k.emitted })

/-! ### Running order rings -/

/-- R26 to R30: the successor of an entry, the entries of a gathered break, where the walk ends and the head after it. -/
def Obligations.WalkOrder : Prop :=
  (∀ (x : Entry) (i : Fin 128),
    (x.chained = true → ∀ j, x.chainTo = some j → x.successor i = j) ∧
    (x.chained = false → x.endOfRing = true → x.successor i = 0) ∧
    (x.chained = false → x.endOfRing = false → (x.successor i).val = (i.val + 1) % 128)) ∧
  (∀ (ring : Vector Entry 128) (head : Fin 128),
    let g := walk ring 32 [] head
    1 ≤ g.entries.length ∧ g.entries.length ≤ 32 ∧ g.entries.Nodup ∧ g.entries.head? = some head ∧
    (∀ i x y, g.entries[i]? = some x → g.entries[i + 1]? = some y →
      (ring.get x).last = false ∧ y = (ring.get x).successor x ∧ (ring.get y).owner = .channel) ∧
    ∃ z, g.entries.getLast? = some z ∧
      let next := (ring.get z).successor z
      g.head = next ∧
      ((ring.get z).last = true → g.gap = none) ∧
      ((ring.get z).last = false →
        (g.entries.length = 32 ∨ next ∈ g.entries → g.gap = some (.limit, next)) ∧
        (g.entries.length < 32 → next ∉ g.entries → g.gap = some (.gap, next) ∧ (ring.get next).owner = .loader)))

/-- R33 and R34: RO_WRITE. -/
def Obligations.RoWriteRequest : Prop :=
  ∀ (s : State) (a : Address) (tag : BitVec 16) (channel index : Byte) (breakNo : BreakNo) (flags segue : Byte)
      (itemA second : BitVec 16), s.reached a →
    let request : Instr := .roWrite a tag channel index breakNo flags segue itemA second
    (4 ≤ channel.toNat ∨ 128 ≤ index.toNat → exec request s = .next (s.answer tag 0x0004 .badField)) ∧
    (∀ (n : Fin 4) (i : Fin 128), channel.toNat = n.val → index.toNat = i.val →
      let chained := flags.getLsbD 3
      let good := segue.toNat ≤ 2 ∧ itemA.toNat ≤ 1023 ∧
        (if chained then second.toNat ≤ 127 ∧ itemA ≠ 0 else second.toNat ≤ 1023 ∧ (itemA ≠ 0 ∨ second ≠ 0))
      (((s.channels.get n).ring.get i).owner = .channel → exec request s = .next (s.answer tag 0x0004 .owned)) ∧
      (((s.channels.get n).ring.get i).owner = .loader → ¬ good → exec request s = .next (s.answer tag 0x0004 .badField)) ∧
      (((s.channels.get n).ring.get i).owner = .loader → good →
        let item (cart : BitVec 16) : Item :=
          { cart := Fin.ofNat 1024 cart.toNat, result := .none, provisional := false, aired := 0, held := false }
        let x : Entry :=
          { owner := .channel, breakNo := breakNo, first := flags.getLsbD 0, last := flags.getLsbD 1,
            endOfRing := flags.getLsbD 2, chained := chained, droppable := flags.getLsbD 4,
            segue := if segue = 0 then .cut else if segue = 1 then .overlap else .fade,
            itemA := item itemA, itemB := if chained then item 0 else item second,
            chainTo := if chained then some (Fin.ofNat 128 second.toNat) else none, start := none }
        exec request s = .next ((s.withChannel n { s.channels.get n with ring := put (s.channels.get n).ring i x }).answer
          tag 0x0004 .done)))

/-- R25 and R35: RO_REVOKE; R36 and R37: RO_READ and RO_HEAD. -/
def Obligations.RingRequests : Prop :=
  (∀ (s : State) (a : Address) (tag : BitVec 16) (channel index : Byte), s.reached a →
     let request : Instr := .roRevoke a tag channel index
     (4 ≤ channel.toNat ∨ 128 ≤ index.toNat → exec request s = .next (s.answer tag 0x0005 .badField)) ∧
     (∀ (n : Fin 4) (i : Fin 128), channel.toNat = n.val → index.toNat = i.val →
       let c := s.channels.get n
       let x := c.ring.get i
       let revoked (m : Item) : Item :=
         if m.cart ≠ 0 ∧ m.result = .none then { m with result := .revoked, provisional := false } else m
       let inUse := (∃ p, c.plan = some p ∧ ∃ y ∈ p.items, y.ref.index = i) ∨ (∃ p, c.split = some p ∧ ∃ y ∈ p.items, y.ref.index = i) ∨
         (∃ b, c.brk = some b ∧ i ∈ b.entries) ∨
         (∃ k r, (k = c.deckA ∨ k = c.deckB) ∧ k.item = some (.ring r) ∧ r.index = i)
       (x.owner = .loader → exec request s = .next (s.answer tag 0x0005 .state)) ∧
       (x.owner = .channel → inUse → exec request s = .next (s.answer tag 0x0005 .held)) ∧
       (x.owner = .channel → ¬ inUse →
         let y : Entry := { x with owner := .loader, itemA := revoked x.itemA, itemB := revoked x.itemB }
         exec request s = .next ((s.withChannel n { c with ring := put c.ring i y }).answer
           tag 0x0005 .done)))) ∧
  (∀ (s : State) (a : Address) (tag : BitVec 16) (channel index : Byte), s.reached a →
     (4 ≤ channel.toNat ∨ 128 ≤ index.toNat →
       exec (.roRead a tag channel index) s = .next (s.answer tag 0x0006 .badField) ∧
       exec (.roHead a tag channel index) s = .next (s.answer tag 0x0007 .badField)) ∧
     (∀ (n : Fin 4) (i : Fin 128), channel.toNat = n.val → index.toNat = i.val →
       exec (.roRead a tag channel index) s =
         .next (s.answer tag 0x0006 .done (.ringEntry ((s.channels.get n).ring.get i) (s.channels.get n).head)) ∧
       ((s.channels.get n).state ≠ .bypass → exec (.roHead a tag channel index) s = .next (s.answer tag 0x0007 .state)) ∧
       ((s.channels.get n).state = .bypass → exec (.roHead a tag channel index) s =
         .next ((s.withChannel n { s.channels.get n with head := i }).answer tag 0x0007 .done))))

/-! ### Channels -/

/-- R46 and R47: CHANNEL_MODE. In BYPASS a channel holds no plan and no window (ContextLaw), which its clauses assume; that mode 1 of
the row CHANNEL_MODE_IN_SERVICE acts as CHANNEL_MODE_BYPASS is the model's choice (log 11). R56:
TIMER_SET, T judged against 0 from the first lock until the next output period by log 20. -/
def Obligations.ChannelModeAndTimer : Prop :=
  (∀ (s : State) (a : Address) (tag : BitVec 16) (channel mode : Byte), s.reached a →
     (4 ≤ channel.toNat ∨ 2 ≤ mode.toNat →
       exec (.channelModeInService a tag channel mode) s = .next (s.answer tag 0x0008 .badField)) ∧
     (4 ≤ channel.toNat → exec (.channelModeBypass a tag channel) s = .next (s.answer tag 0x0008 .badField)) ∧
     exec (.channelModeInService a tag channel 1) s = exec (.channelModeBypass a tag channel) s ∧
     (∀ n : Fin 4, channel.toNat = n.val →
       let c := s.channels.get n
       let moved (x : ChannelState) : Channel := { c with state := x, fill := { c.fill with wait := false } }
       let may := c.state = .pass ∧ c.free ∧ c.deckA.sounding = false ∧ c.deckB.sounding = false
       (s.store.scan.done = false →
         exec (.channelModeInService a tag channel 0) s = .next (s.answer tag 0x0008 .scanning)) ∧
       (s.store.scan.done = true → c.state ≠ .bypass →
         exec (.channelModeInService a tag channel 0) s = .next (s.answer tag 0x0008 .state)) ∧
       (s.store.scan.done = true → c.state = .bypass → c.free →
         exec (.channelModeInService a tag channel 0) s = .next ((s.withChannel n (moved .pass)).answer tag 0x0008 .done)) ∧
       (may → exec (.channelModeBypass a tag channel) s = .next ((s.withChannel n (moved .bypass)).answer tag 0x0008 .done)) ∧
       (¬ may → exec (.channelModeBypass a tag channel) s = .next (s.answer tag 0x0008 .state)))) ∧
  (∀ (s : State) (a : Address) (tag : BitVec 16) (channel mode : Byte) (target : FrameNo) (period : BitVec 32), s.reached a →
     let request : Instr := .timerSet a tag channel mode target period
     (4 ≤ channel.toNat ∨ 2 ≤ mode.toNat ∨ (mode = 1 ∧ 21600000 < period.toNat) →
       exec request s = .next (s.answer tag 0x000B .badField)) ∧
     (∀ n : Fin 4, channel.toNat = n.val →
       let set (t : Option Timer) := (s.withChannel n { s.channels.get n with timer := t }).answer tag 0x000B .done
       (mode = 0 → exec request s = .next (set none)) ∧
       (mode = 1 → period.toNat ≤ 21600000 →
         (isAfter target (s.time.position.getD 0) = true →
           exec request s = .next (set (some { target := target, period := period.toNat }))) ∧
         (isAfter target (s.time.position.getD 0) = false → exec request s = .next (s.answer tag 0x000B .range)))))

/-- R48, and R49 for the points computed from F and from the overrun guard. -/
def Obligations.ChannelSetRequest : Prop :=
  ∀ (s : State) (a : Address) (tag : BitVec 16) (channel source policy fade pad : Byte) (guard : BitVec 32)
      (fallback mode : Byte), s.reached a →
    let request : Instr := .channelSet a tag channel source policy fade pad guard fallback mode
    let bad := 4 ≤ channel.toNat ∨ 4 ≤ source.toNat ∨ 2 ≤ policy.toNat ∨ fade.toNat < 4 ∨ 64 < fade.toNat ∨ 250 < pad.toNat ∨
      (guard ≠ 0 ∧ (guard.toNat < 250 ∨ 75000 < guard.toNat)) ∨ 2 ≤ fallback.toNat ∨ 2 ≤ mode.toNat
    let x : Settings :=
      { source := if source = 0 then .cue else if source = 1 then .line else if source = 2 then .timer else .command,
        policy := if policy = 0 then .passNetwork else .fill, fade := fade.toNat, pad := pad.toNat, guard := guard.toNat,
        silenceFallback := decide (fallback = 1), fillMode := if mode = 0 then .onePass else .rotate }
    (bad → exec request s = .next (s.answer tag 0x0009 .badField)) ∧
    (¬ bad → ∀ n : Fin 4, channel.toNat = n.val →
      let c := s.channels.get n
      (x.source ≠ c.settings.source → c.state ≠ .bypass → exec request s = .next (s.answer tag 0x0009 .state)) ∧
      (x.source = c.settings.source ∨ c.state = .bypass →
        let f := BitVec.ofNat 32 fade.toNat
        let refaded (y : Split) : Split := if y.phase = .closing then y else { y with fadeStart := match y.rejoin with
          | some r => r - f
          | none => if isBefore (y.stop - f) y.start then y.start else y.stop - f }
        let guarded (y : BreakCtx) : BreakCtx := if y.closing = .none then
          { y with guardPoint := if guard = 0 then none else y.start.map (· + guard) } else y
        exec request s = .next ((s.withChannel n { c with
          settings := x, split := c.split.map refaded, brk := c.brk.map guarded }).answer tag 0x0009 .done)))

/-- R50: the channel after a clear, in any state. In BYPASS with both decks IDLE every CHANNEL entry returns to the hub with CLEARED
for its open items, and neither a record nor a release is made. In a BREAK of three entries the sounding item is ABORTED, the waiting
one and the one not yet loaded CLEARED, each with its record and its release; in FALLBACK beside an armed plan the sounding fill item
is ABORTED, the fill candidate and the planned item CLEARED, its provisional result dropped. No entry then is CHANNEL-owned. The
premise on the other entries of the ring is what R24 and R25 say of waiting entries. A deck that becomes IDLE has its
other fields cleared at once (log 49, the model's choice). -/
def Obligations.ChannelClearRequest : Prop :=
  (∀ (s : State) (a : Address) (tag : BitVec 16) (channel : Byte), s.reached a →
     (4 ≤ channel.toNat → exec (.channelClear a tag channel) s = .next (s.answer tag 0x000A .badField)) ∧
     (∀ n : Fin 4, channel.toNat = n.val →
       let c := s.channels.get n
       ∃ t, exec (.channelClear a tag channel) s = .next t ∧
         t = { s with channels := t.channels, store := { s.store with holds := t.store.holds }, log := t.log,
                      ret := s.ret.enqueue (reply tag 0x000A .done) } ∧
         (∀ m, m ≠ n → t.channels.get m = s.channels.get m) ∧
         (t.channels.get n).decksIdle ∧
         t.channels.get n = { c with
           state := .bypass, plan := none, pending := none, lastTaken := none, held := none, split := none, brk := none,
           window := none, lastRing := none, timer := none, fill := { c.fill with wait := false }
           ring := (t.channels.get n).ring, deckA := (t.channels.get n).deckA, deckB := (t.channels.get n).deckB })) ∧
  (∀ (s : State) (a : Address) (tag : BitVec 16) (channel : Byte) (n : Fin 4), s.reached a → channel.toNat = n.val →
     let c := s.channels.get n
     let e := s.env n
     let openItem (m : Item) : Prop := m.cart ≠ 0 ∧ m.result = .none
     let settled (m : Item) : Prop := m.held = false ∧ m.provisional = false
     let waits (x : Entry) : Prop := (openItem x.itemA ∨ openItem x.itemB) ∧ settled x.itemA ∧ settled x.itemB
     let cleared (m : Item) : Item := if m.cart ≠ 0 ∧ m.result = .none then { m with result := .cleared } else m
     let swept (x : Entry) : Entry := if x.owner = .channel then
       { x with owner := .loader, itemA := cleared x.itemA, itemB := cleared x.itemB } else x
     let taken (i : Fin 128) : Prop :=
       let x := c.ring.get i
       x.owner = .channel ∧ x.itemA.cart ≠ 0 ∧ x.itemB.cart = 0 ∧ x.itemA.held = true
     let released (h : Vector Nat 1024) (k : Fin 1024) := put h k (h.get k - 1)
     (c.state = .bypass → c.free → c.decksIdle → c.split = none → c.brk = none →
       (∀ i, (c.ring.get i).owner = .channel → waits (c.ring.get i)) →
       ∃ t, exec (.channelClear a tag channel) s = .next t ∧ t.log = s.log ∧ t.store = s.store ∧
         (t.channels.get n).deckA = c.deckA ∧ (t.channels.get n).deckB = c.deckB ∧
         ∀ i, (t.channels.get n).ring.get i = swept (c.ring.get i)) ∧
     (∀ b i j m q, c.state = .brk → c.brk = some b → b.entries = [i, j, m] → i ≠ j → i ≠ m → j ≠ m → c.free → c.split = none →
       taken i → taken j → taken m → (∀ l, l = i ∨ l = j ∨ l = m → openItem (c.ring.get l).itemA) →
       c.deckA.item = some (.ring ⟨i, .a⟩) → c.deckA.sounding = true → (c.ring.get i).start = some q →
       c.deckB.item = some (.ring ⟨j, .a⟩) → c.deckB.waiting = true →
       (∀ l, l ≠ i → l ≠ j → l ≠ m → (c.ring.get l).owner = .channel → waits (c.ring.get l)) →
       let item (l : Fin 128) := (c.ring.get l).itemA
       ∃ t, exec (.channelClear a tag channel) s = .next t ∧
         t.log = s.log.appendAll [e.ringItem q b.breakNo i (item i) .aborted c.deckA.underruns,
           e.ringItem e.pos b.breakNo j (item j) .cleared c.deckB.underruns, e.ringItem e.pos b.breakNo m (item m) .cleared 0] ∧
         t.store.holds = released (released (released s.store.holds (item i).cart) (item j).cart) (item m).cart ∧
         (t.channels.get n).deckA = freedDeck c.deckA ∧ (t.channels.get n).deckB = freedDeck c.deckB ∧
         ∀ l, (t.channels.get n).ring.get l = if l = i then returned (c.ring.get l) .aborted
           else if l = j ∨ l = m then returned (c.ring.get l) .cleared else swept (c.ring.get l)) ∧
     (∀ p x slot other q, c.state = .fallback → c.plan = some p → p.items = [x] → x.ref.part = .a → c.held = none →
       c.split = none → c.brk = none → taken x.ref.index → (c.ring.get x.ref.index).itemA.provisional = true →
       (c.ring.get x.ref.index).itemA.result ≠ .none →
       c.deckA.item = some (.fill slot) → c.deckA.sounding = true → c.deckA.fillStart = some q →
       c.deckB.item = some (.fill other) → c.deckB.waiting = true → c.deckB.fillStart = none →
       (∀ l, l ≠ x.ref.index → (c.ring.get l).owner = .channel → waits (c.ring.get l)) →
       let item := (c.ring.get x.ref.index).itemA
       let filled (r : Record) (result : Result) : Record := { r with reason := some (.result result) }
       ∃ t, exec (.channelClear a tag channel) s = .next t ∧
         t.log = s.log.appendAll [filled (e.fillItem none slot q c.deckA) .aborted,
           filled (e.fillItem none other e.pos c.deckB) .cleared, e.ringItem e.pos p.breakNo x.ref.index item .cleared 0] ∧
         t.store.holds = released (released (released s.store.holds c.deckA.cart) c.deckB.cart) item.cart ∧
         (t.channels.get n).deckA = freedDeck c.deckA ∧ (t.channels.get n).deckB = freedDeck c.deckB ∧
         ∀ l, (t.channels.get n).ring.get l =
           if l = x.ref.index then returned (c.ring.get l) .cleared else swept (c.ring.get l)))

/-- R58: the answers of TAKE that change nothing else; R59 for a break of one entry with one playable item, from PASS or FALLBACK on
any deck that the channel can give, while a fill item that sounds plays on: TAKE starts it; and R62 at the event of a TAKE hard in
BREAK: the sounding item fades over F output periods, what has not sounded is CUT_OFF, the records in order of succession by the
model's choice (log 25), and in a break that has not sounded nothing fades. A deck that becomes IDLE has its other fields cleared at
once (log 49, the model's choice). -/
def Obligations.TakeRequest : Prop :=
  (∀ (s : State) (a : Address) (tag : BitVec 16) (channel hard : Byte), s.reached a →
     let refused (code : ResultCode) : Prop := exec (.take a tag channel hard) s = .next (s.answer tag 0x000C code)
     (4 ≤ channel.toNat → refused .badField) ∧
     (∀ n : Fin 4, channel.toNat = n.val →
       let c := s.channels.get n
       let isBreak := (c.ring.get c.head).owner = .channel ∧ (c.ring.get c.head).first = true
       (c.settings.source ≠ .command → refused .wrongSource) ∧
       (c.settings.source = .command →
         (c.state = .bypass ∨ c.state = .split ∨ c.state = .loc → refused .state) ∧
         (c.state = .pass ∨ c.state = .fallback → ¬ c.free → refused .busy) ∧
         (c.state = .pass ∨ c.state = .fallback → c.free → ¬ isBreak → refused .empty) ∧
         (c.state = .brk →
           (hard = 0 → refused .busy) ∧ (2 ≤ hard.toNat → refused .badField) ∧
           (∀ b, c.brk = some b → hard = 1 →
             (b.closing = .guard ∨ (∃ left, b.closing = .take left true) → refused .busy) ∧
             (b.closing = .none → ¬ isBreak → refused .empty)))))) ∧
  (∀ (s : State) (a : Address) (tag : BitVec 16) (channel hard : Byte) (n : Fin 4), s.reached a → channel.toNat = n.val →
     let c := s.channels.get n
     let k := (c.ring.get c.head).itemA.cart
     c.settings.source = .command → c.state = .pass ∨ c.state = .fallback → c.free → c.split = none →
     ∀ r z id d holds, s.headPlayable n r z → c.givesDeck (put s.store.holds k (s.store.holds.get k + 1)) id d holds →
       exec (.take a tag channel hard) s = .next ((s.headBreakBegun n id d holds r z).answer tag 0x000C .done)) ∧
  (∀ (s : State) (a : Address) (tag : BitVec 16) (channel : Byte) (n : Fin 4) (b : BreakCtx), s.reached a →
     channel.toNat = n.val →
     let c := s.channels.get n
     let e := s.env n
     let item (i : Fin 128) := (c.ring.get i).itemA
     let taken (i : Fin 128) : Prop := (c.ring.get i).owner = .channel ∧ (item i).cart ≠ 0 ∧ (c.ring.get i).itemB.cart = 0 ∧
       (item i).held = true ∧ (item i).result = .none
     let released (h : Vector Nat 1024) (k : Fin 1024) := put h k (h.get k - 1)
     let cut (i : Fin 128) (underruns : Nat) : Record := e.ringItem e.pos b.breakNo i (item i) .cutOff underruns
     let after (x : Channel) (records : List Record) (holds : Vector Nat 1024) : State :=
       ({ s.withChannel n x with
         store := { s.store with holds := holds }, log := s.log.appendAll records } : State).answer tag 0x000C .done
     c.settings.source = .command → c.state = .brk → c.brk = some b → b.closing = .none → c.split = none → c.lastRing = none →
     (c.ring.get c.head).owner = .channel → (c.ring.get c.head).first = true →
     (∀ i j m, b.start.isSome = true → b.entries = [i, j, m] → i ≠ j → i ≠ m → j ≠ m → taken i → taken j → taken m →
       c.deckA.item = some (.ring ⟨i, .a⟩) → c.deckA.sounding = true →
       c.deckB.item = some (.ring ⟨j, .a⟩) → c.deckB.waiting = true →
       exec (.take a tag channel 1) s = .next (after
         { c with
           ring := put (put c.ring j (returned (c.ring.get j) .cutOff)) m (returned (c.ring.get m) .cutOff)
           deckA := closedDeck c.settings.fade c.deckA, deckB := freedDeck c.deckB
           brk := some { b with entries := [i], closing := .take c.settings.fade true } }
         [cut j c.deckB.underruns, cut m 0] (released (released s.store.holds (item j).cart) (item m).cart))) ∧
     (∀ i j, b.start = none → b.entries = [i, j] → i ≠ j → taken i → taken j →
       c.deckA.item = some (.ring ⟨i, .a⟩) → c.deckA.waiting = true → c.deckB.ringItem = none →
       exec (.take a tag channel 1) s = .next (after
         { c with
           ring := put (put c.ring i (returned (c.ring.get i) .cutOff)) j (returned (c.ring.get j) .cutOff)
           deckA := freedDeck c.deckA, brk := some { b with entries := [], closing := .take 0 false } }
         [cut i c.deckA.underruns, cut j 0] (released (released s.store.holds (item i).cart) (item j).cart))))

/-- R99 and R100: the fill requests, where no choice waits; and R104 in FALLBACK with a choice that waits and both decks free: a
slot set that holds the only cart, or a range that begins at it, gives an opening candidate; where no slot is granted the wait
stays. In a split in phase FILL the first choice has been made, as `ContextLaw` says. -/
def Obligations.FillRequests : Prop :=
  (∀ (s : State) (a : Address) (tag : BitVec 16) (channel slot stop : Byte) (cart : BitVec 16), s.reached a →
     (4 ≤ channel.toNat ∨ 16 ≤ slot.toNat ∨ 1024 ≤ cart.toNat →
       exec (.fillSet a tag channel slot cart) s = .next (s.answer tag 0x000D .badField)) ∧
     (4 ≤ channel.toNat ∨ 16 ≤ slot.toNat ∨ 16 ≤ stop.toNat →
       exec (.fillRange a tag channel slot stop) s = .next (s.answer tag 0x000E .badField)) ∧
     (∀ (n : Fin 4) (i : Fin 16), channel.toNat = n.val → slot.toNat = i.val →
       let c := s.channels.get n
       c.fill.wait = false →
       (∀ k : Fin 1024, cart.toNat = k.val → exec (.fillSet a tag channel slot cart) s =
         .next ((s.withChannel n { c with fill := { c.fill with slots := put c.fill.slots i k } }).answer tag 0x000D .done)) ∧
       (∀ j : Fin 16, stop.toNat = j.val →
         let mark (k : Deck) : Deck := if k.fillItem.isSome then { k with rangeMark := true } else k
         let ranged : Channel := { c with
           fill := { c.fill with start := i, stop := j, cursor := i }, deckA := mark c.deckA, deckB := mark c.deckB }
         (c.state = .bypass ∨ (c.state = .pass ∧ c.free) → c.split = none → exec (.fillRange a tag channel slot stop) s =
           .next ((s.withChannel n ranged).answer tag 0x000E .done)) ∧
         (∀ x, c.state = .split → c.split = some x → c.settings.fillMode = .onePass →
           (x.phase = .fill ∧ x.wantFill = false) ∨ (x.phase = .items ∧
             ((s.desk n).nextPlanned x.items = none ∨ (c.deckA.fillItem = none ∧ c.deckB.fillItem = none))) →
           c.deckA.state ≠ .idle → c.deckB.state ≠ .idle → exec (.fillRange a tag channel slot stop) s =
             .next ((s.withChannel n { ranged with split := some { x with pass := i, exhausted := false } }).answer tag 0x000E
               .done))))) ∧
  (∀ (s : State) (a : Address) (tag : BitVec 16) (channel slot stop : Byte) (cart : BitVec 16) (n : Fin 4) (i j : Fin 16)
      (k : Fin 1024), s.reached a → channel.toNat = n.val → slot.toNat = i.val → stop.toNat = j.val → cart.toNat = k.val →
     let c := s.channels.get n
     let slots := put c.fill.slots i k
     let granted (m : Fin 1024) := m ≠ 0 ∧ (s.store.catalog.get m).state = .ready ∧ s.store.holds.get m < 255
     let candidate (order : Nat) (d : Deck) (r : Run) (z : CartLength) : Deck := { Deck.reset with
       state := .priming, item := some (.fill i), cart := k, load := d.load + 1, read := d.read, allowanceUsed := d.allowanceUsed
       source := some { bank := r.bank, firstUnit := r.first, length := z.length, segueOut := z.segueOut }
       due := z.length, order := order, mode := .whenReady }
     let loaded (t : FillTable) (r : Run) (z : CartLength) : State := { s.withChannel n { c with
         fill := t, deckA := candidate c.stamp c.deckA r z, stamp := c.stamp + 1 } with
       store := { s.store with holds := put s.store.holds k (s.store.holds.get k + 1) } }
     c.state = .fallback → c.free → c.split = none → c.fill.wait = true → c.deckA.state = .idle → c.deckB.state = .idle →
     c.deckB.item = none →
     ((∀ m, m ≠ i → c.fill.slots.get m = 0) → i - c.fill.start ≤ c.fill.stop - c.fill.start → granted k →
       ∀ r z, (s.store.catalog.get k).run = some r → (s.store.catalog.get k).size = some z →
       exec (.fillSet a tag channel slot cart) s = .next ((loaded { c.fill with
         slots := slots, cursor := if i = c.fill.stop then c.fill.start else i + 1, wait := false } r z).answer tag 0x000D
           .done)) ∧
     (c.fill.slots.get i = k → (∀ m, m ≠ i → c.fill.slots.get m = 0) → granted k →
       ∀ r z, (s.store.catalog.get k).run = some r → (s.store.catalog.get k).size = some z →
       exec (.fillRange a tag channel slot stop) s = .next ((loaded { c.fill with
         start := i, stop := j, cursor := if i = j then i else i + 1, wait := false } r z).answer tag 0x000E .done)) ∧
     ((∀ m, ¬ granted (slots.get m)) → exec (.fillSet a tag channel slot cart) s =
       .next ((s.withChannel n { c with fill := { c.fill with slots := slots } }).answer tag 0x000D .done)))

/-- R98, R101, R102, R105: the slots that a choice scans, the choice made and failed, and a candidate given up. In a ONE_PASS split
the scan runs from the pass position to the end slot, without wrap; in any other case it is one full pass from the cursor. A deck
that becomes IDLE has its other fields cleared at once (log 49, the model's choice). R81 and R103: a plan with no included item
calls for one fill choice at its priming; once it is made, and for a held window too, no other is made before S or O. -/
def Obligations.FillChoice : Prop :=
  (∀ (t : FillTable) (p : Fin 16),
    (∀ x, x ∈ t.fullPass ↔ x - t.start ≤ t.stop - t.start) ∧ t.fullPass.Nodup ∧
    (∀ i x y, t.fullPass[i]? = some x → t.fullPass[i + 1]? = some y → y = if x = t.stop then t.start else x + 1) ∧
    (t.cursor - t.start ≤ t.stop - t.start → t.fullPass.head? = some t.cursor) ∧
    (p - t.start ≤ t.stop - t.start →
      (t.passFrom p).head? = some p ∧ (t.passFrom p).getLast? = some t.stop ∧
      ∀ i x y, (t.passFrom p)[i]? = some x → (t.passFrom p)[i + 1]? = some y → x ≠ t.stop ∧ y = x + 1)) ∧
  (∀ (e : Env) (d : Desk) (mode : StartMode) (id : DeckId) (scan : List (Fin 16)),
    let c := d.ch
    let onePass := c.settings.fillMode = .onePass
    let granted (s : Fin 16) := c.fill.slots.get s ≠ 0 ∧ (e.catalog.get (c.fill.slots.get s)).state = .ready ∧
      d.holds.get (c.fill.slots.get s) < 255
    let marked (s : Fin 16) (x : Split) : Split := { x with
      pass := if s = c.fill.stop then c.fill.start else s + 1, exhausted := decide (s = c.fill.stop) }
    (if c.deckA.state = .idle then id = .a else c.deckB.state = .idle ∧ id = .b) →
    c.deckA.candidate = false → c.deckB.candidate = false →
    (∀ x, c.split = some x → onePass → x.exhausted = true → d.chooseFill e mode = d) ∧
    ((c.split = none ∧ c.plan = none ∧ scan = c.fill.fullPass) ∨ (c.split.isSome = true ∧ ¬ onePass ∧ scan = c.fill.fullPass) ∨
        (∃ x, c.split = some x ∧ onePass ∧ x.exhausted = false ∧ scan = c.fill.passFrom x.pass) →
      ((∀ s ∈ scan, ¬ granted s) →
        d.chooseFill e mode = { d with ch := { c with fill := { c.fill with wait := true } } }) ∧
      (∀ before s rest, scan = before ++ s :: rest → (∀ x ∈ before, ¬ granted x) → granted s →
        let k := c.fill.slots.get s
        ∀ r z, (e.catalog.get k).run = some r → (e.catalog.get k).size = some z →
        d.chooseFill e mode = { d with
          holds := put d.holds k (d.holds.get k + 1)
          ch := ({ c with
            fill := { c.fill with cursor := if s = c.fill.stop then c.fill.start else s + 1, wait := false }
            split := if onePass then c.split.map (marked s) else c.split
            stamp := c.stamp + 1 } : Channel).setDeck id { Deck.reset with
              state := .priming, item := some (.fill s), cart := k, load := (d.deck id).load + 1, read := (d.deck id).read
              allowanceUsed := (d.deck id).allowanceUsed
              source := some { bank := r.bank, firstUnit := r.first, length := z.length, segueOut := z.segueOut }
              due := z.length, order := c.stamp, mode := mode } }))) ∧
  (∀ (d : Desk) (id : DeckId) (slot : Fin 16),
    let k := d.deck id
    let idle : Deck := { Deck.reset with load := k.load, read := k.read, allowanceUsed := k.allowanceUsed }
    let freed : Desk := { d with ch := d.ch.setDeck id idle, holds := put d.holds k.cart (d.holds.get k.cart - 1) }
    k.item = some (.fill slot) →
    (k.rangeMark = true → d.giveUp id = freed) ∧
    (k.rangeMark = false → d.giveUp id = { freed with ch := { freed.ch with
      fill := { d.ch.fill with cursor := slot }
      split := if d.ch.settings.fillMode = .onePass then
        d.ch.split.map (fun x => ({ x with pass := slot, exhausted := false } : Split)) else d.ch.split } })) ∧
  (∀ (e : Env) (d : Desk),
    let c := d.ch
    (∀ p, c.plan = some p → p.primed = false → (∀ x ∈ p.items, x.inclusion ≠ .included) → c.settings.pad < p.length.toNat →
      atOrAfter e.pos (p.start - 8) = true → c.split = none → c.deckA.state = .idle → c.deckB.candidate = false →
      let called := ({ d with ch := { c with
        plan := some { p with primed := true, wantFill := true }, fill := { c.fill with wait := false } } } : Desk).chooseFill e
          .named
      d.planPrimes e = if called.ch.fill.wait = true then called
        else { called with ch := { called.ch with
          plan := some { p with primed := true, wantFill := false }
          held := c.held.map (fun h => (if h.stage = .call then { h with stage := .fill } else h : HeldWindow)) } }) ∧
    (c.state = .pass ∨ c.state = .fallback →
      (∀ p, c.plan = some p → p.primed = true → p.wantFill = false → (∀ x ∈ p.items, x.inclusion ≠ .included) →
        d.service e = d) ∧
      (∀ h, c.plan = none → c.held = some h → h.stage = .fill → d.service e = d)))

/-- R55: FIRE edges, the falls of a line that waits or is spent being the model's choice (log 4) and the stages those of log 6. R57: the
timer expires once and stands after P, taken as a command (log 3). A break of one entry with one playable item, in PASS or
FALLBACK on any deck that the channel can give, while a fill item that sounds plays on, is started by an edge under source LINE and
by an expiry under source TIMER (R59). A candidate's deck that is taken has its other fields cleared at once (log 49, the model's
choice). -/
def Obligations.LineAndTimerTriggers : Prop :=
  (∀ (s : State) (n : Fin 4),
     let c := s.channels.get n
     let line (x : Line) : State := { s with lines := { s.lines with fire := put s.lines.fire n x } }
     let ignored (reason : Reason) (ring : Option (Fin 128 × Option Part)) : State :=
       { line .spent with log := s.log.append { sequence := 0, kind := .triggerIgnored, position := s.time.position.getD 0,
                                                channel := some n, reason := some reason, ring := ring } }
     (s.lines.fire.get n = .high → exec (.fireEdge n .falls) s = .next (line .waiting)) ∧
     (s.lines.fire.get n ≠ .high → exec (.fireEdge n .falls) s = .next s) ∧
     (s.lines.fire.get n ≠ .waiting → exec (.fireEdge n .heldLow) s = .next s) ∧
     (s.lines.fire.get n = .waiting →
       (c.settings.source ≠ .line ∨ c.state = .bypass → exec (.fireEdge n .heldLow) s = .next (line .spent)) ∧
       (c.settings.source = .line → c.state = .split ∨ c.state = .brk ∨ c.state = .loc ∨
           ((c.state = .pass ∨ c.state = .fallback) ∧ ¬ c.free) →
         exec (.fireEdge n .heldLow) s = .next (ignored .busy none)) ∧
       (c.settings.source = .line → c.state = .pass ∨ c.state = .fallback → c.free →
         (c.ring.get c.head).owner = .loader ∨ (c.ring.get c.head).first = false →
         exec (.fireEdge n .heldLow) s = .next (ignored .empty (some (c.head, none))))) ∧
     exec (.fireLineReturnHigh n) s = .next (line .high)) ∧
  (∀ (s : State) (n : Fin 4) (p : FrameNo) (t : Timer),
     let c := s.channels.get n
     let set (x : Option Timer) : State := s.withChannel n { c with timer := x }
     s.time.position = some p → c.timer = some t →
     (atOrAfter p t.target = false → exec (.scheduleTimerExpiry n) s = .next s) ∧
     (atOrAfter p t.target = true → c.settings.source ≠ .timer →
       (t.period = 0 → exec (.scheduleTimerExpiry n) s = .next (set none)) ∧
       (0 < t.period → t.period ≤ 21600000 → ∃ k : Nat, 1 ≤ k ∧
         (p - t.target).toNat < k * t.period ∧ (k - 1) * t.period ≤ (p - t.target).toNat ∧
         exec (.scheduleTimerExpiry n) s = .next (set (some { t with target := t.target + BitVec.ofNat 32 (k * t.period) }))))) ∧
  (∀ (s : State) (n : Fin 4),
    let c := s.channels.get n
    let x := c.ring.get c.head
    let k := x.itemA.cart
    let isBreak := x.owner = .channel ∧ x.first = true
    let startable := (c.state = .pass ∨ c.state = .fallback) ∧ c.free ∧ c.split = none
    let held := put s.store.holds k (s.store.holds.get k + 1)
    (s.lines.fire.get n = .waiting → c.settings.source = .line → startable →
      ∀ r z id d holds, s.headPlayable n r z → c.givesDeck held id d holds → exec (.fireEdge n .heldLow) s =
        .next (({ s with lines := { s.lines with fire := put s.lines.fire n .spent } } : State).headBreakBegun n id d holds r z)) ∧
    (∀ p t', s.time.position = some p → c.timer = some t' → atOrAfter p t'.target = true → c.settings.source = .timer →
      ∃ u : Option Timer,
        let expired : State := s.withChannel n { c with timer := u }
        let ignored (reason : Reason) (ring : Option (Fin 128 × Option Part)) : State :=
          { expired with log := s.log.append { sequence := 0, kind := .triggerIgnored, position := p, channel := some n,
                                               reason := some reason, ring := ring } }
        (t'.period = 0 → u = none) ∧
        (0 < t'.period → t'.period ≤ 21600000 → ∃ k : Nat, 1 ≤ k ∧ (p - t'.target).toNat < k * t'.period ∧
          (k - 1) * t'.period ≤ (p - t'.target).toNat ∧
          u = some { t' with target := t'.target + BitVec.ofNat 32 (k * t'.period) }) ∧
        (c.state = .bypass → exec (.scheduleTimerExpiry n) s = .next expired) ∧
        (c.state = .split ∨ c.state = .brk ∨ c.state = .loc ∨ ((c.state = .pass ∨ c.state = .fallback) ∧ ¬ c.free) →
          exec (.scheduleTimerExpiry n) s = .next (ignored .busy none)) ∧
        (c.state = .pass ∨ c.state = .fallback → c.free → ¬ isBreak →
          exec (.scheduleTimerExpiry n) s = .next (ignored .empty (some (c.head, none)))) ∧
        (startable → ∀ r z id d holds, s.headPlayable n r z → ({ c with timer := u } : Channel).givesDeck held id d holds →
          exec (.scheduleTimerExpiry n) s = .next (expired.headBreakBegun n id d holds r z))))

/-- R182 and R180 for a fill item fading over the network after a fallback exit, and for the one ring item of a free-length break: at
25 consecutive underruns, or at the fourth failed attempt of a read, it is given up with MEDIA_FAULT (both rows taken as commands:
log 3). The fill candidate of a primed plan without items, or of a prepared window, is given up so without another being chosen
before S or O (R103). An included item of an armed plan receives it as a provisional result: no record, its hold kept, what comes next in the
plan loaded. A deck that becomes IDLE has its other fields cleared at once (log 49, the model's choice). -/
def Obligations.DeckItemGivenUp : Prop :=
  (∀ (s : State) (n : Fin 4) (slot : Fin 16),
     let c := s.channels.get n
     let k := c.deckA
     c.state = .pass → c.free → c.split = none → c.window = none → k.item = some (.fill slot) → k.state = .fading →
     (k.consecutive < 25 → exec (.deckUnderrunAbandon n .a) s = .next s) ∧
     (25 ≤ k.consecutive → exec (.deckUnderrunAbandon n .a) s = .next { s.withChannel n { c with deckA := freedDeck k } with
       store := { s.store with holds := put s.store.holds k.cart (s.store.holds.get k.cart - 1) }
       log := s.log.append { sequence := 0, kind := .item, position := k.fillStart.getD (s.time.position.getD 0),
                             channel := some n, fillSlot := some slot, cart := some k.cart,
                             reason := some (.result .mediaFault), frames := some (BitVec.ofNat 32 k.fillAired),
                             detail := some (BitVec.ofNat 32 k.underruns) } })) ∧
  (∀ (s : State) (n : Fin 4) (b : Fin 4) (page : Nat) (load : BitVec 32) (allowance : Bool) (slot : Fin 16),
     let c := s.channels.get n
     let k := c.deckA
     s.arbiter.port = some (.deckRead n .a b page load allowance) → k.load = load → k.retries = 3 →
     c.state = .pass → c.free → c.split = none → c.window = none → k.item = some (.fill slot) → k.state = .fading →
     exec .readRetriesExhausted s = .next { s.withChannel n { c with deckA := failedDeck k allowance } with
       arbiter := { s.arbiter with port := none, banks := put s.arbiter.banks b none }
       store := { s.store with holds := put s.store.holds k.cart (s.store.holds.get k.cart - 1) }
       log := s.log.append { sequence := 0, kind := .item, position := k.fillStart.getD (s.time.position.getD 0),
                             channel := some n, fillSlot := some slot, cart := some k.cart,
                             reason := some (.result .mediaFault), frames := some (BitVec.ofNat 32 k.fillAired),
                             detail := some (BitVec.ofNat 32 k.underruns) } }) ∧
  (∀ (s : State) (n : Fin 4) (x : BreakCtx) (i : Fin 128),
     let c := s.channels.get n
     let k := c.deckA
     let z := c.ring.get i
     let p := s.time.position.getD 0
     c.state = .brk → c.brk = some x → x.entries = [i] → c.plan = none → c.split = none → c.lastRing = none →
     k.item = some (.ring ⟨i, .a⟩) → z.itemA.cart ≠ 0 → z.itemA.result = .none → z.itemA.held = true → z.itemB.cart = 0 →
     let given (deckA : Deck) (position : FrameNo) : State :=
       { s.withChannel n { c with
           ring := put c.ring i (returned z .mediaFault), brk := some { x with entries := [] }, deckA := deckA } with
         store := { s.store with holds := put s.store.holds z.itemA.cart (s.store.holds.get z.itemA.cart - 1) }
         log := s.log.append ((s.env n).ringItem position x.breakNo i z.itemA .mediaFault k.underruns) }
     (k.sounding = true → 25 ≤ k.consecutive →
       exec (.deckUnderrunAbandon n .a) s = .next (given (freedDeck k) (z.start.getD p))) ∧
     (∀ (b : Fin 4) (page : Nat) (load : BitVec 32) (allowance : Bool),
       s.arbiter.port = some (.deckRead n .a b page load allowance) → k.load = load → k.retries = 3 →
       k.sounding = true ∨ k.waiting = true →
       exec .readRetriesExhausted s = .next { given (failedDeck k allowance) (if k.sounding = true then z.start.getD p else p) with
         arbiter := { s.arbiter with port := none, banks := put s.arbiter.banks b none } })) ∧
  (∀ (s : State) (n : Fin 4) (p : Plan) (r : ItemRef) (b : Fin 4) (page : Nat) (load : BitVec 32) (allowance : Bool),
     let c := s.channels.get n
     let k := c.deckA
     let z := c.ring.get r.index
     c.state = .pass ∨ c.state = .fallback → c.plan = some p → p.primed = true → r ∈ p.items.map (·.ref) →
     k.item = some (.ring r) → k.waiting = true →
     s.arbiter.port = some (.deckRead n .a b page load allowance) → k.load = load → k.retries = 3 →
     let given : State := { s.withChannel n { c with
         ring := put c.ring r.index (z.setItem r.part { z.item r.part with result := .mediaFault, provisional := true })
         deckA := failedDeck k allowance } with
       arbiter := { s.arbiter with port := none, banks := put s.arbiter.banks b none } }
     exec .readRetriesExhausted s = .next (given.onChannel n (fun e d => d.servicePlan e p)) ∧
     (∀ x, p.items = [x] → x.inclusion = .included → exec .readRetriesExhausted s = .next given)) ∧
  (∀ (s : State) (n : Fin 4) (b : Fin 4) (page : Nat) (load : BitVec 32) (allowance : Bool) (slot : Fin 16),
     let c := s.channels.get n
     let k := c.deckA
     s.arbiter.port = some (.deckRead n .a b page load allowance) → k.load = load → k.retries = 3 →
     c.state = .pass ∨ c.state = .fallback → c.split = none → k.item = some (.fill slot) → k.waiting = true → k.fillStart = none →
     (∃ h, c.plan = none ∧ c.held = some h ∧ h.stage = .fill) ∨
       (∃ p, c.plan = some p ∧ p.primed = true ∧ p.wantFill = false ∧ ∀ x ∈ p.items, x.inclusion ≠ .included) →
     exec .readRetriesExhausted s = .next { s.withChannel n { c with deckA := failedDeck k allowance } with
       arbiter := { s.arbiter with port := none, banks := put s.arbiter.banks b none }
       store := { s.store with holds := put s.store.holds k.cart (s.store.holds.get k.cart - 1) }
       log := s.log.append { sequence := 0, kind := .item, position := s.time.position.getD 0, channel := some n
                             fillSlot := some slot, cart := some k.cart, reason := some (.result .mediaFault)
                             frames := some (BitVec.ofNat 32 k.fillAired), detail := some (BitVec.ofNat 32 k.underruns) } })

/-! ### Cues -/

/-- A CUE_IGNORED record of channel n. -/
def Sys2Proof.Machine.ignoredCue (s : State) (n : Fin 4) (reason : Reason) (number : Option BreakNo)
    (detail : Option FrameNo) : Record :=
  { sequence := 0, kind := .cueIgnored, position := s.time.position.getD 0, channel := some n, breakNo := number,
    reason := some reason, detail := detail }

/-- R54, R71 to R76: an announce judged on one channel where it is ignored, stored, clipped, or unplanned by a head that is no
break, a later one, or a missed one of one entry that is skipped first. -/
def Obligations.AnnounceJudged : Prop :=
  ∀ (s : State) (a : Address) (n : Fin 4) (b : BreakNo) (start length : FrameNo), s.reachesOnly a n →
    let c := s.channels.get n
    let cue : Instr := .splitAnnounce a b start length
    let stop := start + length
    let early := s.time.position.getD 0 + 8
    let ignored (reason : Reason) : State := { s with log := s.log.append (ignoredCue s n reason (some b) (some start)) }
    let fresh := (∀ p, c.plan = some p → p.breakNo ≠ b) ∧ (∀ x, c.split = some x → x.breakNo ≠ b) ∧
      (∀ x, c.pending = some x → x.breakNo ≠ b) ∧ c.lastTaken ≠ some b
    (length = 0 ∨ 2 ^ 31 ≤ length.toNat → exec cue s = .next { s with intake := { s.intake with linkErrors :=
      if s.intake.linkErrors < 0xFFFFFFFF then s.intake.linkErrors + 1 else s.intake.linkErrors } }) ∧
    (length ≠ 0 → length.toNat < 2 ^ 31 →
      (c.state = .bypass → exec cue s = .next s) ∧
      (c.state ≠ .bypass → c.settings.source ≠ .cue → exec cue s = .next (ignored .cueSource)) ∧
      (c.state ≠ .bypass → c.settings.source = .cue →
        (¬ fresh → exec cue s = .next s) ∧
        (fresh → c.state = .loc ∨ c.state = .brk ∨ c.held.isSome = true → exec cue s = .next (ignored .cueState)) ∧
        (fresh → c.held = none →
          (∀ p, c.state = .pass ∨ c.state = .fallback → c.split = none → c.plan = some p →
            (atOrAfter start p.stop = true → c.pending = none → exec cue s = .next (s.withChannel n { c with
              pending := some { breakNo := b, start := start, length := length } })) ∧
            (atOrAfter start p.stop = false ∨ c.pending.isSome = true → exec cue s = .next (ignored .cueConflict))) ∧
          (∀ x, c.state = .split → c.split = some x →
            (atOrAfter start x.stop = true → c.pending = none → exec cue s = .next (s.withChannel n { c with
              pending := some { breakNo := b, start := start, length := length } })) ∧
            (atOrAfter start x.stop = false ∨ c.pending.isSome = true → exec cue s = .next (ignored .cueConflict))) ∧
          (c.state = .pass ∨ c.state = .fallback → c.split = none → c.plan = none →
            let clipped := if isBefore start early then early else start
            let left := stop - clipped
            let unplanned (head : Fin 128) : Record :=
              { sequence := 0, kind := .splitUnplanned, position := clipped, channel := some n, breakNo := some b
                ring := some (head, none), reason := some (.policy c.settings.policy), frames := some left }
            let noBreak := (c.ring.get c.head).owner = .loader ∨ (c.ring.get c.head).first = false ∨
              (isBefore (c.ring.get c.head).breakNo b = false ∧ (c.ring.get c.head).breakNo ≠ b)
            (isAfter stop early = false → exec cue s = .next (ignored .cueLate)) ∧
            (isAfter stop early = true → left.toNat < 2 * c.settings.fade → exec cue s = .next (ignored .cueShort)) ∧
            (isAfter stop early = true → 2 * c.settings.fade ≤ left.toNat → noBreak →
              (c.settings.policy = .passNetwork →
                exec cue s = .next { s.withChannel n { c with lastTaken := some b } with
                  log := s.log.append (unplanned c.head) }) ∧
              (c.settings.policy = .fill →
                let plan (primed : Bool) : Plan :=
                  { breakNo := b, start := clipped, stop := stop, length := left, items := [], planned := 0, primed := primed
                    wantFill := false }
                (atOrAfter (s.time.position.getD 0) (clipped - 8) = false →
                  exec cue s = .next { s.withChannel n { c with plan := some (plan false) } with
                    log := s.log.append (unplanned c.head) }) ∧
                (atOrAfter (s.time.position.getD 0) (clipped - 8) = true → left.toNat ≤ c.settings.pad →
                  exec cue s = .next { s.withChannel n { c with
                      plan := some (plan true), fill := { c.fill with wait := false } } with
                    log := s.log.append (unplanned c.head) }))) ∧
            (isAfter stop early = true → 2 * c.settings.fade ≤ left.toNat → c.settings.policy = .passNetwork →
              let x := c.ring.get c.head
              x.owner = .channel → x.first = true → x.last = true → isBefore x.breakNo b = true → x.itemA.cart ≠ 0 →
              x.itemA.result = .none → x.itemA.held = false → x.itemB.cart = 0 → c.brk = none → c.lastRing = none →
              (c.ring.get (x.successor c.head)).owner = .loader →
              exec cue s = .next { s.withChannel n { c with
                  head := x.successor c.head, lastTaken := some b
                  ring := put c.ring c.head { x with
                    owner := .loader, itemA := { x.itemA with result := .skipped, provisional := false } } } with
                log := (s.log.append { sequence := 0, kind := .item, position := s.time.position.getD 0, channel := some n,
                                       breakNo := some x.breakNo, ring := some (c.head, some .a), cart := some x.itemA.cart
                                       reason := some (.result .skipped), frames := some (BitVec.ofNat 32 x.itemA.aired)
                                       detail := some 0 }).append (unplanned (x.successor c.head)) })))))

/-- R75, R77 to R79: an announce that matches a break of one entry with one READY item that fits: a plan is armed. R74 and R81: a
start frame less than 8 after P, or 8 after it, gives S at P plus 8, and the plan is primed at once, its item loaded onto an IDLE
deck. -/
def Obligations.AnnouncePlansTheHeadBreak : Prop :=
  ∀ (s : State) (a : Address) (n : Fin 4) (b : BreakNo) (start length : FrameNo) (z : CartLength), s.reachesOnly a n →
    let c := s.channels.get n
    let x := c.ring.get c.head
    let k := x.itemA.cart
    let early := s.time.position.getD 0 + 8
    let stop := start + length
    length ≠ 0 → length.toNat < 2 ^ 31 → c.state = .pass → c.settings.source = .cue → c.free → c.split = none →
    c.pending = none → c.lastTaken ≠ some b → isAfter stop early = true →
    x.owner = .channel → x.first = true → x.last = true → x.breakNo = b → k ≠ 0 →
    x.itemA.result = .none → x.itemB.cart = 0 → (s.store.catalog.get k).state = .ready → s.store.holds.get k < 255 →
    (s.store.catalog.get k).size = some z →
    let plan (first : FrameNo) (primed : Bool) : Plan :=
      { breakNo := b, start := first, stop := stop, length := stop - first,
        items := [{ ref := ⟨c.head, .a⟩, cart := k, inclusion := .included, segue := .cut, offset := 0, length := z.length,
                    segueOut := z.segueOut }],
        planned := z.length, primed := primed, wantFill := false }
    let planned (y : Channel) (p : Plan) : State :=
      { s.withChannel n { y with
          head := x.successor c.head
          plan := some p
          ring := put c.ring c.head { x with itemA := { x.itemA with held := true } } } with
        store := { s.store with holds := put s.store.holds k (s.store.holds.get k + 1) } }
    (isAfter start early = true → atOrAfter (s.time.position.getD 0) (start - 8) = false → 2 * c.settings.fade ≤ length.toNat →
      z.length ≤ length.toNat → exec (.splitAnnounce a b start length) s = .next (planned c (plan start false))) ∧
    (∀ r, start = early ∨ isBefore start early = true → 2 * c.settings.fade ≤ (stop - early).toNat →
      z.length ≤ (stop - early).toNat → (s.store.catalog.get k).run = some r →
      c.deckA.state = .idle → c.deckA.item = none → c.deckB.ringItem = none →
      exec (.splitAnnounce a b start length) s = .next (planned { c with
        fill := { c.fill with wait := false }, stamp := c.stamp + 1
        deckA := loadedDeck c.deckA (.ring ⟨c.head, .a⟩) k r z c.stamp } (plan early true)))

/-- R91 to R94: SPLIT_CANCEL on an armed plan of one item, on a pending announce, on a split that airs, and on nothing. R73 and R92: a
pending announce beside the plan is judged afresh after its records: as a repeat, as late, or as an unplanned split under policy
FILL. A deck that becomes IDLE has its other fields cleared at once (log 49, the model's choice). -/
def Obligations.CancelJudged : Prop :=
  ∀ (s : State) (a : Address) (n : Fin 4) (b : BreakNo) (k : FrameNo), s.reachesOnly a n →
    let c := s.channels.get n
    let cue : Instr := .splitCancel a b k
    (c.state = .bypass → exec cue s = .next s) ∧
    (c.state ≠ .bypass → (∀ p, c.plan = some p → p.breakNo ≠ b) →
      (∀ x, c.split = some x → x.breakNo = b → x.phase ≠ .closing →
        let soonest := s.time.nextPosition.getD 0 + BitVec.ofNat 32 c.settings.fade
        let rejoin := if isAfter k soonest then k else soonest
        let earlier := ∀ r, x.rejoin = some r → isBefore rejoin r = true
        (atOrAfter rejoin x.stop = false → earlier → exec cue s = .next (s.withChannel n { c with split := some { x with
          rejoin := some rejoin, fadeStart := rejoin - BitVec.ofNat 32 c.settings.fade } })) ∧
        (atOrAfter rejoin x.stop = true ∨ ¬ earlier → exec cue s = .next s)) ∧
      (∀ x, c.split = some x → x.breakNo = b → x.phase = .closing → exec cue s = .next s) ∧
      ((∀ x, c.split = some x → x.breakNo ≠ b) →
        (∀ p, c.pending = some p → p.breakNo = b → exec cue s = .next { s.withChannel n { c with pending := none } with
          log := s.log.append { sequence := 0, kind := .splitCancelled, position := s.time.position.getD 0, channel := some n,
                                breakNo := some b, detail := some k } }) ∧
        ((∀ p, c.pending = some p → p.breakNo ≠ b) →
          exec cue s = .next { s with log := s.log.append (ignoredCue s n .cueState (some b) (some k)) }))) ∧
    (∀ p x, c.state = .pass → c.plan = some p → p.breakNo = b → p.items = [x] → x.inclusion = .included →
      c.held = none → c.split = none → c.brk = none → c.lastRing = none → c.deckB.item = none →
      x.ref.part = .a → (c.ring.get x.ref.index).itemB.cart = 0 →
      let y := c.ring.get x.ref.index
      let cancelled (m : Nat) : Log := (s.log.append { sequence := 0, kind := .item, position := s.time.position.getD 0
                                                       channel := some n, breakNo := some b, ring := some (x.ref.index, some .a)
                                                       cart := some y.itemA.cart, reason := some (.result .cancelled)
                                                       frames := some (BitVec.ofNat 32 y.itemA.aired)
                                                       detail := some (BitVec.ofNat 32 m) }).append
        { sequence := 0, kind := .splitCancelled, position := s.time.position.getD 0, channel := some n, breakNo := some b
          detail := some k }
      let dropped (deck : Deck) : Channel := { c with
        plan := none, pending := none, lastTaken := some b, deckA := deck
        ring := put c.ring x.ref.index { y with
          owner := .loader, itemA := { y.itemA with result := .cancelled, provisional := false, held := false } } }
      let released := { s.store with holds := put s.store.holds y.itemA.cart (s.store.holds.get y.itemA.cart - 1) }
      let settled (deck : Deck) (m : Nat) : State := { s.withChannel n (dropped deck) with store := released, log := cancelled m }
      y.itemA.held = true → ∀ deck m,
      (c.deckA.item = some (.ring x.ref) ∧ c.deckA.waiting = true ∧ deck = freedDeck c.deckA ∧ m = c.deckA.underruns) ∨
        (c.deckA.item = none ∧ deck = c.deckA ∧ m = 0) →
      (c.pending = none → exec cue s = .next (settled deck m)) ∧
      (∀ w, c.pending = some w →
        let early := s.time.position.getD 0 + 8
        let stop := w.start + w.length
        let start := if isBefore w.start early then early else w.start
        let left := stop - start
        (w.breakNo = b → exec cue s = .next (settled deck m)) ∧
        (w.breakNo ≠ b →
          (isAfter stop early = false → exec cue s = .next { settled deck m with
            log := (cancelled m).append (ignoredCue s n .cueLate (some w.breakNo) (some w.start)) }) ∧
          (isAfter stop early = true → 2 * c.settings.fade ≤ left.toNat → c.settings.policy = .fill →
            (c.ring.get c.head).owner = .loader → atOrAfter (s.time.position.getD 0) (start - 8) = false →
            exec cue s = .next { (settled deck m).withChannel n { dropped deck with
                plan := some { breakNo := w.breakNo, start := start, stop := stop, length := left, items := [], planned := 0
                               primed := false, wantFill := false } } with
              log := (cancelled m).append { sequence := 0, kind := .splitUnplanned, position := start, channel := some n
                                            breakNo := some w.breakNo, ring := some (c.head, none)
                                            reason := some (.policy .fill), frames := some left } }))))

/-- R63 and R65: the window cues. A CUE_IGNORED for a close that meets neither a held nor an open window carries no detail (log 38);
a close during the closing fade is compared with the close as carried (log 37). A deck that becomes IDLE has its
other fields cleared at once (log 49, the model's choice). -/
def Obligations.WindowCuesJudged : Prop :=
  ∀ (s : State) (a : Address) (n : Fin 4) (o k : FrameNo) (close : Option FrameNo), s.reachesOnly a n →
    let c := s.channels.get n
    let p := s.time.position.getD 0
    let least := o + BitVec.ofNat 32 (2 * c.settings.fade)
    let ignored (reason : Reason) (detail : Option FrameNo) : State :=
      { s with log := s.log.append (ignoredCue s n reason none detail) }
    (c.state = .bypass → exec (.windowOpen a o close) s = .next s ∧ exec (.windowClose a k) s = .next s) ∧
    (∀ h, c.held = some h → h.opens = o → exec (.windowOpen a o close) s = .next s) ∧
    (∀ w, c.window = some w → w.opens = o → exec (.windowOpen a o close) s = .next s) ∧
    ((∀ h, c.held = some h → h.opens ≠ o) → (∀ w, c.window = some w → w.opens ≠ o) → c.state ≠ .bypass →
      c.state = .split ∨ c.state = .brk ∨ c.state = .loc ∨ c.plan.isSome = true ∨ c.held.isSome = true →
      exec (.windowOpen a o close) s = .next (ignored .cueState (some o))) ∧
    (c.window = none → c.state = .pass ∨ c.state = .fallback → c.free →
      (isAfter o p = false → exec (.windowOpen a o close) s = .next (ignored .cueLate (some o))) ∧
      (isAfter o p = true → ∀ x, close = some x → isAfter x least = false →
        exec (.windowOpen a o close) s = .next (ignored .cueShort (some o))) ∧
      (isAfter o p = true → (∀ x, close = some x → isAfter x least = true) → atOrAfter p (o - 8) = false →
        exec (.windowOpen a o close) s = .next (s.withChannel n { c with
          held := some { opens := o, closes := close, stage := .waiting }, lastRing := none })) ∧
      exec (.windowClose a k) s = .next (ignored .cueState none)) ∧
    (c.state = .split ∨ c.state = .brk → c.held = none → exec (.windowClose a k) s = .next (ignored .cueState none)) ∧
    (∀ h, c.state = .pass ∨ c.state = .fallback → c.held = some h →
      isAfter k (h.opens + BitVec.ofNat 32 (2 * c.settings.fade)) = true →
      exec (.windowClose a k) s = .next (s.withChannel n { c with held := some { h with closes := some k } })) ∧
    (∀ h, c.state = .pass → c.held = some h → isAfter k (h.opens + BitVec.ofNat 32 (2 * c.settings.fade)) = false →
      (h.stage = .waiting → c.plan = none → exec (.windowClose a k) s = .next { s.withChannel n { c with
        held := none, lastRing := none } with log := (ignored .cueShort (some h.opens)).log }) ∧
      (∀ r, h.stage = .ring → c.plan = none → c.deckA.item = some (.ring r) → c.deckA.waiting = true → c.deckB.state = .idle →
        r.part = .a → (c.ring.get r.index).itemA.held = true →
        let y := c.ring.get r.index
        exec (.windowClose a k) s = .next { s.withChannel n { c with
            held := none, lastRing := none, head := r.index, fill := { c.fill with wait := false }
            ring := put c.ring r.index { y with itemA := { y.itemA with held := false } }
            deckA := { Deck.reset with load := c.deckA.load, read := c.deckA.read, allowanceUsed := c.deckA.allowanceUsed } } with
          store := { s.store with holds := put s.store.holds y.itemA.cart (s.store.holds.get y.itemA.cart - 1) }
          log := (ignored .cueShort (some h.opens)).log })) ∧
    (∀ w, c.state = .loc → c.window = some w →
      (w.ends = none → exec (.windowClose a k) s = .next (s.withChannel n { c with window := some { w with closes := some k } })) ∧
      (w.ends.isSome = true → w.closes = some k → exec (.windowClose a k) s = .next s) ∧
      (w.ends.isSome = true → w.closes ≠ some k → exec (.windowClose a k) s = .next (ignored .cueState (some w.opens))))

/-- R78: the placing of a plan's items; R79: the planned length; R80: included droppable items are dropped one at a time, the
latest first, while the planned length exceeds L, and the items still included are placed anew. -/
def Obligations.FittedPlan : Prop :=
  (∀ (own : ItemRef → Segue) (items : List PlanItem),
    let placed := includedItems (place own none items)
    (place own none items).map (fun x => (x.ref, x.cart, x.inclusion, x.length, x.segueOut)) =
      items.map (fun x => (x.ref, x.cart, x.inclusion, x.length, x.segueOut)) ∧
    (∀ x, placed.head? = some x → x.offset = 0 ∧ x.segue = .cut) ∧
    (∀ i x y, placed[i]? = some x → placed[i + 1]? = some y → y.segue = own y.ref ∧
      y.offset = if own y.ref = .cut then x.offset + x.length else x.offset + x.segueOut)) ∧
  (∀ (f : Nat) (items : List PlanItem),
    let included := items.filter (fun x => decide (x.inclusion = .included))
    let fin (i : Nat) (x : PlanItem) : Nat := match included[i + 1]? with
      | some y => if y.segue = .fade then y.offset + min f (x.length - x.segueOut) else x.offset + x.length
      | none => x.offset + x.length
    (∀ i x, included[i]? = some x → fin i x ≤ plannedLength f items) ∧
    (included ≠ [] → ∃ i x, included[i]? = some x ∧ plannedLength f items = fin i x) ∧
    (included = [] → plannedLength f items = 0)) ∧
  (∀ (own : ItemRef → Segue) (droppable : ItemRef → Bool) (f l : Nat) (items : List PlanItem),
    let may (x : PlanItem) : Bool := decide (x.inclusion = .included) && droppable x.ref
    let dropped (m : Nat) : List PlanItem := place own none (items.zipIdx.map (fun x =>
      if may x.1 = true ∧ ((items.drop (x.2 + 1)).filter may).length < m then
        { x.1 with inclusion := .dropped, offset := 0, segue := .cut } else x.1))
    let fitted := fitPlan own droppable f l items.length (place own none items)
    (plannedLength f (place own none items) ≤ l → fitted = place own none items) ∧
    (plannedLength f fitted ≤ l ∨ ∀ x ∈ fitted, x.inclusion = .included → droppable x.ref = false) ∧
    ∃ m, fitted = dropped m ∧ (∀ j, j < m → l < plannedLength f (dropped j)) ∧
      (plannedLength f (dropped m) ≤ l ∨ m = (items.filter may).length))

/-! ### The cart store -/

/-- R135: every content page of a run of u units lies in the run, outside the header pages, and no two lie in one place. -/
def Obligations.ContentPlaces : Prop :=
  (∀ u j : Nat, 1 ≤ u → j < 63 * u - 1 →
    (contentPlace j).1 < u ∧ (if (contentPlace j).1 = 0 then 2 else 1) ≤ (contentPlace j).2 ∧ (contentPlace j).2 ≤ 63) ∧
  (∀ i j : Nat, contentPlace i = contentPlace j → i = j)

/-- R142 to R144: CART_QUERY and UNIT_QUERY; R145 and R146: CART_DELETE, with the order of its answers of log 25. -/
def Obligations.StoreRequests : Prop :=
  (∀ (s : State) (a : Address) (tag cart first : BitVec 16) (bank count : Byte), s.reached a →
     let badRange := 4 ≤ bank.toNat ∨ count.toNat < 1 ∨ 64 < count.toNat ∨ 1024 < first.toNat + count.toNat
     (cart = 0 ∨ 1024 ≤ cart.toNat → exec (.cartQuery a tag cart) s = .next (s.answer tag 0x0012 .badField)) ∧
     (badRange → exec (.unitQuery a tag bank first count) s = .next (s.answer tag 0x0013 .badField)) ∧
     (∀ c : Fin 1024, cart.toNat = c.val → c ≠ 0 →
       (s.store.scan.done = false → exec (.cartQuery a tag cart) s = .next (s.answer tag 0x0012 .scanning)) ∧
       (s.store.scan.done = true →
         ((s.store.catalog.get c).state ≠ .loading → exec (.cartQuery a tag cart) s =
           .next (s.answer tag 0x0012 .done (.cart (s.store.catalog.get c) (s.store.holds.get c) none))) ∧
         (∀ d, (s.store.catalog.get c).state = .loading → s.store.download = some d → d.cart = c →
           exec (.cartQuery a tag cart) s = .next (s.answer tag 0x0012 .done (.cart (s.store.catalog.get c) (s.store.holds.get c)
             (some { phase := d.phase, expected := d.expected, errors := d.errors, programmed := d.programmed })))))) ∧
     (¬ badRange →
       (s.store.scan.done = false → exec (.unitQuery a tag bank first count) s = .next (s.answer tag 0x0013 .scanning)) ∧
       (s.store.scan.done = true → exec (.unitQuery a tag bank first count) s =
         .next (s.answer tag 0x0013 .done (.units ((List.range count.toNat).map (fun i =>
           let u := bank.toNat * 1024 + first.toNat + i
           (UnitMap.at s.store.map u, if UnitMap.at s.store.map u = some .claimed then s.store.cartOf u else 0)))))))) ∧
  (∀ (s : State) (a : Address) (tag cart : BitVec 16), s.reached a →
     let request : Instr := .cartDelete a tag cart
     (cart = 0 ∨ 1024 ≤ cart.toNat → exec request s = .next (s.answer tag 0x0014 .badField)) ∧
     (∀ c : Fin 1024, cart.toNat = c.val → c ≠ 0 →
       let x := s.store.catalog.get c
       (s.store.scan.done = false → exec request s = .next (s.answer tag 0x0014 .scanning)) ∧
       (s.store.scan.done = true →
         (x.state = .empty → exec request s = .next (s.answer tag 0x0014 .state)) ∧
         (x.state = .ready → s.store.holds.get c ≠ 0 → exec request s = .next (s.answer tag 0x0014 .held)) ∧
         ((x.state = .ready ∧ s.store.holds.get c = 0) ∨ x.state = .torn ∨ x.state = .loading → ∃ map,
           (∀ r, x.run = some r → ∀ u, u < 4096 → UnitMap.at map u =
             if r.bank.val * 1024 + r.first ≤ u ∧ u < r.bank.val * 1024 + r.first + r.count then some .dirty
             else UnitMap.at s.store.map u) ∧
           let removed : Store := { s.store with map := map, catalog := put s.store.catalog c CatalogEntry.empty }
           (x.state ≠ .loading → exec request s = .next (({ s with store := removed } : State).answer tag 0x0014 .done)) ∧
           (∀ d, x.state = .loading → s.store.download = some d →
             (d.close = none → exec request s =
               .next (({ s with store := { removed with download := none } } : State).answer tag 0x0014 .done)) ∧
             (∀ w, d.close = some w → exec request s =
               .next ((({ s with store := { removed with download := none } } : State).answer w.tag 0x0017 .torn
                 (.close d.cart d.expected d.errors)).answer tag 0x0014 .done)))))))

/-- R147 and R149: UNIT_ERASE; R148 and R149: the completion of the erase of a unit, and the end of its job. What a failed erase
leaves in the unit is free (log 9). -/
def Obligations.EraseJobRuns : Prop :=
  (∀ (s : State) (a : Address) (tag first : BitVec 16) (bank count : Byte), s.reached a →
     let request : Instr := .unitErase a tag bank first count
     let bad := 4 ≤ bank.toNat ∨ count.toNat < 1 ∨ 64 < count.toNat ∨ 1024 < first.toNat + count.toNat
     let unit (i : Nat) : Nat := bank.toNat * 1024 + first.toNat + i
     let claimed := ∃ i, i < count.toNat ∧ UnitMap.at s.store.map (unit i) = some .claimed
     let dirty := ((List.range count.toNat).map unit).filter (fun u => decide (UnitMap.at s.store.map u = some .dirty))
     (bad → exec request s = .next (s.answer tag 0x0015 .badField)) ∧
     (¬ bad → s.store.scan.done = false → exec request s = .next (s.answer tag 0x0015 .scanning)) ∧
     (¬ bad → s.store.scan.done = true →
       (s.store.job.isSome = true → exec request s = .next (s.answer tag 0x0015 .busy)) ∧
       (s.store.job = none → claimed → exec request s = .next (s.answer tag 0x0015 .state)) ∧
       (s.store.job = none → ¬ claimed → dirty = [] →
         exec request s = .next (s.answer tag 0x0015 .done (.erase 0 0))) ∧
       (s.store.job = none → ¬ claimed → dirty ≠ [] → ∀ b : Fin 4, bank.toNat = b.val →
         exec request s = .next { s with store := { s.store with
           job := some { tag := tag, bank := b, units := dirty, inFlight := none, erased := 0, failed := 0 } } }))) ∧
  (∀ (s : State) (b : Fin 4) (unit : Nat) (j : EraseJob) (success : Bool),
     s.arbiter.banks.get b = some (.erase unit) → s.arbiter.port = none → s.store.job = some j → unit < 4096 →
     let erased := if success then j.erased + 1 else j.erased
     let failed := if success then j.failed else j.failed + 1
     let bad : Record := { sequence := 0, kind := .unitBad, position := s.time.position.getD 0, reason := some .badErase,
                           detail := some (BitVec.ofNat 32 unit) }
     ∃ map flash fresh, (∀ u, u < 4096 → UnitMap.at map u =
         if u = unit then some (if success then .erased else .bad) else UnitMap.at s.store.map u) ∧
       (success = true → ∀ p, p < 64 → Flash.read flash (unit * 64 + p) = blankPage) ∧
       (success = false → Flash.read flash (unit * 64) = .void) ∧
       (∀ p, p / 64 ≠ unit → Flash.read flash p = Flash.read s.flash p) ∧
       let after : State := { s with
         arbiter := { s.arbiter with banks := put s.arbiter.banks b none }
         flash := flash
         fresh := fresh
         log := if success then s.log else s.log.append bad }
       (j.units ≠ [] → exec (.eraseComplete b success) s = .next { after with store := { s.store with
         map := map, job := some { j with inFlight := none, erased := erased, failed := failed } } }) ∧
       (j.units = [] → exec (.eraseComplete b success) s = .next (({ after with store := { s.store with
         map := map, job := none } } : State).answer j.tag 0x0015 .done (.erase erased failed))))

/-- R157 and R158: CART_OPEN. The content page number of an EMPTY staging page is left out: the spec gives none (log 50). -/
def Obligations.CartOpenRequest : Prop :=
  ∀ (s : State) (a : Address) (tag cart first count : BitVec 16) (bank : Byte) (length segueOut : BitVec 32), s.reached a →
    let request : Instr := .cartOpen a tag cart bank first count length segueOut
    let bad := cart = 0 ∨ 1024 ≤ cart.toNat ∨ 4 ≤ bank.toNat ∨ count.toNat < 1 ∨ 1024 < count.toNat ∨
      1024 < first.toNat + count.toNat ∨ length.toNat < 1 ∨ (63 * count.toNat - 1) * 8 < length.toNat ∨
      length.toNat ≤ segueOut.toNat
    let start := bank.toNat * 1024 + first.toNat
    let erased := ∀ i, i < count.toNat → UnitMap.at s.store.map (start + i) = some .erased
    (bad → exec request s = .next (s.answer tag 0x0016 .badField)) ∧
    (¬ bad → s.store.scan.done = false → exec request s = .next (s.answer tag 0x0016 .scanning)) ∧
    (¬ bad → s.store.scan.done = true → ∀ (c : Fin 1024) (b : Fin 4), cart.toNat = c.val → bank.toNat = b.val →
      (∀ d, s.store.download = some d → d.cart ≠ c → exec request s = .next (s.answer tag 0x0016 .busy)) ∧
      ((∀ d, s.store.download = some d → d.cart = c) →
        ((s.store.catalog.get c).state ≠ .empty → exec request s = .next (s.answer tag 0x0016 .state)) ∧
        ((s.store.catalog.get c).state = .empty → ¬ erased → exec request s = .next (s.answer tag 0x0016 .notErased)) ∧
        ((s.store.catalog.get c).state = .empty → erased → ∃ map x y,
          x.state = .empty ∧ x.frames = [] ∧ y.state = .empty ∧ y.frames = [] ∧
          (∀ u, u < 4096 → UnitMap.at map u =
            if start ≤ u ∧ u < start + count.toNat then some .claimed else UnitMap.at s.store.map u) ∧
          let number := s.store.downloadNumber + 1
          exec request s = .next (({ s with store := { s.store with
            map := map
            catalog := put s.store.catalog c
              { state := .loading, run := some { bank := b, first := first.toNat, count := count.toNat },
                size := some { length := length.toNat, segueOut := segueOut.toNat }, check := none, download := some number }
            downloadNumber := number
            download := some { number := number, cart := c, phase := .receiving, expected := 0, check := 0xFFFFFFFF#32,
                               errors := 0, nextPage := 0, x := x, y := y, queue := [], inFlight := none,
                               close := none, programmed := 0 } } } : State).answer tag 0x0016 .done))))

/-- R159 to R161: a segment judged, and placed in a staging page, X before Y: as the first frame of an empty page, in the page that
fills, or as its eighth frame, which makes the page PENDING and queues its program, before it the unit header where the page is the
first of its unit; and R163, an overflow. -/
def Obligations.SegmentJudged : Prop :=
  ∀ (s : State) (a : Address) (cart : BitVec 16) (offset : BitVec 32) (audio : Audio), s.reached a →
    let frame : Instr := .segmentFrame a cart offset audio
    (s.store.download = none → exec frame s = .next s) ∧
    (∀ d, s.store.download = some d →
      let length := ((s.store.catalog.get d.cart).size.map (·.length)).getD 0
      let withDownload (x : Download) : State := { s with store := { s.store with download := some x } }
      (cart.toNat ≠ d.cart.val ∨ d.phase = .closing → exec frame s = .next s) ∧
      (cart.toNat = d.cart.val → d.phase = .receiving →
        (offset.toNat ≠ d.expected ∨ d.expected = length → exec frame s =
          .next (withDownload { d with errors := if d.errors < 0xFFFF then d.errors + 1 else d.errors })) ∧
        (offset.toNat = d.expected → d.expected ≠ length →
          (∀ i : StagingId,
            let x := d.staging i
            let other := d.staging (if i = .x then .y else .x)
            let placed (y : Staging) : Download :=
              { d.setStaging i y with check := checkOver d.check (audioBytes audio), expected := d.expected + 1 }
            (x.state = .empty → other.state ≠ .filling → i = .x ∨ other.state ≠ .empty → exec frame s = .next (withDownload
              { placed { state := .filling, page := d.nextPage, frames := [audio] } with nextPage := d.nextPage + 1 })) ∧
            (x.state = .filling → i = .x ∨ other.state ≠ .filling → x.frames.length < 7 →
              exec frame s = .next (withDownload (placed { x with frames := x.frames ++ [audio] }))) ∧
            (∀ r, x.state = .filling → i = .x ∨ other.state ≠ .filling → x.frames.length = 7 →
              (s.store.catalog.get d.cart).run = some r →
              let place := contentPlace x.page
              let unit := r.bank.val * 1024 + r.first + place.1
              let header : Program := { kind := .unitHeader, unit := unit, ordinal := place.1, page := 0,
                                        contents := unitHeaderPage d.cart place.1 r.bank }
              let content : Program := { kind := .content i, unit := unit, ordinal := place.1, page := place.2,
                                         contents := contentPage (x.frames ++ [audio]) }
              exec frame s = .next (withDownload { placed { x with state := .pending, frames := x.frames ++ [audio] } with
                queue := d.queue ++
                  if x.page = 0 ∨ (62 ≤ x.page ∧ (x.page - 62) % 63 = 0) then [header, content] else [content] }))) ∧
          (d.x.state = .pending ∨ d.x.state = .programming → d.y.state = .pending ∨ d.y.state = .programming →
            ∀ r, (s.store.catalog.get d.cart).run = some r → exec frame s = .next { s with
              store := { s.store with
                catalog := put s.store.catalog d.cart { s.store.catalog.get d.cart with state := .torn }
                download := none }
              log := s.log.append { sequence := 0, kind := .cartTorn, position := s.time.position.getD 0,
                                    cart := some d.cart, reason := some .tornOverflow,
                                    frames := some (BitVec.ofNat 32 d.expected),
                                    detail := some (BitVec.ofNat 32 (r.bank.val * 1024 + r.first)) } }))))

/-- R166 and R167: CART_CLOSE refused, waiting, with a FILLING page filled up with silence and its programs queued (R161), judged
against, and judged in favour. -/
def Obligations.CartCloseRequest : Prop :=
  ∀ (s : State) (a : Address) (tag cart : BitVec 16) (given : BitVec 32), s.reached a →
    let request : Instr := .cartClose a tag cart given
    (cart = 0 ∨ 1024 ≤ cart.toNat → exec request s = .next (s.answer tag 0x0017 .badField)) ∧
    (∀ c : Fin 1024, cart.toNat = c.val → c ≠ 0 →
      (s.store.scan.done = false → exec request s = .next (s.answer tag 0x0017 .scanning)) ∧
      (s.store.scan.done = true →
        ((∀ d, s.store.download = some d → d.cart ≠ c) → exec request s = .next (s.answer tag 0x0017 .state)) ∧
        (∀ d, s.store.download = some d → d.cart = c →
          let closing : Download := { d with phase := .closing, close := some { tag := tag, check := given } }
          (d.phase = .closing → exec request s = .next (s.answer tag 0x0017 .busy)) ∧
          (d.phase = .receiving → d.x.state ≠ .filling → d.y.state ≠ .filling →
            d.queue ≠ [] ∨ d.inFlight.isSome = true ∨ d.x.state ≠ .empty ∨ d.y.state ≠ .empty →
            exec request s = .next { s with store := { s.store with download := some closing } }) ∧
          (∀ i r, d.phase = .receiving → (d.staging i).state = .filling → (d.staging (if i = .x then .y else .x)).state ≠ .filling →
            (s.store.catalog.get c).run = some r →
            let x := d.staging i
            let place := contentPlace x.page
            let unit := r.bank.val * 1024 + r.first + place.1
            let full := x.frames ++ List.replicate (8 - x.frames.length) (List.replicate 384 0)
            let queued (programs : List Program) : State := { s with store := { s.store with download := some { closing.setStaging i
              { x with state := .pending, frames := full } with queue := d.queue ++ programs } } }
            let content : Program :=
              { kind := .content i, unit := unit, ordinal := place.1, page := place.2, contents := contentPage full }
            let first := x.page = 0 ∨ (62 ≤ x.page ∧ (x.page - 62) % 63 = 0)
            (first → exec request s = .next (queued [
              { kind := .unitHeader, unit := unit, ordinal := place.1, page := 0, contents := unitHeaderPage c place.1 r.bank },
              content])) ∧
            (¬ first → exec request s = .next (queued [content]))) ∧
          (d.phase = .receiving → d.x.state = .empty → d.y.state = .empty → d.queue = [] → d.inFlight = none →
            ∀ r z, (s.store.catalog.get c).run = some r → (s.store.catalog.get c).size = some z →
            (d.expected ≠ z.length ∨ checkFinal d.check ≠ given → exec request s =
              .next (({ s with
                store := { s.store with
                  catalog := put s.store.catalog c { s.store.catalog.get c with state := .torn }, download := none }
                log := s.log.append { sequence := 0, kind := .cartTorn, position := s.time.position.getD 0, cart := some c,
                                      reason := some .tornClose, frames := some (BitVec.ofNat 32 d.expected),
                                      detail := some (BitVec.ofNat 32 (r.bank.val * 1024 + r.first)) } } : State).answer tag
                0x0017 .torn (.close c d.expected d.errors))) ∧
            (d.expected = z.length → checkFinal d.check = given → exec request s =
              .next { s with store := { s.store with download := some { closing with queue := [
                { kind := .cartHeader, unit := r.bank.val * 1024 + r.first, ordinal := 0, page := 1,
                  contents := cartHeaderPage c z.length z.segueOut given r.count }] } } })))))

/-! ### The media port and the decks -/

/-- R172 to R174 and R176: the order of grants on a free port: a deck that is PRIMING or has fewer than 24 frames first in search order,
then a sounding deck with 24 to 56 frames and its allowance unused, a scan read, the program at the front and the erase, these two
on a bank that no deck guards: one with fewer than 40 frames and pages left. -/
def Obligations.GrantOrder : Prop :=
  ∀ s : State, s.arbiter.port = none →
    let deck (n : Fin 8) : Deck :=
      let c := s.channels.get (Fin.ofNat 4 (n.val / 2))
      if n.val % 2 = 0 then c.deckA else c.deckB
    let sounds (k : Deck) := k.state = .playing ∨ k.state = .fading
    let left (k : Deck) (b : Fin 4) := ∃ z, k.source = some z ∧ z.bank = b ∧ k.nextPage ≤ (z.length - 1) / 8
    let asks (k : Deck) := (∀ r, k.read = some r → r.load ≠ k.load) ∧ ∃ b, left k b ∧ s.arbiter.banks.get b = none
    let urgent (n : Fin 8) := asks (deck n) ∧
      ((deck n).state = .priming ∨ (sounds (deck n) ∧ (deck n).buffer.length < 24))
    let refill (n : Fin 8) := asks (deck n) ∧ sounds (deck n) ∧ 24 ≤ (deck n).buffer.length ∧ (deck n).buffer.length ≤ 56 ∧
      (deck n).allowanceUsed = false
    let guarded (b : Fin 4) := ∃ n, left (deck n) b ∧ ((deck n).state = .priming ∨ sounds (deck n)) ∧ (deck n).buffer.length < 40
    let scan (b : Fin 4) := s.store.scan.done = false ∧ (s.store.scan.banks.get b).read.isSome = true ∧
      s.arbiter.banks.get b = none
    let open' (b : Fin 4) := s.arbiter.banks.get b = none ∧ ¬ guarded b
    let first (p : Fin 8 → Prop) (i : Fin 8) := p (s.arbiter.deckPointer + 1 + i) ∧ ∀ j < i, ¬ p (s.arbiter.deckPointer + 1 + j)
    (∀ i, first urgent i → exec .mediaPortGrant s = .next (s.grantDeck (s.arbiter.deckPointer + 1 + i) false)) ∧
    ((∀ n, ¬ urgent n) →
      (∀ i, first refill i → exec .mediaPortGrant s = .next (s.grantDeck (s.arbiter.deckPointer + 1 + i) true)) ∧
      ((∀ n, ¬ refill n) →
        (∀ i : Fin 4, scan (s.arbiter.scanPointer + 1 + i) → (∀ j < i, ¬ scan (s.arbiter.scanPointer + 1 + j)) →
          let b := s.arbiter.scanPointer + 1 + i
          exec .mediaPortGrant s = .next { s with arbiter := { s.arbiter with
            port := some (.scanRead b), banks := put s.arbiter.banks b (some .read), scanPointer := b } }) ∧
        ((∀ b, ¬ scan b) →
          (∀ d p rest, s.store.download = some d → d.queue = p :: rest → d.inFlight = none →
            open' (s.store.runOf d.cart).bank → exec .mediaPortGrant s = .next (s.grantProgram d p rest)) ∧
          ((∀ d, s.store.download = some d → d.queue = [] ∨ d.inFlight.isSome = true ∨ ¬ open' (s.store.runOf d.cart).bank) →
            (∀ j u rest, s.store.job = some j → j.units = u :: rest → j.inFlight = none → open' j.bank →
              exec .mediaPortGrant s = .next (s.grantErase j u rest)) ∧
            ((∀ j, s.store.job = some j → j.units = [] ∨ j.inFlight.isSome = true ∨ ¬ open' j.bank) →
              exec .mediaPortGrant s = .next s)))))

/-- R170, R172, R175, R184, R161 and R148: what a grant does to the deck, the download or the erase job, and to port and
bank. -/
def Obligations.GrantEffects : Prop :=
  (∀ (s : State) (n : Fin 8) (allowance : Bool) (z : DeckSource), (s.deckAt n).source = some z →
    let c := (deckOfNumber n).1
    let k := s.deckAt n
    s.grantDeck n allowance = { s.withChannel c ((s.channels.get c).setDeck (deckOfNumber n).2 { k with
        read := some { page := k.nextPage, load := k.load }, allowanceUsed := k.allowanceUsed || allowance }) with
      arbiter := { s.arbiter with
        port := some (.deckRead c (deckOfNumber n).2 z.bank k.nextPage k.load allowance)
        banks := put s.arbiter.banks z.bank (some .read), deckPointer := n } }) ∧
  (∀ (s : State) (d : Download) (p : Program) (rest : List Program),
    let b := (s.store.runOf d.cart).bank
    let taken : Download := { d with queue := rest, inFlight := some p }
    s.grantProgram d p rest = { s with
      store := { s.store with download := some (match p.kind with
        | .content .x => { taken with x := { d.x with state := .programming } }
        | .content .y => { taken with y := { d.y with state := .programming } }
        | _ => taken) }
      arbiter := { s.arbiter with port := some (.program b), banks := put s.arbiter.banks b (some (.program p d.cart d.number)) } }) ∧
  (∀ (s : State) (j : EraseJob) (u : Nat) (rest : List Nat),
    ∃ map, (∀ v, v < 4096 → UnitMap.at map v = if v = u then some .erasing else UnitMap.at s.store.map v) ∧
      s.grantErase j u rest = { s with
        store := { s.store with job := some { j with units := rest, inFlight := some u }, map := map }
        arbiter := { s.arbiter with port := some (.erase j.bank), banks := put s.arbiter.banks j.bank (some (.erase u)) } })

/-- R170, R178, R179: a good page, the stored one at its place (R135) or another, joins the buffer of a deck, which becomes READY at 24
frames or with no pages left. R180 below the fourth attempt, for a page whose check fails as for a failed read; and R184. -/
def Obligations.DeckReadEnds : Prop :=
  (∀ (s : State) (n : Fin 4) (id : DeckId) (b : Fin 4) (page : Nat) (load : BitVec 32) (allowance : Bool) (outcome : ReadOutcome)
       (contents : FlashPage),
     let k := (s.channels.get n).deck id
     let freed : State := { s with arbiter := { s.arbiter with port := none, banks := put s.arbiter.banks b none } }
     s.arbiter.port = some (.deckRead n id b page load allowance) → k.load = load → k.state ≠ .idle →
     outcome = .other contents ∨ (outcome = .stored ∧ ∃ z, k.source = some z ∧ contents = Flash.read s.flash
       ((z.bank.val * 1024 + z.firstUnit + (contentPlace page).1) * 64 + (contentPlace page).2)) →
     (∀ fs, contentFrames contents = some fs →
       let buffer := k.buffer ++ fs.take (k.length - page * 8)
       let done := 24 ≤ buffer.length ∨ (∀ z, k.source = some z → (z.length - 1) / 8 < k.nextPage + 1)
       (k.state ≠ .priming ∨ ¬ done → exec (.deckReadComplete outcome) s = .next (freed.withChannel n ((s.channels.get n).setDeck id
         { k with buffer := buffer, nextPage := k.nextPage + 1, retries := 0, read := none }))) ∧
       (k.state = .priming → done → exec (.deckReadComplete outcome) s = .next (freed.withChannel n ((s.channels.get n).setDeck id
         { k with state := .ready, buffer := buffer, nextPage := k.nextPage + 1, retries := 0, read := none })))) ∧
     (contentFrames contents = none → k.retries < 3 → exec (.deckReadComplete outcome) s =
       exec (.deckReadComplete .failed) s)) ∧
  (∀ (s : State) (n : Fin 4) (id : DeckId) (b : Fin 4) (page : Nat) (load : BitVec 32) (allowance : Bool) (outcome : ReadOutcome),
     let k := (s.channels.get n).deck id
     let freed : State := { s with arbiter := { s.arbiter with port := none, banks := put s.arbiter.banks b none } }
     s.arbiter.port = some (.deckRead n id b page load allowance) →
     (k.load = load → k.state ≠ .idle → k.retries < 3 → exec (.deckReadComplete .failed) s =
       .next (freed.withChannel n ((s.channels.get n).setDeck id { k with
         read := none, retries := k.retries + 1, allowanceUsed := k.allowanceUsed && !allowance }))) ∧
     (k.load ≠ load ∨ k.state = .idle → exec (.deckReadComplete outcome) s =
       .next (freed.withChannel n ((s.channels.get n).setDeck id { k with
         read := k.read.filter (fun r => decide (r.load ≠ load)) }))))

/-- R151 and R152: a page 0 or page 1 read by the scan, the stored page or another, where the scan does not end with it: a page 0 classed
at once, or read again up to four attempts where its check fails or the bank fails; a good unit header valid or damaged (R136); and
page 1 recorded as a cart header where it is valid (R137). -/
def Obligations.ScanReads : Prop :=
  ∀ (s : State) (b : Fin 4) (unit attempt : Nat) (page1 : Bool) (outcome : ReadOutcome) (p : FlashPage),
    let bank : BankScan := { read := some { unit := unit, page1 := page1 }, attempt := attempt }
    s.arbiter.port = some (.scanRead b) → s.store.scan.banks.get b = bank →
    unit < 1023 ∨ (unit = 1023 ∧ ∃ m, m ≠ b ∧ (s.store.scan.banks.get m).read.isSome = true) →
    let number := b.val * 1024 + unit
    let freed : State := { s with arbiter := { s.arbiter with port := none, banks := put s.arbiter.banks b none } }
    let scanned (classes : Vector (Option UnitClass) 4096) (headers : List (Nat × CartHeader)) (x : BankScan) : State :=
      { freed with store := { s.store with scan := { s.store.scan with
          classes := classes, headers := headers, banks := put s.store.scan.banks b x } } }
    let next : BankScan := { read := if unit < 1023 then some { unit := unit + 1, page1 := false } else none, attempt := 1 }
    let again : State := scanned s.store.scan.classes s.store.scan.headers { bank with attempt := attempt + 1 }
    let marked (k : UnitClass) (x : BankScan) : State :=
      scanned (s.store.scan.classes.setIfInBounds number (some k)) s.store.scan.headers x
    let brings := outcome = .other p ∨ (outcome = .stored ∧ p = Flash.read s.flash (number * 64 + if page1 then 1 else 0))
    let read : Instr := .scanReadComplete outcome
    (page1 = false →
      (outcome = .failed ∨ (brings ∧ isBlank p = false ∧ p ≠ .void ∧ pageBytes p 0 8 ≠ badMark ∧ checkGood p 8 = false) →
        (attempt < 4 → exec read s = .next again) ∧ (4 ≤ attempt → exec read s = .next (marked .damaged next))) ∧
      (brings →
        (isBlank p = true → exec read s = .next (marked .blank next)) ∧
        (p = .void → exec read s = .next (marked .void next)) ∧
        (isBlank p = false → p ≠ .void → pageBytes p 0 8 = badMark → exec read s = .next (marked .bad next)) ∧
        (isBlank p = false → p ≠ .void → pageBytes p 0 8 ≠ badMark → checkGood p 8 = true →
          let ordinal := numberOf (pageBytes p 2 2)
          let valid (c : Fin 1024) := c ≠ 0 ∧ numberOf (pageBytes p 0 2) = c.val ∧ numberOf (pageBytes p 4 1) = b.val ∧ ordinal ≤ unit
          ((∀ c, ¬ valid c) → exec read s = .next (marked .damaged next)) ∧
          (∀ c, valid c →
            (ordinal ≠ 0 → exec read s = .next (marked (.header c ordinal) next)) ∧
            (ordinal = 0 → exec read s = .next (marked (.header c 0) { read := some { unit := unit, page1 := true }, attempt := 1 })))))) ∧
    (page1 = true →
      (outcome = .failed ∨ (brings ∧ isBlank p = false ∧ checkGood p 20 = false) →
        (attempt < 4 → exec read s = .next again) ∧
        (4 ≤ attempt → exec read s = .next (scanned s.store.scan.classes s.store.scan.headers next))) ∧
      (brings →
        (isBlank p = true → exec read s = .next (scanned s.store.scan.classes s.store.scan.headers next)) ∧
        (∀ c ordinal, isBlank p = false → checkGood p 20 = true → s.store.scan.classes[number]? = some (some (.header c ordinal)) →
          let length := numberOf (pageBytes p 4 4)
          let segueOut := numberOf (pageBytes p 8 4)
          let count := numberOf (pageBytes p 16 2)
          let valid := numberOf (pageBytes p 0 2) = c.val ∧ 1 ≤ count ∧ count ≤ 1024 ∧ 1 ≤ length ∧ length ≤ (63 * count - 1) * 8 ∧
            segueOut < length
          (¬ valid → exec read s = .next (scanned s.store.scan.classes s.store.scan.headers next)) ∧
          (valid → exec read s = .next (scanned s.store.scan.classes (s.store.scan.headers ++ [(number,
            { length := length, segueOut := segueOut, check := BitVec.ofNat 32 (numberOf (pageBytes p 12 4)), count := count })])
            next)))))

/-- R153 and R154: the end of the scan at the completion of its last read, a page 0 that is no head, with no fill wait: the runs of either
grade, the one kept for a cart, the catalog and the map rebuilt from them, and the records. -/
def Obligations.ScanEnds : Prop :=
  ∀ (s : State) (b : Fin 4) (attempt : Nat) (p : FlashPage) (k : UnitClass),
    s.arbiter.port = some (.scanRead b) → s.store.scan.banks.get b = { read := some { unit := 1023, page1 := false }, attempt := attempt } →
    (∀ m, m ≠ b → (s.store.scan.banks.get m).read = none) → classOf b 1023 p = some k → (∀ c, k ≠ .header c 0) →
    (∀ n, (s.channels.get n).fill.wait = false) →
    let classes := s.store.scan.classes.setIfInBounds (b.val * 1024 + 1023) (some k)
    let run (c : Fin 1024) (u n : Nat) : Prop :=
      u % 1024 + n ≤ 1024 ∧ ∀ j, j < n → classes[u + j]? = some (some (.header c j))
    let head (c : Fin 1024) (u n : Nat) (h : Option CartHeader) : Prop :=
      u < 4096 ∧ run c u 1 ∧ match h with
        | some x => s.store.scan.headers.lookup u = some x ∧ n = x.count ∧ run c u n
        | none => (∀ x, s.store.scan.headers.lookup u = some x → ¬ run c u x.count) ∧ run c u n ∧ ¬ run c u (n + 1)
    let kept (c : Fin 1024) (u n : Nat) (h : Option CartHeader) : Prop :=
      head c u n h ∧ ∀ v m g, head c v m g → (g.isSome = true → h.isSome = true) ∧ (g.isSome = h.isSome → u ≤ v)
    ∃ t, exec (.scanReadComplete (.other p)) s = .next t ∧
      let count (x : CartState) := (List.finRange 1024).filter (fun c => decide ((t.store.catalog.get c).state = x))
      let bad := t.store.map.toList.filter (fun x => decide (x = some .bad))
      let torn (c : Fin 1024) : Record := { sequence := 0, kind := .cartTorn, position := s.time.position.getD 0, cart := some c
                                            reason := some .tornScan
                                            frames := (t.store.catalog.get c).run.map (fun r => BitVec.ofNat 32 r.count)
                                            detail := (t.store.catalog.get c).run.map (fun r =>
                                              BitVec.ofNat 32 (r.bank.val * 1024 + r.first)) }
      let done : Record := { sequence := 0, kind := .scanDone, position := s.time.position.getD 0
                             frames := some (BitVec.ofNat 32 (count .ready).length)
                             detail := some (BitVec.ofNat 32 ((count .torn).length * 65536 + bad.length)) }
      t = { s with
        arbiter := { s.arbiter with port := none, banks := put s.arbiter.banks b none }
        store := { s.store with
          map := t.store.map, catalog := t.store.catalog
          scan := { s.store.scan with
            done := true, classes := classes, banks := put s.store.scan.banks b { read := none, attempt := 1 } } }
        log := s.log.appendAll ((count .torn).map torn ++ [done]) } ∧
      (∀ c u n h, kept c u n h → t.store.catalog.get c =
        { state := if h.isSome then .ready else .torn, run := some { bank := Fin.ofNat 4 (u / 1024), first := u % 1024, count := n }
          size := h.map (fun x => { length := x.length, segueOut := x.segueOut }), check := h.map (·.check), download := none }) ∧
      (∀ c, (∀ u n h, ¬ head c u n h) → t.store.catalog.get c = CatalogEntry.empty) ∧
      (∀ u (x : UnitClass), u < 4096 → classes[u]? = some (some x) →
        (x = .blank → UnitMap.at t.store.map u = some .erased) ∧ (x = .bad → UnitMap.at t.store.map u = some .bad) ∧
        (x = .void ∨ x = .damaged → UnitMap.at t.store.map u = some .dirty) ∧
        (∀ c ordinal, x = .header c ordinal →
          (∀ v n h, kept c v n h → v ≤ u → u < v + n → UnitMap.at t.store.map u = some .claimed) ∧
          ((∀ v n h, kept c v n h → u < v ∨ v + n ≤ u) → UnitMap.at t.store.map u = some .dirty)))

/-- R170: the port freed at a transfer or command end. R162, R164, R166, R167: the completion of a program of the present download, also
in its close wait, and of one that has ended. What a failed program leaves in its page is free, but in page 1 no cart header (log
9). The content page number 0 of a staging page that becomes EMPTY is the model's choice (log 50). -/
def Obligations.ProgramsAndErasesEnd : Prop :=
  (∀ (s : State) (b : Fin 4),
    (s.arbiter.port = some (.program b) →
      exec .programTransferEnd s = .next { s with arbiter := { s.arbiter with port := none } }) ∧
    (s.arbiter.port = some (.erase b) →
      exec .eraseCommandEnd s = .next { s with arbiter := { s.arbiter with port := none } })) ∧
  (∀ (s : State) (b : Fin 4) (p : Program) (c : Fin 1024) (d : Download),
    s.arbiter.banks.get b = some (.program p c d.number) → s.arbiter.port = none → s.store.download = some d →
    let freed : State := { s with arbiter := { s.arbiter with banks := put s.arbiter.banks b none } }
    let number := p.unit * 64 + p.page
    let wrote : State := { freed with flash := Flash.program s.flash number p.contents }
    let kept (x : Download) : State := { wrote with store := { s.store with download := some x } }
    let entry := s.store.catalog.get d.cart
    let empty : Staging := { state := .empty, page := 0, frames := [] }
    let emptied (i : StagingId) : Download :=
      { d with inFlight := none, programmed := d.programmed + 1, x := if i = .x then empty else d.x, y := if i = .y then empty else d.y }
    let torn (reason : Reason) (first : Nat) : Record :=
      { sequence := 0, kind := .cartTorn, position := s.time.position.getD 0, cart := some d.cart, reason := some reason
        frames := some (BitVec.ofNat 32 d.expected), detail := some (BitVec.ofNat 32 first) }
    let answered (w : CloseWait) (code : ResultCode) (t : State) : State :=
      t.answer w.tag 0x0017 code (.close d.cart d.expected d.errors)
    (p.kind = .unitHeader → d.phase = .receiving ∨ d.queue ≠ [] →
      exec (.programComplete b true) s = .next (kept { d with inFlight := none })) ∧
    (∀ i, p.kind = .content i →
      d.phase = .receiving ∨ d.queue ≠ [] ∨ (emptied i).x.state ≠ .empty ∨ (emptied i).y.state ≠ .empty →
      exec (.programComplete b true) s = .next (kept (emptied i))) ∧
    (∀ i w r z, p.kind = .content i → d.phase = .closing → d.close = some w → d.queue = [] → (emptied i).x.state = .empty →
      (emptied i).y.state = .empty → entry.run = some r → entry.size = some z →
      (d.expected = z.length → checkFinal d.check = w.check → exec (.programComplete b true) s =
        .next (kept { emptied i with queue := [
          { kind := .cartHeader, unit := r.bank.val * 1024 + r.first, ordinal := 0, page := 1,
            contents := cartHeaderPage d.cart z.length z.segueOut w.check r.count }] })) ∧
      (d.expected ≠ z.length ∨ checkFinal d.check ≠ w.check → exec (.programComplete b true) s =
        .next (answered w .torn { wrote with
          store := { s.store with catalog := put s.store.catalog d.cart { entry with state := .torn }, download := none }
          log := s.log.append (torn .tornClose (r.bank.val * 1024 + r.first)) }))) ∧
    (∀ w, p.kind = .cartHeader → d.close = some w → (∀ n, (s.channels.get n).fill.wait = false) →
      exec (.programComplete b true) s = .next (answered w .done { wrote with store := { s.store with
        catalog := put s.store.catalog d.cart { entry with state := .ready, check := some w.check }, download := none } })) ∧
    (∀ r, entry.run = some r → ∃ map q,
      (∀ u, u < 4096 → UnitMap.at map u = if u = p.unit then some .bad
        else if p.unit < u ∧ u < p.unit + (r.count - p.ordinal) then some .dirty else UnitMap.at s.store.map u) ∧
      (p.page = 1 → checkGood q 20 = false) ∧
      let after : State := { freed with
        flash := Flash.program s.flash number q
        fresh := s.fresh + 1
        store := { s.store with
          map := map
          catalog := put s.store.catalog d.cart { entry with state := .torn, run := some { r with count := p.ordinal } }
          download := none }
        log := (s.log.append { sequence := 0, kind := .unitBad, position := s.time.position.getD 0, cart := some d.cart,
                               reason := some .badProgram, detail := some (BitVec.ofNat 32 p.unit) }).append
          (torn .tornProgram (r.bank.val * 1024 + r.first)) }
      (d.close = none → exec (.programComplete b false) s = .next after) ∧
      (∀ w, d.close = some w → exec (.programComplete b false) s = .next (answered w .torn after)))) ∧
  (∀ (s : State) (b : Fin 4) (p : Program) (c : Fin 1024) (tag : BitVec 32),
    s.arbiter.banks.get b = some (.program p c tag) → s.arbiter.port = none → (∀ d, s.store.download = some d → d.number ≠ tag) →
    let freed : State := { s with arbiter := { s.arbiter with banks := put s.arbiter.banks b none } }
    let number := p.unit * 64 + p.page
    let entry := s.store.catalog.get c
    let torn := entry.state = .torn ∧ entry.download = some tag
    exec (.programComplete b true) s = .next { freed with flash := Flash.program s.flash number p.contents } ∧
    ∃ q, (p.page = 1 → checkGood q 20 = false) ∧
      let failed : State := { freed with flash := Flash.program s.flash number q, fresh := s.fresh + 1 }
      (¬ torn → exec (.programComplete b false) s = .next failed) ∧
      (torn → ∀ r, entry.run = some r → ∃ map,
        (∀ u, u < 4096 → UnitMap.at map u = if u = p.unit then some .bad
          else if p.unit < u ∧ u < p.unit + (r.count - p.ordinal) then some .dirty else UnitMap.at s.store.map u) ∧
        exec (.programComplete b false) s = .next { failed with
          store := { s.store with map := map, catalog := put s.store.catalog c { entry with run := some { r with count := p.ordinal } } }
          log := s.log.append { sequence := 0, kind := .unitBad, position := s.time.position.getD 0, cart := some c,
                                reason := some .badProgram, detail := some (BitVec.ofNat 32 p.unit) } }))
end

