-- ==== Sys2Proof/Laws/State.lean ====
section
/-! SUPPORT. What each update of the state leaves as it was and what it writes, one equation per field, all by reflexivity. -/

namespace Sys2Proof.Machine

/-! ### One element of a vector -/

@[simp] theorem get_put_same {α : Type} {n : Nat} (v : Vector α n) (i : Fin n) (x : α) : (put v i x).get i = x := by
  change (v.set i.val x i.isLt)[i.val] = x
  simp

theorem get_put_other {α : Type} {n : Nat} (v : Vector α n) (i j : Fin n) (x : α) (h : i ≠ j) :
    (put v i x).get j = v.get j := by
  have hv : i.val ≠ j.val := fun e => h (Fin.ext e)
  change (v.set i.val x i.isLt)[j.val] = v[j.val]
  simp [hv]

theorem get_put {α : Type} {n : Nat} (v : Vector α n) (i j : Fin n) (x : α) :
    (put v i x).get j = if i = j then x else v.get j := by
  split
  · next h => subst h; exact get_put_same v i x
  · next h => exact get_put_other v i j x h

@[simp] theorem put_get_self {α : Type} {n : Nat} (v : Vector α n) (i : Fin n) : put v i (v.get i) = v := by
  have : put v i (v.get i) = v.set i.val v[i.val] i.isLt := rfl
  simp [this]

@[simp] theorem put_put {α : Type} {n : Nat} (v : Vector α n) (i : Fin n) (x y : α) : put (put v i x) i y = put v i y := by
  simp [put]

/-! ### Updates of the state -/

@[simp] theorem State.answer_pending (s : State) (tag kind : BitVec 16) (code : ResultCode) (payload : Payload) : (s.answer tag kind code payload).pending = s.pending := rfl
@[simp] theorem State.answer_time (s : State) (tag kind : BitVec 16) (code : ResultCode) (payload : Payload) : (s.answer tag kind code payload).time = s.time := rfl
@[simp] theorem State.answer_feed (s : State) (tag kind : BitVec 16) (code : ResultCode) (payload : Payload) : (s.answer tag kind code payload).feed = s.feed := rfl
@[simp] theorem State.answer_watches (s : State) (tag kind : BitVec 16) (code : ResultCode) (payload : Payload) : (s.answer tag kind code payload).watches = s.watches := rfl
@[simp] theorem State.answer_channels (s : State) (tag kind : BitVec 16) (code : ResultCode) (payload : Payload) : (s.answer tag kind code payload).channels = s.channels := rfl
@[simp] theorem State.answer_outputs (s : State) (tag kind : BitVec 16) (code : ResultCode) (payload : Payload) : (s.answer tag kind code payload).outputs = s.outputs := rfl
@[simp] theorem State.answer_log (s : State) (tag kind : BitVec 16) (code : ResultCode) (payload : Payload) : (s.answer tag kind code payload).log = s.log := rfl
@[simp] theorem State.answer_store (s : State) (tag kind : BitVec 16) (code : ResultCode) (payload : Payload) : (s.answer tag kind code payload).store = s.store := rfl
@[simp] theorem State.answer_flash (s : State) (tag kind : BitVec 16) (code : ResultCode) (payload : Payload) : (s.answer tag kind code payload).flash = s.flash := rfl
@[simp] theorem State.answer_arbiter (s : State) (tag kind : BitVec 16) (code : ResultCode) (payload : Payload) : (s.answer tag kind code payload).arbiter = s.arbiter := rfl
@[simp] theorem State.answer_intake (s : State) (tag kind : BitVec 16) (code : ResultCode) (payload : Payload) : (s.answer tag kind code payload).intake = s.intake := rfl
@[simp] theorem State.answer_lines (s : State) (tag kind : BitVec 16) (code : ResultCode) (payload : Payload) : (s.answer tag kind code payload).lines = s.lines := rfl
@[simp] theorem State.answer_fresh (s : State) (tag kind : BitVec 16) (code : ResultCode) (payload : Payload) : (s.answer tag kind code payload).fresh = s.fresh := rfl

@[simp] theorem State.append_pending (s : State) (r : Record) : (s.append r).pending = s.pending := rfl
@[simp] theorem State.append_time (s : State) (r : Record) : (s.append r).time = s.time := rfl
@[simp] theorem State.append_feed (s : State) (r : Record) : (s.append r).feed = s.feed := rfl
@[simp] theorem State.append_watches (s : State) (r : Record) : (s.append r).watches = s.watches := rfl
@[simp] theorem State.append_channels (s : State) (r : Record) : (s.append r).channels = s.channels := rfl
@[simp] theorem State.append_outputs (s : State) (r : Record) : (s.append r).outputs = s.outputs := rfl
@[simp] theorem State.append_store (s : State) (r : Record) : (s.append r).store = s.store := rfl
@[simp] theorem State.append_flash (s : State) (r : Record) : (s.append r).flash = s.flash := rfl
@[simp] theorem State.append_arbiter (s : State) (r : Record) : (s.append r).arbiter = s.arbiter := rfl
@[simp] theorem State.append_intake (s : State) (r : Record) : (s.append r).intake = s.intake := rfl
@[simp] theorem State.append_ret (s : State) (r : Record) : (s.append r).ret = s.ret := rfl
@[simp] theorem State.append_lines (s : State) (r : Record) : (s.append r).lines = s.lines := rfl
@[simp] theorem State.append_fresh (s : State) (r : Record) : (s.append r).fresh = s.fresh := rfl

@[simp] theorem State.appendAll_pending (s : State) (rs : List Record) : (s.appendAll rs).pending = s.pending := rfl
@[simp] theorem State.appendAll_time (s : State) (rs : List Record) : (s.appendAll rs).time = s.time := rfl
@[simp] theorem State.appendAll_feed (s : State) (rs : List Record) : (s.appendAll rs).feed = s.feed := rfl
@[simp] theorem State.appendAll_watches (s : State) (rs : List Record) : (s.appendAll rs).watches = s.watches := rfl
@[simp] theorem State.appendAll_channels (s : State) (rs : List Record) : (s.appendAll rs).channels = s.channels := rfl
@[simp] theorem State.appendAll_outputs (s : State) (rs : List Record) : (s.appendAll rs).outputs = s.outputs := rfl
@[simp] theorem State.appendAll_store (s : State) (rs : List Record) : (s.appendAll rs).store = s.store := rfl
@[simp] theorem State.appendAll_flash (s : State) (rs : List Record) : (s.appendAll rs).flash = s.flash := rfl
@[simp] theorem State.appendAll_arbiter (s : State) (rs : List Record) : (s.appendAll rs).arbiter = s.arbiter := rfl
@[simp] theorem State.appendAll_intake (s : State) (rs : List Record) : (s.appendAll rs).intake = s.intake := rfl
@[simp] theorem State.appendAll_ret (s : State) (rs : List Record) : (s.appendAll rs).ret = s.ret := rfl
@[simp] theorem State.appendAll_lines (s : State) (rs : List Record) : (s.appendAll rs).lines = s.lines := rfl
@[simp] theorem State.appendAll_fresh (s : State) (rs : List Record) : (s.appendAll rs).fresh = s.fresh := rfl

@[simp] theorem State.linkError_pending (s : State) : (s.linkError).pending = s.pending := rfl
@[simp] theorem State.linkError_time (s : State) : (s.linkError).time = s.time := rfl
@[simp] theorem State.linkError_feed (s : State) : (s.linkError).feed = s.feed := rfl
@[simp] theorem State.linkError_watches (s : State) : (s.linkError).watches = s.watches := rfl
@[simp] theorem State.linkError_channels (s : State) : (s.linkError).channels = s.channels := rfl
@[simp] theorem State.linkError_outputs (s : State) : (s.linkError).outputs = s.outputs := rfl
@[simp] theorem State.linkError_log (s : State) : (s.linkError).log = s.log := rfl
@[simp] theorem State.linkError_store (s : State) : (s.linkError).store = s.store := rfl
@[simp] theorem State.linkError_flash (s : State) : (s.linkError).flash = s.flash := rfl
@[simp] theorem State.linkError_arbiter (s : State) : (s.linkError).arbiter = s.arbiter := rfl
@[simp] theorem State.linkError_ret (s : State) : (s.linkError).ret = s.ret := rfl
@[simp] theorem State.linkError_lines (s : State) : (s.linkError).lines = s.lines := rfl
@[simp] theorem State.linkError_fresh (s : State) : (s.linkError).fresh = s.fresh := rfl

@[simp] theorem State.putDesk_pending (s : State) (n : Fin 4) (d : Desk) : (s.putDesk n d).pending = s.pending := rfl
@[simp] theorem State.putDesk_time (s : State) (n : Fin 4) (d : Desk) : (s.putDesk n d).time = s.time := rfl
@[simp] theorem State.putDesk_feed (s : State) (n : Fin 4) (d : Desk) : (s.putDesk n d).feed = s.feed := rfl
@[simp] theorem State.putDesk_watches (s : State) (n : Fin 4) (d : Desk) : (s.putDesk n d).watches = s.watches := rfl
@[simp] theorem State.putDesk_outputs (s : State) (n : Fin 4) (d : Desk) : (s.putDesk n d).outputs = s.outputs := rfl
@[simp] theorem State.putDesk_flash (s : State) (n : Fin 4) (d : Desk) : (s.putDesk n d).flash = s.flash := rfl
@[simp] theorem State.putDesk_arbiter (s : State) (n : Fin 4) (d : Desk) : (s.putDesk n d).arbiter = s.arbiter := rfl
@[simp] theorem State.putDesk_intake (s : State) (n : Fin 4) (d : Desk) : (s.putDesk n d).intake = s.intake := rfl
@[simp] theorem State.putDesk_ret (s : State) (n : Fin 4) (d : Desk) : (s.putDesk n d).ret = s.ret := rfl
@[simp] theorem State.putDesk_lines (s : State) (n : Fin 4) (d : Desk) : (s.putDesk n d).lines = s.lines := rfl
@[simp] theorem State.putDesk_fresh (s : State) (n : Fin 4) (d : Desk) : (s.putDesk n d).fresh = s.fresh := rfl

@[simp] theorem State.onChannel_pending (s : State) (n : Fin 4) (rule : Env → Desk → Desk) : (s.onChannel n rule).pending = s.pending := rfl
@[simp] theorem State.onChannel_time (s : State) (n : Fin 4) (rule : Env → Desk → Desk) : (s.onChannel n rule).time = s.time := rfl
@[simp] theorem State.onChannel_feed (s : State) (n : Fin 4) (rule : Env → Desk → Desk) : (s.onChannel n rule).feed = s.feed := rfl
@[simp] theorem State.onChannel_watches (s : State) (n : Fin 4) (rule : Env → Desk → Desk) : (s.onChannel n rule).watches = s.watches := rfl
@[simp] theorem State.onChannel_outputs (s : State) (n : Fin 4) (rule : Env → Desk → Desk) : (s.onChannel n rule).outputs = s.outputs := rfl
@[simp] theorem State.onChannel_flash (s : State) (n : Fin 4) (rule : Env → Desk → Desk) : (s.onChannel n rule).flash = s.flash := rfl
@[simp] theorem State.onChannel_arbiter (s : State) (n : Fin 4) (rule : Env → Desk → Desk) : (s.onChannel n rule).arbiter = s.arbiter := rfl
@[simp] theorem State.onChannel_intake (s : State) (n : Fin 4) (rule : Env → Desk → Desk) : (s.onChannel n rule).intake = s.intake := rfl
@[simp] theorem State.onChannel_ret (s : State) (n : Fin 4) (rule : Env → Desk → Desk) : (s.onChannel n rule).ret = s.ret := rfl
@[simp] theorem State.onChannel_lines (s : State) (n : Fin 4) (rule : Env → Desk → Desk) : (s.onChannel n rule).lines = s.lines := rfl
@[simp] theorem State.onChannel_fresh (s : State) (n : Fin 4) (rule : Env → Desk → Desk) : (s.onChannel n rule).fresh = s.fresh := rfl

@[simp] theorem State.setRing_pending (s : State) (n : Fin 4) (i : Fin 128) (x : Entry) : (s.setRing n i x).pending = s.pending := rfl
@[simp] theorem State.setRing_time (s : State) (n : Fin 4) (i : Fin 128) (x : Entry) : (s.setRing n i x).time = s.time := rfl
@[simp] theorem State.setRing_feed (s : State) (n : Fin 4) (i : Fin 128) (x : Entry) : (s.setRing n i x).feed = s.feed := rfl
@[simp] theorem State.setRing_watches (s : State) (n : Fin 4) (i : Fin 128) (x : Entry) : (s.setRing n i x).watches = s.watches := rfl
@[simp] theorem State.setRing_outputs (s : State) (n : Fin 4) (i : Fin 128) (x : Entry) : (s.setRing n i x).outputs = s.outputs := rfl
@[simp] theorem State.setRing_log (s : State) (n : Fin 4) (i : Fin 128) (x : Entry) : (s.setRing n i x).log = s.log := rfl
@[simp] theorem State.setRing_store (s : State) (n : Fin 4) (i : Fin 128) (x : Entry) : (s.setRing n i x).store = s.store := rfl
@[simp] theorem State.setRing_flash (s : State) (n : Fin 4) (i : Fin 128) (x : Entry) : (s.setRing n i x).flash = s.flash := rfl
@[simp] theorem State.setRing_arbiter (s : State) (n : Fin 4) (i : Fin 128) (x : Entry) : (s.setRing n i x).arbiter = s.arbiter := rfl
@[simp] theorem State.setRing_intake (s : State) (n : Fin 4) (i : Fin 128) (x : Entry) : (s.setRing n i x).intake = s.intake := rfl
@[simp] theorem State.setRing_ret (s : State) (n : Fin 4) (i : Fin 128) (x : Entry) : (s.setRing n i x).ret = s.ret := rfl
@[simp] theorem State.setRing_lines (s : State) (n : Fin 4) (i : Fin 128) (x : Entry) : (s.setRing n i x).lines = s.lines := rfl
@[simp] theorem State.setRing_fresh (s : State) (n : Fin 4) (i : Fin 128) (x : Entry) : (s.setRing n i x).fresh = s.fresh := rfl

@[simp] theorem State.setTimer_pending (s : State) (n : Fin 4) (t : Option Timer) : (s.setTimer n t).pending = s.pending := rfl
@[simp] theorem State.setTimer_time (s : State) (n : Fin 4) (t : Option Timer) : (s.setTimer n t).time = s.time := rfl
@[simp] theorem State.setTimer_feed (s : State) (n : Fin 4) (t : Option Timer) : (s.setTimer n t).feed = s.feed := rfl
@[simp] theorem State.setTimer_watches (s : State) (n : Fin 4) (t : Option Timer) : (s.setTimer n t).watches = s.watches := rfl
@[simp] theorem State.setTimer_outputs (s : State) (n : Fin 4) (t : Option Timer) : (s.setTimer n t).outputs = s.outputs := rfl
@[simp] theorem State.setTimer_log (s : State) (n : Fin 4) (t : Option Timer) : (s.setTimer n t).log = s.log := rfl
@[simp] theorem State.setTimer_store (s : State) (n : Fin 4) (t : Option Timer) : (s.setTimer n t).store = s.store := rfl
@[simp] theorem State.setTimer_flash (s : State) (n : Fin 4) (t : Option Timer) : (s.setTimer n t).flash = s.flash := rfl
@[simp] theorem State.setTimer_arbiter (s : State) (n : Fin 4) (t : Option Timer) : (s.setTimer n t).arbiter = s.arbiter := rfl
@[simp] theorem State.setTimer_intake (s : State) (n : Fin 4) (t : Option Timer) : (s.setTimer n t).intake = s.intake := rfl
@[simp] theorem State.setTimer_ret (s : State) (n : Fin 4) (t : Option Timer) : (s.setTimer n t).ret = s.ret := rfl
@[simp] theorem State.setTimer_lines (s : State) (n : Fin 4) (t : Option Timer) : (s.setTimer n t).lines = s.lines := rfl
@[simp] theorem State.setTimer_fresh (s : State) (n : Fin 4) (t : Option Timer) : (s.setTimer n t).fresh = s.fresh := rfl

@[simp] theorem State.setDeckAt_pending (s : State) (n : Fin 4) (id : DeckId) (k : Deck) : (s.setDeckAt n id k).pending = s.pending := rfl
@[simp] theorem State.setDeckAt_time (s : State) (n : Fin 4) (id : DeckId) (k : Deck) : (s.setDeckAt n id k).time = s.time := rfl
@[simp] theorem State.setDeckAt_feed (s : State) (n : Fin 4) (id : DeckId) (k : Deck) : (s.setDeckAt n id k).feed = s.feed := rfl
@[simp] theorem State.setDeckAt_watches (s : State) (n : Fin 4) (id : DeckId) (k : Deck) : (s.setDeckAt n id k).watches = s.watches := rfl
@[simp] theorem State.setDeckAt_outputs (s : State) (n : Fin 4) (id : DeckId) (k : Deck) : (s.setDeckAt n id k).outputs = s.outputs := rfl
@[simp] theorem State.setDeckAt_log (s : State) (n : Fin 4) (id : DeckId) (k : Deck) : (s.setDeckAt n id k).log = s.log := rfl
@[simp] theorem State.setDeckAt_store (s : State) (n : Fin 4) (id : DeckId) (k : Deck) : (s.setDeckAt n id k).store = s.store := rfl
@[simp] theorem State.setDeckAt_flash (s : State) (n : Fin 4) (id : DeckId) (k : Deck) : (s.setDeckAt n id k).flash = s.flash := rfl
@[simp] theorem State.setDeckAt_arbiter (s : State) (n : Fin 4) (id : DeckId) (k : Deck) : (s.setDeckAt n id k).arbiter = s.arbiter := rfl
@[simp] theorem State.setDeckAt_intake (s : State) (n : Fin 4) (id : DeckId) (k : Deck) : (s.setDeckAt n id k).intake = s.intake := rfl
@[simp] theorem State.setDeckAt_ret (s : State) (n : Fin 4) (id : DeckId) (k : Deck) : (s.setDeckAt n id k).ret = s.ret := rfl
@[simp] theorem State.setDeckAt_lines (s : State) (n : Fin 4) (id : DeckId) (k : Deck) : (s.setDeckAt n id k).lines = s.lines := rfl
@[simp] theorem State.setDeckAt_fresh (s : State) (n : Fin 4) (id : DeckId) (k : Deck) : (s.setDeckAt n id k).fresh = s.fresh := rfl

@[simp] theorem State.setFire_pending (s : State) (n : Fin 4) (x : Line) : (s.setFire n x).pending = s.pending := rfl
@[simp] theorem State.setFire_time (s : State) (n : Fin 4) (x : Line) : (s.setFire n x).time = s.time := rfl
@[simp] theorem State.setFire_feed (s : State) (n : Fin 4) (x : Line) : (s.setFire n x).feed = s.feed := rfl
@[simp] theorem State.setFire_watches (s : State) (n : Fin 4) (x : Line) : (s.setFire n x).watches = s.watches := rfl
@[simp] theorem State.setFire_channels (s : State) (n : Fin 4) (x : Line) : (s.setFire n x).channels = s.channels := rfl
@[simp] theorem State.setFire_outputs (s : State) (n : Fin 4) (x : Line) : (s.setFire n x).outputs = s.outputs := rfl
@[simp] theorem State.setFire_log (s : State) (n : Fin 4) (x : Line) : (s.setFire n x).log = s.log := rfl
@[simp] theorem State.setFire_store (s : State) (n : Fin 4) (x : Line) : (s.setFire n x).store = s.store := rfl
@[simp] theorem State.setFire_flash (s : State) (n : Fin 4) (x : Line) : (s.setFire n x).flash = s.flash := rfl
@[simp] theorem State.setFire_arbiter (s : State) (n : Fin 4) (x : Line) : (s.setFire n x).arbiter = s.arbiter := rfl
@[simp] theorem State.setFire_intake (s : State) (n : Fin 4) (x : Line) : (s.setFire n x).intake = s.intake := rfl
@[simp] theorem State.setFire_ret (s : State) (n : Fin 4) (x : Line) : (s.setFire n x).ret = s.ret := rfl
@[simp] theorem State.setFire_fresh (s : State) (n : Fin 4) (x : Line) : (s.setFire n x).fresh = s.fresh := rfl

@[simp] theorem State.setResetLine_pending (s : State) (x : Line) : (s.setResetLine x).pending = s.pending := rfl
@[simp] theorem State.setResetLine_time (s : State) (x : Line) : (s.setResetLine x).time = s.time := rfl
@[simp] theorem State.setResetLine_feed (s : State) (x : Line) : (s.setResetLine x).feed = s.feed := rfl
@[simp] theorem State.setResetLine_watches (s : State) (x : Line) : (s.setResetLine x).watches = s.watches := rfl
@[simp] theorem State.setResetLine_channels (s : State) (x : Line) : (s.setResetLine x).channels = s.channels := rfl
@[simp] theorem State.setResetLine_outputs (s : State) (x : Line) : (s.setResetLine x).outputs = s.outputs := rfl
@[simp] theorem State.setResetLine_log (s : State) (x : Line) : (s.setResetLine x).log = s.log := rfl
@[simp] theorem State.setResetLine_store (s : State) (x : Line) : (s.setResetLine x).store = s.store := rfl
@[simp] theorem State.setResetLine_flash (s : State) (x : Line) : (s.setResetLine x).flash = s.flash := rfl
@[simp] theorem State.setResetLine_arbiter (s : State) (x : Line) : (s.setResetLine x).arbiter = s.arbiter := rfl
@[simp] theorem State.setResetLine_intake (s : State) (x : Line) : (s.setResetLine x).intake = s.intake := rfl
@[simp] theorem State.setResetLine_ret (s : State) (x : Line) : (s.setResetLine x).ret = s.ret := rfl
@[simp] theorem State.setResetLine_fresh (s : State) (x : Line) : (s.setResetLine x).fresh = s.fresh := rfl

@[simp] theorem State.setStore_pending (s : State) (t : Store) : (s.setStore t).pending = s.pending := rfl
@[simp] theorem State.setStore_time (s : State) (t : Store) : (s.setStore t).time = s.time := rfl
@[simp] theorem State.setStore_feed (s : State) (t : Store) : (s.setStore t).feed = s.feed := rfl
@[simp] theorem State.setStore_watches (s : State) (t : Store) : (s.setStore t).watches = s.watches := rfl
@[simp] theorem State.setStore_channels (s : State) (t : Store) : (s.setStore t).channels = s.channels := rfl
@[simp] theorem State.setStore_outputs (s : State) (t : Store) : (s.setStore t).outputs = s.outputs := rfl
@[simp] theorem State.setStore_log (s : State) (t : Store) : (s.setStore t).log = s.log := rfl
@[simp] theorem State.setStore_flash (s : State) (t : Store) : (s.setStore t).flash = s.flash := rfl
@[simp] theorem State.setStore_arbiter (s : State) (t : Store) : (s.setStore t).arbiter = s.arbiter := rfl
@[simp] theorem State.setStore_intake (s : State) (t : Store) : (s.setStore t).intake = s.intake := rfl
@[simp] theorem State.setStore_ret (s : State) (t : Store) : (s.setStore t).ret = s.ret := rfl
@[simp] theorem State.setStore_lines (s : State) (t : Store) : (s.setStore t).lines = s.lines := rfl
@[simp] theorem State.setStore_fresh (s : State) (t : Store) : (s.setStore t).fresh = s.fresh := rfl

@[simp] theorem State.setDownload_pending (s : State) (d : Download) : (s.setDownload d).pending = s.pending := rfl
@[simp] theorem State.setDownload_time (s : State) (d : Download) : (s.setDownload d).time = s.time := rfl
@[simp] theorem State.setDownload_feed (s : State) (d : Download) : (s.setDownload d).feed = s.feed := rfl
@[simp] theorem State.setDownload_watches (s : State) (d : Download) : (s.setDownload d).watches = s.watches := rfl
@[simp] theorem State.setDownload_channels (s : State) (d : Download) : (s.setDownload d).channels = s.channels := rfl
@[simp] theorem State.setDownload_outputs (s : State) (d : Download) : (s.setDownload d).outputs = s.outputs := rfl
@[simp] theorem State.setDownload_log (s : State) (d : Download) : (s.setDownload d).log = s.log := rfl
@[simp] theorem State.setDownload_flash (s : State) (d : Download) : (s.setDownload d).flash = s.flash := rfl
@[simp] theorem State.setDownload_arbiter (s : State) (d : Download) : (s.setDownload d).arbiter = s.arbiter := rfl
@[simp] theorem State.setDownload_intake (s : State) (d : Download) : (s.setDownload d).intake = s.intake := rfl
@[simp] theorem State.setDownload_ret (s : State) (d : Download) : (s.setDownload d).ret = s.ret := rfl
@[simp] theorem State.setDownload_lines (s : State) (d : Download) : (s.setDownload d).lines = s.lines := rfl
@[simp] theorem State.setDownload_fresh (s : State) (d : Download) : (s.setDownload d).fresh = s.fresh := rfl

@[simp] theorem State.setWatch_pending (s : State) (i : Fin 5) (w : Watch) : (s.setWatch i w).pending = s.pending := rfl
@[simp] theorem State.setWatch_time (s : State) (i : Fin 5) (w : Watch) : (s.setWatch i w).time = s.time := rfl
@[simp] theorem State.setWatch_feed (s : State) (i : Fin 5) (w : Watch) : (s.setWatch i w).feed = s.feed := rfl
@[simp] theorem State.setWatch_channels (s : State) (i : Fin 5) (w : Watch) : (s.setWatch i w).channels = s.channels := rfl
@[simp] theorem State.setWatch_outputs (s : State) (i : Fin 5) (w : Watch) : (s.setWatch i w).outputs = s.outputs := rfl
@[simp] theorem State.setWatch_log (s : State) (i : Fin 5) (w : Watch) : (s.setWatch i w).log = s.log := rfl
@[simp] theorem State.setWatch_store (s : State) (i : Fin 5) (w : Watch) : (s.setWatch i w).store = s.store := rfl
@[simp] theorem State.setWatch_flash (s : State) (i : Fin 5) (w : Watch) : (s.setWatch i w).flash = s.flash := rfl
@[simp] theorem State.setWatch_arbiter (s : State) (i : Fin 5) (w : Watch) : (s.setWatch i w).arbiter = s.arbiter := rfl
@[simp] theorem State.setWatch_intake (s : State) (i : Fin 5) (w : Watch) : (s.setWatch i w).intake = s.intake := rfl
@[simp] theorem State.setWatch_ret (s : State) (i : Fin 5) (w : Watch) : (s.setWatch i w).ret = s.ret := rfl
@[simp] theorem State.setWatch_lines (s : State) (i : Fin 5) (w : Watch) : (s.setWatch i w).lines = s.lines := rfl
@[simp] theorem State.setWatch_fresh (s : State) (i : Fin 5) (w : Watch) : (s.setWatch i w).fresh = s.fresh := rfl

@[simp] theorem State.storeFrame_pending (s : State) (n : FrameNo) (a : Audio) (c : Bool) : (s.storeFrame n a c).pending = s.pending := rfl
@[simp] theorem State.storeFrame_feed (s : State) (n : FrameNo) (a : Audio) (c : Bool) : (s.storeFrame n a c).feed = s.feed := rfl
@[simp] theorem State.storeFrame_watches (s : State) (n : FrameNo) (a : Audio) (c : Bool) : (s.storeFrame n a c).watches = s.watches := rfl
@[simp] theorem State.storeFrame_channels (s : State) (n : FrameNo) (a : Audio) (c : Bool) : (s.storeFrame n a c).channels = s.channels := rfl
@[simp] theorem State.storeFrame_outputs (s : State) (n : FrameNo) (a : Audio) (c : Bool) : (s.storeFrame n a c).outputs = s.outputs := rfl
@[simp] theorem State.storeFrame_log (s : State) (n : FrameNo) (a : Audio) (c : Bool) : (s.storeFrame n a c).log = s.log := rfl
@[simp] theorem State.storeFrame_store (s : State) (n : FrameNo) (a : Audio) (c : Bool) : (s.storeFrame n a c).store = s.store := rfl
@[simp] theorem State.storeFrame_flash (s : State) (n : FrameNo) (a : Audio) (c : Bool) : (s.storeFrame n a c).flash = s.flash := rfl
@[simp] theorem State.storeFrame_arbiter (s : State) (n : FrameNo) (a : Audio) (c : Bool) : (s.storeFrame n a c).arbiter = s.arbiter := rfl
@[simp] theorem State.storeFrame_intake (s : State) (n : FrameNo) (a : Audio) (c : Bool) : (s.storeFrame n a c).intake = s.intake := rfl
@[simp] theorem State.storeFrame_ret (s : State) (n : FrameNo) (a : Audio) (c : Bool) : (s.storeFrame n a c).ret = s.ret := rfl
@[simp] theorem State.storeFrame_lines (s : State) (n : FrameNo) (a : Audio) (c : Bool) : (s.storeFrame n a c).lines = s.lines := rfl
@[simp] theorem State.storeFrame_fresh (s : State) (n : FrameNo) (a : Audio) (c : Bool) : (s.storeFrame n a c).fresh = s.fresh := rfl

@[simp] theorem State.setReturn_pending (s : State) (t : ReturnLink) : (s.setReturn t).pending = s.pending := rfl
@[simp] theorem State.setReturn_time (s : State) (t : ReturnLink) : (s.setReturn t).time = s.time := rfl
@[simp] theorem State.setReturn_feed (s : State) (t : ReturnLink) : (s.setReturn t).feed = s.feed := rfl
@[simp] theorem State.setReturn_watches (s : State) (t : ReturnLink) : (s.setReturn t).watches = s.watches := rfl
@[simp] theorem State.setReturn_channels (s : State) (t : ReturnLink) : (s.setReturn t).channels = s.channels := rfl
@[simp] theorem State.setReturn_outputs (s : State) (t : ReturnLink) : (s.setReturn t).outputs = s.outputs := rfl
@[simp] theorem State.setReturn_log (s : State) (t : ReturnLink) : (s.setReturn t).log = s.log := rfl
@[simp] theorem State.setReturn_store (s : State) (t : ReturnLink) : (s.setReturn t).store = s.store := rfl
@[simp] theorem State.setReturn_flash (s : State) (t : ReturnLink) : (s.setReturn t).flash = s.flash := rfl
@[simp] theorem State.setReturn_arbiter (s : State) (t : ReturnLink) : (s.setReturn t).arbiter = s.arbiter := rfl
@[simp] theorem State.setReturn_intake (s : State) (t : ReturnLink) : (s.setReturn t).intake = s.intake := rfl
@[simp] theorem State.setReturn_lines (s : State) (t : ReturnLink) : (s.setReturn t).lines = s.lines := rfl
@[simp] theorem State.setReturn_fresh (s : State) (t : ReturnLink) : (s.setReturn t).fresh = s.fresh := rfl

@[simp] theorem State.setFilter_pending (s : State) (i : Fin 16) (x : Option FilterEntry) : (s.setFilter i x).pending = s.pending := rfl
@[simp] theorem State.setFilter_time (s : State) (i : Fin 16) (x : Option FilterEntry) : (s.setFilter i x).time = s.time := rfl
@[simp] theorem State.setFilter_feed (s : State) (i : Fin 16) (x : Option FilterEntry) : (s.setFilter i x).feed = s.feed := rfl
@[simp] theorem State.setFilter_watches (s : State) (i : Fin 16) (x : Option FilterEntry) : (s.setFilter i x).watches = s.watches := rfl
@[simp] theorem State.setFilter_channels (s : State) (i : Fin 16) (x : Option FilterEntry) : (s.setFilter i x).channels = s.channels := rfl
@[simp] theorem State.setFilter_outputs (s : State) (i : Fin 16) (x : Option FilterEntry) : (s.setFilter i x).outputs = s.outputs := rfl
@[simp] theorem State.setFilter_log (s : State) (i : Fin 16) (x : Option FilterEntry) : (s.setFilter i x).log = s.log := rfl
@[simp] theorem State.setFilter_store (s : State) (i : Fin 16) (x : Option FilterEntry) : (s.setFilter i x).store = s.store := rfl
@[simp] theorem State.setFilter_flash (s : State) (i : Fin 16) (x : Option FilterEntry) : (s.setFilter i x).flash = s.flash := rfl
@[simp] theorem State.setFilter_arbiter (s : State) (i : Fin 16) (x : Option FilterEntry) : (s.setFilter i x).arbiter = s.arbiter := rfl
@[simp] theorem State.setFilter_ret (s : State) (i : Fin 16) (x : Option FilterEntry) : (s.setFilter i x).ret = s.ret := rfl
@[simp] theorem State.setFilter_lines (s : State) (i : Fin 16) (x : Option FilterEntry) : (s.setFilter i x).lines = s.lines := rfl
@[simp] theorem State.setFilter_fresh (s : State) (i : Fin 16) (x : Option FilterEntry) : (s.setFilter i x).fresh = s.fresh := rfl

@[simp] theorem State.freePort_pending (s : State) : (s.freePort).pending = s.pending := rfl
@[simp] theorem State.freePort_time (s : State) : (s.freePort).time = s.time := rfl
@[simp] theorem State.freePort_feed (s : State) : (s.freePort).feed = s.feed := rfl
@[simp] theorem State.freePort_watches (s : State) : (s.freePort).watches = s.watches := rfl
@[simp] theorem State.freePort_channels (s : State) : (s.freePort).channels = s.channels := rfl
@[simp] theorem State.freePort_outputs (s : State) : (s.freePort).outputs = s.outputs := rfl
@[simp] theorem State.freePort_log (s : State) : (s.freePort).log = s.log := rfl
@[simp] theorem State.freePort_store (s : State) : (s.freePort).store = s.store := rfl
@[simp] theorem State.freePort_flash (s : State) : (s.freePort).flash = s.flash := rfl
@[simp] theorem State.freePort_intake (s : State) : (s.freePort).intake = s.intake := rfl
@[simp] theorem State.freePort_ret (s : State) : (s.freePort).ret = s.ret := rfl
@[simp] theorem State.freePort_lines (s : State) : (s.freePort).lines = s.lines := rfl
@[simp] theorem State.freePort_fresh (s : State) : (s.freePort).fresh = s.fresh := rfl

@[simp] theorem State.freeBank_pending (s : State) (b : Fin 4) : (s.freeBank b).pending = s.pending := rfl
@[simp] theorem State.freeBank_time (s : State) (b : Fin 4) : (s.freeBank b).time = s.time := rfl
@[simp] theorem State.freeBank_feed (s : State) (b : Fin 4) : (s.freeBank b).feed = s.feed := rfl
@[simp] theorem State.freeBank_watches (s : State) (b : Fin 4) : (s.freeBank b).watches = s.watches := rfl
@[simp] theorem State.freeBank_channels (s : State) (b : Fin 4) : (s.freeBank b).channels = s.channels := rfl
@[simp] theorem State.freeBank_outputs (s : State) (b : Fin 4) : (s.freeBank b).outputs = s.outputs := rfl
@[simp] theorem State.freeBank_log (s : State) (b : Fin 4) : (s.freeBank b).log = s.log := rfl
@[simp] theorem State.freeBank_store (s : State) (b : Fin 4) : (s.freeBank b).store = s.store := rfl
@[simp] theorem State.freeBank_flash (s : State) (b : Fin 4) : (s.freeBank b).flash = s.flash := rfl
@[simp] theorem State.freeBank_intake (s : State) (b : Fin 4) : (s.freeBank b).intake = s.intake := rfl
@[simp] theorem State.freeBank_ret (s : State) (b : Fin 4) : (s.freeBank b).ret = s.ret := rfl
@[simp] theorem State.freeBank_lines (s : State) (b : Fin 4) : (s.freeBank b).lines = s.lines := rfl
@[simp] theorem State.freeBank_fresh (s : State) (b : Fin 4) : (s.freeBank b).fresh = s.fresh := rfl

/-! ### What the updates write -/

@[simp] theorem State.answer_ret (s : State) (tag kind : BitVec 16) (code : ResultCode) (payload : Payload) :
    (s.answer tag kind code payload).ret = s.ret.enqueue { tag := tag, kind := kind, code := code, payload := payload } := rfl

@[simp] theorem State.append_log (s : State) (r : Record) : (s.append r).log = s.log.append r := rfl

@[simp] theorem State.appendAll_log (s : State) (rs : List Record) : (s.appendAll rs).log = s.log.appendAll rs := rfl

@[simp] theorem State.setStore_store (s : State) (t : Store) : (s.setStore t).store = t := rfl

@[simp] theorem State.setReturn_ret (s : State) (t : ReturnLink) : (s.setReturn t).ret = t := rfl

@[simp] theorem State.freePort_port (s : State) : s.freePort.arbiter.port = none := rfl

@[simp] theorem State.freePort_banks (s : State) : s.freePort.arbiter.banks = s.arbiter.banks := rfl

@[simp] theorem State.freeBank_port (s : State) (b : Fin 4) : (s.freeBank b).arbiter.port = s.arbiter.port := rfl

@[simp] theorem State.freeBank_banks (s : State) (b : Fin 4) : (s.freeBank b).arbiter.banks = put s.arbiter.banks b none := rfl

@[simp] theorem State.setWatch_watches (s : State) (i : Fin 5) (w : Watch) :
    (s.setWatch i w).watches = put s.watches i w := rfl

@[simp] theorem State.setFilter_filter (s : State) (i : Fin 16) (x : Option FilterEntry) :
    (s.setFilter i x).intake.filter = put s.intake.filter i x := rfl

@[simp] theorem State.setFilter_linkErrors (s : State) (i : Fin 16) (x : Option FilterEntry) :
    (s.setFilter i x).intake.linkErrors = s.intake.linkErrors := rfl

@[simp] theorem State.linkError_filter (s : State) : s.linkError.intake.filter = s.intake.filter := rfl

end Sys2Proof.Machine
end

