-- ==== Sys2Proof/Laws/Log.lean ====
section
/-! SUPPORT. What one append can do to the as-run log, and what an answer can do to the answer queue. -/

namespace Sys2Proof.Machine

/-- The law of the three points (R116). -/
def Log.pointsLaw (l : Log) : Prop := l.release ≤ l.send ∧ l.send ≤ l.write ∧ l.write - l.release ≤ 512

/-- The retained records stand in their slots under their numbers (R116, R119). -/
def Log.placedLaw (l : Log) : Prop :=
  ∀ n, l.release ≤ n → n < l.write →
    ∃ r, l.slots.get (Fin.ofNat 512 n) = some r ∧ r.sequence = BitVec.ofNat 32 n

theorem Log.append_pointsLaw (l : Log) (r : Record) (h : l.pointsLaw) : (l.append r).pointsLaw := by
  obtain ⟨h1, h2, h3⟩ := h
  unfold Log.append
  split
  · split
    · next hroom =>
      simp only [Log.pointsLaw, Log.store, Config.logSize] at hroom ⊢
      omega
    · next hfull =>
      simp only [Log.pointsLaw, Log.store, Log.overwriteOldest, Config.logSize] at hfull ⊢
      split <;> omega
  · exact ⟨h1, h2, h3⟩

theorem Log.store_placedLaw (l : Log) (r : Record) (h : l.placedLaw) (hsize : l.write - l.release < 512) :
    (l.store r).placedLaw := by
  intro n hn hw
  simp only [Log.store] at hn hw ⊢
  by_cases he : n = l.write
  · subst he
    exact ⟨{ r with sequence := BitVec.ofNat 32 l.write },
      by change (l.slots.set (l.write % 512) _ _)[l.write % 512] = _; simp, rfl⟩
  · obtain ⟨x, hx, hs⟩ := h n hn (by omega)
    refine ⟨x, ?_, hs⟩
    have hne : l.write % 512 ≠ n % 512 := by omega
    change (l.slots.set (l.write % 512) _ _)[n % 512] = _
    rw [Vector.getElem_set_ne _ _ hne]
    exact hx

theorem Log.append_placedLaw (l : Log) (r : Record) (hp : l.pointsLaw) (h : l.placedLaw) : (l.append r).placedLaw := by
  obtain ⟨h1, h2, h3⟩ := hp
  unfold Log.append
  split
  · split
    · next hroom => exact Log.store_placedLaw l r h hroom
    · next hfull =>
      simp only [Config.logSize] at hfull
      apply Log.store_placedLaw
      · intro n hn hw
        simp only [Log.overwriteOldest] at hn hw ⊢
        exact h n (by omega) hw
      · simp only [Log.overwriteOldest]; omega
  · exact h

theorem Log.append_send (l : Log) (r : Record) : l.send ≤ (l.append r).send := by
  unfold Log.append
  split
  · split
    · exact le_rfl
    · simp only [Log.store, Log.overwriteOldest]; split <;> omega
  · exact le_rfl

theorem Log.append_release (l : Log) (r : Record) : l.release ≤ (l.append r).release := by
  unfold Log.append
  split
  · split
    · exact le_rfl
    · simp only [Log.store, Log.overwriteOldest]; omega
  · exact le_rfl

theorem Log.append_write (l : Log) (r : Record) (h : l.write ≤ 0xFFFFFFFF) : (l.append r).write ≤ 0xFFFFFFFF := by
  unfold Log.append
  split
  · next hlt => split <;> simp only [Log.store, Log.overwriteOldest] <;> omega
  · exact h

/-- An append leaves the read cursor where it is (R116). -/
@[simp] theorem Log.append_cursor (l : Log) (r : Record) : (l.append r).cursor = l.cursor := by
  unfold Log.append
  split
  · split <;> rfl
  · rfl

/-- What holds of a log and is kept by one append is kept by several. -/
theorem Log.appendAll_induct (P : Log → Prop) (step : ∀ l r, P l → P (l.append r)) (l : Log) (rs : List Record)
    (h : P l) : P (l.appendAll rs) := by
  unfold Log.appendAll
  induction rs generalizing l with
  | nil => exact h
  | cons r rs ih => exact ih (l.append r) (step l r h)

/-- An answer never makes the queue longer than 16 (R203). -/
theorem ReturnLink.enqueue_length (t : ReturnLink) (a : Answer) (h : t.queue.length ≤ Config.answerQueueSize) :
    (t.enqueue a).queue.length ≤ Config.answerQueueSize := by
  unfold ReturnLink.enqueue
  split
  · next hlt => simp only [List.length_append, List.length_singleton]; omega
  · exact h

@[simp] theorem ReturnLink.enqueue_inFlight (t : ReturnLink) (a : Answer) : (t.enqueue a).inFlight = t.inFlight := by
  unfold ReturnLink.enqueue; split <;> rfl

@[simp] theorem ReturnLink.enqueue_carrier (t : ReturnLink) (a : Answer) : (t.enqueue a).carrier = t.carrier := by
  unfold ReturnLink.enqueue; split <;> rfl

/-- An answer already queued stays queued. -/
theorem ReturnLink.enqueue_nonempty (t : ReturnLink) (a : Answer) (h : t.queue ≠ []) : (t.enqueue a).queue ≠ [] := by
  unfold ReturnLink.enqueue
  split
  · simp
  · exact h

end Sys2Proof.Machine
end

