-- ==== Sys2Proof/Laws/Channel.lean ====
section
/-! SUPPORT. What a channel rule, a cue over several channels and a request at Link Intake can change. -/

namespace Sys2Proof.Machine

/-! ### One channel -/

theorem State.onChannel_channel (s : State) (n : Fin 4) (rule : Env → Desk → Desk) :
    (s.onChannel n rule).channels.get n = (rule (s.env n) (s.desk n)).ch := by
  simp [State.onChannel, State.putDesk]

/-- The other channels stay as they are. -/
theorem State.onChannel_other (s : State) (n m : Fin 4) (rule : Env → Desk → Desk) (h : n ≠ m) :
    (s.onChannel n rule).channels.get m = s.channels.get m := by
  simp [State.onChannel, State.putDesk, get_put_other _ _ _ _ h]

theorem State.onChannel_log (s : State) (n : Fin 4) (rule : Env → Desk → Desk) :
    (s.onChannel n rule).log = s.log.appendAll (rule (s.env n) (s.desk n)).out := rfl

/-- A desk put back as it was taken. -/
@[simp] theorem State.putDesk_desk (s : State) (n : Fin 4) : s.putDesk n (s.desk n) = s := by
  simp [State.putDesk, State.desk, Log.appendAll]

/-- A rule that leaves its desk as it is leaves the state as it is. -/
theorem State.onChannel_same (s : State) (n : Fin 4) (rule : Env → Desk → Desk) (h : rule (s.env n) (s.desk n) = s.desk n) :
    s.onChannel n rule = s := by
  simp [State.onChannel, h]

/-- Of the store a channel rule changes the hold counts alone. -/
theorem State.onChannel_store (s : State) (n : Fin 4) (rule : Env → Desk → Desk) :
    (s.onChannel n rule).store = { s.store with holds := (rule (s.env n) (s.desk n)).holds } := rfl

/-! ### Rules over several channels -/

/-- What every channel rule leaves alone: all of the state but the channels, the hold counts and the log. -/
structure Untouched (s t : State) : Prop where
  pending : t.pending = s.pending
  time : t.time = s.time
  feed : t.feed = s.feed
  watches : t.watches = s.watches
  outputs : t.outputs = s.outputs
  flash : t.flash = s.flash
  arbiter : t.arbiter = s.arbiter
  intake : t.intake = s.intake
  ret : t.ret = s.ret
  lines : t.lines = s.lines
  fresh : t.fresh = s.fresh
  map : t.store.map = s.store.map
  catalog : t.store.catalog = s.store.catalog
  download : t.store.download = s.store.download
  downloadNumber : t.store.downloadNumber = s.store.downloadNumber
  job : t.store.job = s.store.job
  scan : t.store.scan = s.store.scan

theorem Untouched.refl (s : State) : Untouched s s := by constructor <;> rfl

theorem Untouched.trans {s t u : State} (h : Untouched s t) (k : Untouched t u) : Untouched s u := by
  constructor
  · exact k.pending.trans h.pending
  · exact k.time.trans h.time
  · exact k.feed.trans h.feed
  · exact k.watches.trans h.watches
  · exact k.outputs.trans h.outputs
  · exact k.flash.trans h.flash
  · exact k.arbiter.trans h.arbiter
  · exact k.intake.trans h.intake
  · exact k.ret.trans h.ret
  · exact k.lines.trans h.lines
  · exact k.fresh.trans h.fresh
  · exact k.map.trans h.map
  · exact k.catalog.trans h.catalog
  · exact k.download.trans h.download
  · exact k.downloadNumber.trans h.downloadNumber
  · exact k.job.trans h.job
  · exact k.scan.trans h.scan

theorem State.onChannel_untouched (s : State) (n : Fin 4) (rule : Env → Desk → Desk) : Untouched s (s.onChannel n rule) := by
  constructor <;> rfl

/-- What holds of a state and is kept by one channel rule is kept by a cue. -/
theorem State.onOutputs_induct (P : State → Prop) (address : Address) (rule : Env → Desk → Desk)
    (step : ∀ s n, P s → P (s.onChannel n rule)) (s : State) (h : P s) : P (s.onOutputs address rule) := by
  unfold State.onOutputs
  generalize s.intake.resolve address = t
  have fold : ∀ (ns : List (Fin 4)) (s : State), P s →
      P (ns.foldl (fun s n => if t.hasOutput n then s.onChannel n rule else s) s) := by
    intro ns
    induction ns with
    | nil => intro s h; exact h
    | cons n ns ih =>
      intro s h
      refine ih _ ?_
      change P (if t.hasOutput n = true then s.onChannel n rule else s)
      split
      · exact step s n h
      · exact h
  exact fold _ s h

/-- A rule that leaves every desk as it is, on any outputs, leaves the state as it is. -/
theorem State.onOutputs_same (s : State) (address : Address) (rule : Env → Desk → Desk)
    (h : ∀ n, rule (s.env n) (s.desk n) = s.desk n) : s.onOutputs address rule = s := by
  refine State.onOutputs_induct (fun t => t = s) address rule ?_ s rfl
  intro t n ht
  have ht : t = s := ht
  rw [ht]
  exact s.onChannel_same n rule (h n)

theorem State.onChannels_induct (P : State → Prop) (rule : Env → Desk → Desk)
    (step : ∀ s n, P s → P (s.onChannel n rule)) (s : State) (h : P s) : P (s.onChannels rule) := by
  unfold State.onChannels
  have fold : ∀ (ns : List (Fin 4)) (s : State), P s → P (ns.foldl (fun s n => s.onChannel n rule) s) := by
    intro ns
    induction ns with
    | nil => intro s h; exact h
    | cons n ns ih => intro s h; exact ih _ (step s n h)
  exact fold _ s h

theorem State.onOutputs_untouched (s : State) (address : Address) (rule : Env → Desk → Desk) :
    Untouched s (s.onOutputs address rule) :=
  State.onOutputs_induct (Untouched s) address rule (fun t n h => h.trans (t.onChannel_untouched n rule)) s
    (Untouched.refl s)

theorem State.onChannels_untouched (s : State) (rule : Env → Desk → Desk) : Untouched s (s.onChannels rule) :=
  State.onChannels_induct (Untouched s) rule (fun t n h => h.trans (t.onChannel_untouched n rule)) s (Untouched.refl s)

theorem State.cartReady_untouched (s : State) : Untouched s s.cartReady :=
  State.onChannels_untouched s (fun e d => d.retryFill e)

/-! ### Link Intake -/

theorem State.atPart_reached (s : State) (address : Address) (act : State → State)
    (h : (s.intake.resolve address).part = true) : s.atPart address act = act s := by
  simp [State.atPart, h]

theorem State.atPart_missed (s : State) (address : Address) (act : State → State)
    (h : (s.intake.resolve address).part = false) : s.atPart address act = s := by
  simp [State.atPart, h]

/-- The broadcast address reaches the part and all four outputs (R190). -/
@[simp] theorem Intake.resolve_broadcast (t : Intake) :
    t.resolve Config.broadcast = { part := true, outputs := 0xF#4 } := by
  simp [Intake.resolve]

/-! ### Operands -/

theorem field_inside {n x : Nat} (h : x < n) : field n x = some ⟨x, h⟩ := by simp [field, h]

/-- R197: the lengths that a SPLIT_ANNOUNCE may carry. -/
theorem announceLength_iff (length : FrameNo) : announceLength length = true ↔ length ≠ 0 ∧ length.toNat < 2 ^ 31 := by
  simp only [announceLength, inRange, Bool.and_eq_true, decide_eq_true_eq, ne_eq, ← BitVec.toNat_inj]
  simp
  omega

theorem field_outside {n x : Nat} (h : ¬ x < n) : field n x = none := by simp [field, h]

theorem inRange_iff {lo hi x : Nat} : inRange lo hi x = true ↔ lo ≤ x ∧ x ≤ hi := by simp [inRange]

/-! ### Desks -/

@[simp] theorem Desk.record_ch (e : Env) (r : Record) (d : Desk) : (d.record e r).ch = d.ch := rfl

@[simp] theorem Desk.record_holds (e : Env) (r : Record) (d : Desk) : (d.record e r).holds = d.holds := rfl

@[simp] theorem Desk.setEntry_holds (d : Desk) (i : Fin 128) (x : Entry) : (d.setEntry i x).holds = d.holds := rfl

@[simp] theorem Desk.setEntry_out (d : Desk) (i : Fin 128) (x : Entry) : (d.setEntry i x).out = d.out := rfl

@[simp] theorem Desk.setEntry_entry (d : Desk) (i : Fin 128) (x : Entry) : (d.setEntry i x).entry i = x := by
  simp [Desk.setEntry, Desk.entry]

@[simp] theorem Desk.takeHold_ch (cart : Fin 1024) (d : Desk) : (d.takeHold cart).ch = d.ch := rfl

@[simp] theorem Desk.releaseHold_ch (cart : Fin 1024) (d : Desk) : (d.releaseHold cart).ch = d.ch := rfl

@[simp] theorem Desk.setDeck_holds (d : Desk) (k : DeckId) (x : Deck) : (d.setDeck k x).holds = d.holds := rfl

@[simp] theorem Desk.setDeck_out (d : Desk) (k : DeckId) (x : Deck) : (d.setDeck k x).out = d.out := rfl

@[simp] theorem Desk.setDeck_deck (d : Desk) (k : DeckId) (x : Deck) : (d.setDeck k x).deck k = x := by
  cases k <;> rfl

@[simp] theorem Desk.setState_state (x : ChannelState) (d : Desk) : (d.setState x).ch.state = x := rfl

@[simp] theorem Desk.noFillWait_state (d : Desk) : d.noFillWait.ch.state = d.ch.state := rfl

@[simp] theorem Desk.noFillCalled_state (d : Desk) : d.noFillCalled.ch.state = d.ch.state := rfl

@[simp] theorem Desk.noFillCalled_holds (d : Desk) : d.noFillCalled.holds = d.holds := rfl

@[simp] theorem Desk.noFillCalled_out (d : Desk) : d.noFillCalled.out = d.out := rfl

/-- A channel without a plan and a held window has no call to answer. -/
theorem Desk.noFillCalled_free (d : Desk) (plan : d.ch.plan = none) (held : d.ch.held = none) : d.noFillCalled = d := by
  obtain ⟨⟨⟩, holds, out⟩ := d
  dsimp only at plan held
  subst plan held
  rfl

/-- A choice called for waits on, is made with or without success, and is called for no more once a candidate is loaded. -/
theorem Desk.chooseCalled_cases (e : Env) (d : Desk) :
    d.chooseCalled e = d ∨ d.chooseCalled e = d.chooseFill e .named ∨
      d.chooseCalled e = (d.chooseFill e .named).noFillCalled := by
  unfold Desk.chooseCalled
  split
  · exact Or.inl rfl
  · dsimp only
    split
    · exact Or.inr (Or.inr rfl)
    · exact Or.inr (Or.inl rfl)

@[simp] theorem Desk.fillUnwanted_state (d : Desk) : d.fillUnwanted.ch.state = d.ch.state := by
  unfold Desk.fillUnwanted
  split <;> rfl

/-- A deck gives up a frame exactly where it sounds, was READY when its item began, and its buffer holds one (R181, R185). -/
theorem Deck.next?_eq_some (k : Deck) (a : Audio) (rest : List Audio) :
    k.next? = some (a, rest) ↔ k.sounding = true ∧ k.unready = false ∧ k.buffer = a :: rest := by
  unfold Deck.next?
  cases k.sounding <;> cases k.unready <;> cases k.buffer <;> simp

/-- R182 where no deck is starved: nothing is abandoned. -/
theorem Desk.abandon_none (e : Env) (ids : List DeckId) (d : Desk) (h : ∀ id ∈ ids, d.starved id = false) :
    d.abandon e ids = d := by
  unfold Desk.abandon
  rw [List.filter_eq_nil_iff.mpr (fun id m => by simp [h id m])]

/-- R52 where no item is reached: nothing is passed over. -/
theorem Desk.passReached_none (e : Env) (d : Desk) (h : d.reachedItems = []) : d.passReached e = d := by
  simp [Desk.passReached, Desk.passItems, h]

/-- R67 at the end of a fill item: nothing is chosen where no candidate waits. -/
theorem Desk.lookAtHead_noCandidate (e : Env) (d : Desk) (h : d.candidateDeck = none) : d.lookAtHead e = d := by
  unfold Desk.lookAtHead
  cases d.ch.window <;> simp [h]

/-- R67 at the end of a fill item: outside LOCAL nothing is chosen. -/
theorem Desk.lookAtHead_noWindow (e : Env) (d : Desk) (h : d.ch.window = none) : d.lookAtHead e = d := by
  simp [Desk.lookAtHead, h]

/-- R67 at the end of a fill item: a CHANNEL-owned head takes the candidate's place, one item chosen. -/
theorem Desk.lookAtHead_takes (e : Env) (d : Desk) (w : WindowCtx) (hw : d.ch.window = some w) (open' : w.ends = none)
    (waits : d.candidateDeck.isSome = true) (head : d.headEntry.owner = .channel) :
    d.lookAtHead e = d.giveUpCandidate.localNext e false := by
  simp [Desk.lookAtHead, hw, open', waits, head]

/-- A claim either takes a hold and marks its item a holder, or does nothing (R51). -/
theorem Desk.claim_cases (e : Env) (r : ItemRef) (d : Desk) :
    (grantable e.catalog d.holds (d.item r).cart = true ∧
      d.claim e r = (d.takeHold (d.item r).cart).setItem r { d.item r with held := true }) ∨
    (grantable e.catalog d.holds (d.item r).cart = false ∧ d.claim e r = d) := by
  unfold Desk.claim
  cases h : grantable e.catalog d.holds (d.item r).cart <;> simp [h]

/-! ### Watches and windows -/

/-- A trip changes the watches, the feed and the log alone (R17, R20). -/
theorem State.tripWatch_frame (s : State) (i : Fin 5) :
    s.tripWatch i = { s with
      watches := (s.tripWatch i).watches, feed := (s.tripWatch i).feed, log := (s.tripWatch i).log } := by
  unfold State.tripWatch
  dsimp only
  split <;> rfl

/-- A frame observed changes the watches, the feed and the log alone (R17, R18, R20). -/
theorem State.observe_frame (s : State) (i : Fin 5) (x : FrameNo) (depth : Nat) :
    s.observe i x depth = { s with
      watches := (s.observe i x depth).watches, feed := (s.observe i x depth).feed, log := (s.observe i x depth).log } := by
  unfold State.observe
  dsimp only
  split
  · split
    · split
      · exact State.tripWatch_frame _ i
      · rfl
    · split
      · split <;> rfl
      · rfl
  · rfl

/-- R20: a disabled watch observes nothing. -/
theorem State.observe_disabled (s : State) (i : Fin 5) (x : FrameNo) (depth : Nat) (h : (s.watches.get i).enabled = false) :
    s.observe i x depth = s := by
  simp [State.observe, h]

/-- A watch of an output leaves the feed alone (R17, R18). -/
theorem State.observe_feed (s : State) (i : Fin 5) (x : FrameNo) (depth : Nat) (h : i ≠ 0) :
    (s.observe i x depth).feed = s.feed := by
  unfold State.observe
  dsimp only
  split
  · split
    · split
      · simp [State.tripWatch, State.setWatch, State.append, h]
      · rfl
    · split
      · simp [State.setWatch, State.append, h]
      · rfl
  · rfl

/-- Where no fill choice waits no window opens on one (R104). -/
theorem Desk.opensWaiting_settled (e : Env) (d : Desk) (h : d.ch.fill.wait = false) : d.opensWaiting e = false := by
  simp [Desk.opensWaiting, h]

theorem Desk.opensWaiting_unheld (e : Env) (d : Desk) (h : d.ch.held = none) : d.opensWaiting e = false := by
  simp [Desk.opensWaiting, h]

end Sys2Proof.Machine
end

