-- ==== Sys2Proof/Laws/Flash.lean ====
section
/-! SUPPORT. Every operation on the media store keeps its canonical form (`Flash.wf`). -/

namespace Sys2Proof.Machine

theorem trimBytes_trimBytes (l : List Byte) : trimBytes (trimBytes l) = trimBytes l := by
  simp [trimBytes, List.dropWhile_idempotent]

theorem trimPage_trimPage (p : FlashPage) : trimPage (trimPage p) = trimPage p := by
  cases p with
  | void => rfl
  | data l => simp [trimPage, trimBytes_trimBytes]

theorem isBlank_trimPage (p : FlashPage) : isBlank (trimPage p) = isBlank p := by
  simp [isBlank, trimPage_trimPage]

/-- A page as the store lists it: inside the store, trimmed, not blank. -/
def Flash.listed (e : Nat × FlashPage) : Prop :=
  e.1 < Flash.pages ∧ e.2 = trimPage e.2 ∧ isBlank e.2 = false

theorem Flash.wf_iff (m : Flash) :
    m.wf = true ↔ (m.map (·.1)).Pairwise (· < ·) ∧ ∀ e ∈ m, Flash.listed e := by
  simp only [Flash.wf, Bool.and_eq_true, decide_eq_true_eq, List.all_eq_true, Flash.listed, beq_iff_eq,
    Bool.not_eq_true', and_assoc]

/-- Every page listed after a write was listed before, or is the page written. -/
theorem Flash.mem_write (m : Flash) (n : Nat) (p : FlashPage) (e : Nat × FlashPage) (h : e ∈ m.write n p) :
    e ∈ m ∨ (e = (n, trimPage p) ∧ isBlank p = false) := by
  induction m with
  | nil =>
    by_cases hb : isBlank p = true
    · simp [Flash.write, hb] at h
    · simp [Flash.write, hb] at h
      exact Or.inr ⟨h, by simpa using hb⟩
  | cons k rest ih =>
    obtain ⟨a, q⟩ := k
    by_cases hb : isBlank p = true <;> by_cases h1 : n < a <;> by_cases h2 : n = a <;>
      simp [Flash.write, hb, h1, h2] at h ⊢ <;> grind

theorem Flash.write_sorted (m : Flash) (n : Nat) (p : FlashPage) (h : (m.map (·.1)).Pairwise (· < ·)) :
    ((m.write n p).map (·.1)).Pairwise (· < ·) := by
  induction m with
  | nil => by_cases hb : isBlank p = true <;> simp [Flash.write, hb]
  | cons k rest ih =>
    obtain ⟨a, q⟩ := k
    simp only [List.map_cons, List.pairwise_cons, List.mem_map, forall_exists_index, and_imp] at h
    obtain ⟨hhead, htail⟩ := h
    have hrest := ih htail
    unfold Flash.write
    split
    · next hlt =>
      split
      · simpa using ⟨fun x b hb => hhead x (x, b) hb rfl, htail⟩
      · simp only [List.map_cons, List.pairwise_cons, List.mem_cons, List.mem_map]
        refine ⟨?_, ?_, htail⟩
        · rintro x (rfl | ⟨e, he, rfl⟩)
          · exact hlt
          · exact lt_trans hlt (hhead _ e he rfl)
        · rintro x ⟨e, he, rfl⟩
          exact hhead _ e he rfl
    · next hge =>
      split
      · next heq =>
        split
        · exact htail
        · simp only [List.map_cons, List.pairwise_cons, List.mem_map]
          refine ⟨?_, htail⟩
          rintro x ⟨e, he, rfl⟩
          rw [heq]
          exact hhead _ e he rfl
      · next hne =>
        simp only [List.map_cons, List.pairwise_cons, List.mem_map]
        refine ⟨?_, hrest⟩
        rintro x ⟨e, he, rfl⟩
        rcases Flash.mem_write rest n p e he with hm | ⟨rfl, _⟩
        · exact hhead _ e hm rfl
        · exact lt_of_le_of_ne (not_lt.mp hge) (Ne.symm hne)

theorem Flash.write_wf (m : Flash) (n : Nat) (p : FlashPage) (hn : n < Flash.pages) (h : m.wf = true) :
    (m.write n p).wf = true := by
  rw [Flash.wf_iff] at h ⊢
  refine ⟨Flash.write_sorted m n p h.1, fun e he => ?_⟩
  rcases Flash.mem_write m n p e he with hm | ⟨rfl, hb⟩
  · exact h.2 e hm
  · exact ⟨hn, (trimPage_trimPage p).symm, by rw [isBlank_trimPage]; exact hb⟩

theorem Flash.program_wf (m : Flash) (n : Nat) (p : FlashPage) (h : m.wf = true) : (m.program n p).wf = true := by
  unfold Flash.program
  split
  · next hn => exact Flash.write_wf m n p hn h
  · exact h

theorem Flash.eraseUnit_wf (m : Flash) (unit : Nat) (h : m.wf = true) : (m.eraseUnit unit).wf = true := by
  rw [Flash.wf_iff] at h ⊢
  refine ⟨h.1.sublist (List.filter_sublist.map _), fun e he => h.2 e ?_⟩
  exact (List.mem_filter.mp he).1

theorem Flash.loosePages_wf (m : Flash) (fresh unit first n : Nat) (h : m.wf = true) :
    (m.loosePages fresh unit first n).wf = true := by
  induction n with
  | zero => exact h
  | succ n ih => exact Flash.program_wf _ _ _ ih

theorem Flash.partErased_wf (m : Flash) (fresh unit : Nat) (page0 : FlashPage) (h : m.wf = true) :
    (m.partErased fresh unit page0).wf = true :=
  Flash.program_wf _ _ _ (Flash.loosePages_wf m fresh unit 1 63 h)

/-- A page cut short is neither blank nor a mark, and is neither a unit header nor a cart header (R169). -/
theorem cutPage_damaged (p : FlashPage) :
    isBlank (cutPage p) = false ∧ cutPage p ≠ .void ∧ pageBytes (cutPage p) 0 8 ≠ badMark ∧
      checkGood (cutPage p) 8 = false ∧ checkGood (cutPage p) 20 = false := by
  unfold cutPage
  split
  · next h => simpa [and_assoc] using h
  · decide +kernel

/-- R169, R171: a program in flight at a part reset has left its own page, but a cart header's never, or a damaged one. -/
theorem settledPage_cases (fresh : Nat) (p : Program) :
    (p.kind ≠ .cartHeader ∧ settledPage fresh p = p.contents) ∨
      settledPage fresh p = cutPage (Config.freePage fresh (pageNumber p.unit p.page)) := by
  unfold settledPage
  split
  · next h =>
    rw [Bool.and_eq_true, decide_eq_true_eq] at h
    exact Or.inl ⟨h.1, rfl⟩
  · exact Or.inr rfl

/-- R169: a cart header program in flight at a part reset leaves no valid cart header. -/
theorem settledPage_cartHeader (fresh : Nat) (p : Program) (h : p.kind = .cartHeader) :
    checkGood (settledPage fresh p) 20 = false := by
  rcases settledPage_cases fresh p with ⟨hn, _⟩ | hc
  · exact absurd h hn
  · rw [hc]
    exact (cutPage_damaged _).2.2.2.2

/-- Page 1 of a unit is no cart header after a failed operation (R169). -/
theorem Flash.loosePage_page1 (fresh n : Nat) (h : n % Config.pagesPerUnit = 1) :
    checkGood (Flash.loosePage fresh n) 20 = false := by
  rw [Flash.loosePage, if_pos h]
  exact (cutPage_damaged _).2.2.2.2

theorem Flash.settle_wf (m : Flash) (fresh : Nat) (op : Option BankOp) (h : m.wf = true) :
    (m.settle fresh op).wf = true := by
  unfold Flash.settle
  split
  · exact Flash.program_wf _ _ _ h
  · split
    · exact Flash.eraseUnit_wf _ _ h
    · exact Flash.partErased_wf _ _ _ _ h
    · exact Flash.partErased_wf _ _ _ _ h
    · exact Flash.program_wf _ _ _ h
  · exact h
  · exact h

/-- Reading a page just written gives it in its trimmed form, or blank. -/
theorem Flash.read_write_same (m : Flash) (n : Nat) (p : FlashPage) (h : (m.map (·.1)).Pairwise (· < ·)) :
    Flash.read (m.write n p) n = if isBlank p then blankPage else trimPage p := by
  induction m with
  | nil => by_cases hb : isBlank p = true <;> simp [Flash.write, Flash.read, hb]
  | cons k rest ih =>
    obtain ⟨a, q⟩ := k
    simp only [List.map_cons, List.pairwise_cons, List.mem_map, forall_exists_index, and_imp] at h
    have hr := ih h.2
    have hnone : ∀ b, b ≤ a → rest.lookup b = none := by
      intro b hb
      rw [List.lookup_eq_none_iff]
      intro e he
      have := h.1 e.1 e he rfl
      simp only [bne_iff_ne, ne_eq]
      omega
    by_cases h1 : n < a
    · have hne : (n == a) = false := by simpa using ne_of_lt h1
      by_cases hb : isBlank p = true
      · simp [Flash.write, Flash.read, h1, hb, List.lookup_cons, hne, hnone n (le_of_lt h1)]
      · simp [Flash.write, Flash.read, h1, hb]
    · by_cases h2 : n = a
      · subst h2
        by_cases hb : isBlank p = true <;> simp [Flash.write, Flash.read, hb, hnone n le_rfl]
      · have hne : (n == a) = false := by simpa using h2
        simp only [Flash.read] at hr
        simp [Flash.write, Flash.read, h1, h2, List.lookup_cons, hne, hr]

/-- A page that is not blank reads back as written, whatever the list looks like. -/
theorem Flash.read_write_filled (m : Flash) (n : Nat) (p : FlashPage) (hb : isBlank p = false) :
    Flash.read (m.write n p) n = trimPage p := by
  induction m with
  | nil => simp [Flash.write, Flash.read, hb]
  | cons e rest ih =>
    obtain ⟨a, q⟩ := e
    by_cases h1 : n < a
    · simp [Flash.write, Flash.read, h1, hb]
    · by_cases h2 : n = a
      · simp [Flash.write, Flash.read, h2, hb]
      · have hne : (n == a) = false := by simpa using h2
        simp only [Flash.read] at ih
        simp [Flash.write, Flash.read, h1, h2, List.lookup_cons, hne, ih]

/-- R138: a failed erase leaves the void mark in page 0 of its unit. -/
theorem Flash.read_partErased_page0 (m : Flash) (fresh unit : Nat) (h : unit < 4096) :
    Flash.read (m.partErased fresh unit .void) (unit * 64) = .void := by
  have hp : pageNumber unit 0 = unit * 64 := by simp [pageNumber, Config.pagesPerUnit]
  have hin : unit * 64 < Flash.pages := by simp only [Flash.pages]; omega
  unfold Flash.partErased Flash.program
  rw [hp, if_pos hin]
  exact Flash.read_write_filled _ _ _ (by decide)

/-- A write leaves every other page as it was. -/
theorem Flash.read_write_other (m : Flash) (n k : Nat) (p : FlashPage) (h : k ≠ n) :
    Flash.read (m.write n p) k = Flash.read m k := by
  induction m with
  | nil =>
    by_cases hb : isBlank p = true
    · simp [Flash.write, Flash.read, hb]
    · have hne : (k == n) = false := by simpa using h
      simp [Flash.write, Flash.read, hb, List.lookup_cons, hne]
  | cons e rest ih =>
    obtain ⟨a, q⟩ := e
    simp only [Flash.read] at ih
    have hne : (k == n) = false := by simpa using h
    by_cases h1 : n < a
    · by_cases hb : isBlank p = true <;> simp [Flash.write, Flash.read, h1, hb, List.lookup_cons, hne]
    · by_cases h2 : n = a
      · subst h2
        by_cases hb : isBlank p = true <;> simp [Flash.write, Flash.read, hb, List.lookup_cons, hne]
      · by_cases h3 : k = a
        · subst h3; simp [Flash.write, Flash.read, h1, h2]
        · have hka : (k == a) = false := by simpa using h3
          simp [Flash.write, Flash.read, h1, h2, List.lookup_cons, hka, ih]

end Sys2Proof.Machine
end

