-- ==== Sys2Proof/Laws/Pages.lean ====
section
/-! SUPPORT. Bytes and pages: numbers and audio read back as they were written, and a content page passes its check. -/

namespace Sys2Proof.Machine

theorem bytesOf_length (n x : Nat) : (bytesOf n x).length = n := by
  induction n generalizing x with
  | zero => rfl
  | succ n ih => simp [bytesOf, ih]

theorem numberOf_append (l : List Byte) (b : Byte) : numberOf (l ++ [b]) = numberOf l * 256 + b.toNat := by
  simp [numberOf]

/-- A number that fits n bytes is read back from them. -/
theorem numberOf_bytesOf (n x : Nat) (h : x < 256 ^ n) : numberOf (bytesOf n x) = x := by
  induction n generalizing x with
  | zero => simp at h; simp [bytesOf, numberOf, h]
  | succ n ih =>
    have k : x / 256 < 256 ^ n := by
      rw [Nat.div_lt_iff_lt_mul (by decide)]
      rwa [Nat.pow_succ] at h
    rw [bytesOf, numberOf_append, ih _ k, BitVec.toNat_ofNat]
    omega

theorem audioBytes_length (a : Audio) : (audioBytes a).length = 3 * a.length := by
  induction a with
  | nil => rfl
  | cons x a ih =>
    have e : audioBytes (x :: a) = bytesOf 3 x.toNat ++ audioBytes a := rfl
    rw [e, List.length_append, bytesOf_length, ih, List.length_cons]
    omega

/-- A sample is read back from its three bytes. -/
theorem audioOf_audioBytes (a : Audio) : audioOf (audioBytes a) = a := by
  induction a with
  | nil => rfl
  | cons x a ih =>
    have e : audioBytes (x :: a) = bytesOf 3 x.toNat ++ audioBytes a := rfl
    rw [e]
    simp only [bytesOf, List.nil_append, List.cons_append, audioOf, ih, List.cons.injEq, and_true]
    apply BitVec.eq_of_toNat_eq
    have h := x.isLt
    simp only [BitVec.toNat_append, BitVec.toNat_ofNat]
    rw [← Nat.shiftLeft_add_eq_or_of_lt (by omega), ← Nat.shiftLeft_add_eq_or_of_lt (by omega)]
    simp only [Nat.shiftLeft_eq]
    omega

theorem pageBytes_leading (b rest : List Byte) : pageBytes (.data (b ++ rest)) 0 b.length = b := by
  simp [pageBytes]

theorem pageBytes_after (b rest : List Byte) : pageBytes (.data (b ++ rest)) b.length rest.length = rest := by
  simp [pageBytes]

/-- Bytes followed by a number pass their check where the number is their check. -/
theorem checkGood_data (b : List Byte) (x : Nat) (h : x < 256 ^ 4) :
    checkGood (.data (b ++ bytesOf 4 x)) b.length = decide ((check b).toNat = x) := by
  have k := pageBytes_after b (bytesOf 4 x)
  rw [bytesOf_length] at k
  simp [checkGood, pageBytes_leading, k, numberOf_bytesOf _ _ h]

/-- Bytes followed by their own check pass it. -/
theorem checkGood_sealed (b : List Byte) : checkGood (.data (b ++ bytesOf 4 (check b).toNat)) b.length = true := by
  rw [checkGood_data b _ (check b).isLt]
  simp

/-- A content page of eight audio frames passes its page check. -/
theorem contentFrames_contentPage (fs : List Audio) (h : (fs.flatMap audioBytes).length = 9216) :
    (contentFrames (contentPage fs)).isSome = true := by
  have k := checkGood_sealed (fs.flatMap audioBytes)
  rw [h] at k
  simp [contentFrames, contentPage, k]

/-- Eight audio frames followed by another number than their check fail it. -/
theorem contentFrames_damaged (b : List Byte) (x : Nat) (h : b.length = 9216) (hx : x < 256 ^ 4) (k : (check b).toNat ≠ x) :
    contentFrames (.data (b ++ bytesOf 4 x)) = none := by
  have g := checkGood_data b x hx
  rw [h] at g
  simp [contentFrames, g, k]

end Sys2Proof.Machine
end

