-- ==== Sys2Proof/Laws/Store.lean ====
section
/-! SUPPORT. What the operations over the unit map and the sums of the composer do. -/

namespace Sys2Proof.Machine

/-! ### The unit map -/

theorem UnitMap.at_mark (m : UnitMap) (unit u : Nat) (x : UnitState) (h : u < 4096) :
    UnitMap.at (UnitMap.mark m unit x) u = if u = unit then some x else UnitMap.at m u := by
  unfold UnitMap.at UnitMap.mark
  by_cases e : u = unit
  · subst e
    simp [h]
  · have e' : ¬ unit = u := fun k => e k.symm
    simp [e, e']

theorem UnitMap.at_markRun (m : UnitMap) (first n u : Nat) (x : UnitState) (h : u < 4096) :
    UnitMap.at (UnitMap.markRun m first x n) u = if first ≤ u ∧ u < first + n then some x else UnitMap.at m u := by
  induction n with
  | zero =>
    have : ¬ (first ≤ u ∧ u < first + 0) := by omega
    rw [if_neg this]
    rfl
  | succ n ih =>
    show UnitMap.at (UnitMap.mark (UnitMap.markRun m first x n) (first + n) x) u = _
    rw [UnitMap.at_mark _ _ _ _ h, ih]
    by_cases e : u = first + n
    · subst e
      simp
    · by_cases k : first ≤ u ∧ u < first + n
      · rw [if_neg e, if_pos k, if_pos (by omega)]
      · rw [if_neg e, if_neg k, if_neg (by omega)]

/-! ### The composer -/

theorem addSource_length (g : Gain) (sums : List Int) (a : Audio) : (addSource g sums a).length = sums.length := by
  induction sums generalizing a with
  | nil => rfl
  | cons x sums ih => cases a with
    | nil => rfl
    | cons y a => simp [addSource, ih]

/-- Whatever the sources, an output frame holds one audio frame. -/
theorem mix_length (sources : List (Gain × Audio)) : (mix sources).length = Audio.size := by
  have h : ∀ (l : List (Gain × Audio)) (sums : List Int),
      (l.foldl (fun sums s => addSource s.1 sums s.2) sums).length = sums.length := by
    intro l
    induction l with
    | nil => intro sums; rfl
    | cons s l ih => intro sums; rw [List.foldl_cons, ih, addSource_length]
  simp [mix, h]

end Sys2Proof.Machine
end

