-- ==== Sys2Proof/WellFormed.lean ====
section
/-! DEFINITION. The commands that the spec's own sources can give: a check on the operands that its types do not make. -/

namespace Sys2Proof

/-- An audio frame has 384 samples (chapter 12). -/
def Audio.wellFormed (a : Audio) : Bool := decide (a.length = Audio.size)

/-- The command can be given: audio is one frame long; an unknown kind is not listed in Table 12-3; CHANNEL_MODE with mode 1
is the row CHANNEL_MODE_BYPASS; the bytes of a bad frame do not make a frame that another row stands for. -/
def Instr.wellFormed : Instr → Bool
  | .programmeFrame _ audio => audio.wellFormed
  | .segmentFrame _ _ _ audio => audio.wellFormed
  | .unknownKind _ _ kind => (Machine.blockSize kind).isNone
  | .channelModeInService _ _ _ mode => decide (mode ≠ 1)
  | .badLinkFrame bytes =>
    match Machine.inboundOf bytes with
    | .command _ => false
    | .damaged => true
    | .badCue _ => true
  | _ => true

end Sys2Proof
end

