-- ==== Sys2Proof/Tests/Slice0.lean ====
section
/-! SUPPORT. Tests of the model: WellFormed's checks, the check function, one or two small steps of each command, and for
every statement with hypotheses a state and operands that meet them. -/

set_option Elab.async false
set_option synthInstance.maxSize 2048
set_option synthInstance.maxHeartbeats 400000

namespace Sys2Proof.Tests

open Sys2Proof.Machine

/-! ### Helpers -/

abbrev bc : Address := Config.broadcast

/-- The next state of a command. -/
def after (c : Instr) (s : State) : State :=
  match exec c s with
  | .next t => t
  | .fault _ => s
  | .refused _ => s

/-- Commands one after another. -/
def run (cs : List Instr) (s : State) : State := cs.foldl (fun s c => after c s) s

/-- The code and payload of the newest answer. -/
def lastAnswer (s : State) : Option Answer := s.ret.queue.getLast?

def lastCode (s : State) : Option ResultCode := (lastAnswer s).map (·.code)

/-- The newest record. -/
def lastRecord (s : State) : Option Record := s.log.slots.get (Fin.ofNat 512 (s.log.write - 1))

def lastKind (s : State) : Option RecordKind := (lastRecord s).map (·.kind)

/-- After the scan, with cart 3 READY: 40 frames, segue-out 10, in unit 2 of bank 1. -/
def base : State :=
  let entry : CatalogEntry :=
    { state := .ready, run := some { bank := 1, first := 2, count := 1 }, size := some { length := 40, segueOut := 10 },
      check := some 0, download := none }
  { State.reset with store := { State.reset.store with
      scan := { State.reset.store.scan with done := true }, catalog := put State.reset.store.catalog 3 entry } }

/-- A channel of the base state, out of BYPASS. -/
def channel (x : ChannelState) : Channel := { State.reset.channels.get 0 with state := x }

/-- The base state with channel 0 given. -/
def on (c : Channel) : State := base.withChannel 0 c

/-- P = 1000 and the feed LOCKED at frame 1250. -/
def locked (s : State) : State :=
  { s with
    time := { s.time with position := some 1000, nextPosition := some 1001 }
    feed := { s.feed with state := .locked, last := some 1250 } }

/-- An entry with item A of cart 3 alone, first and last of break 7. -/
def entry3 : Entry :=
  let item (c : Fin 1024) : Item := { cart := c, result := .none, provisional := false, aired := 0, held := false }
  { owner := .channel, breakNo := 7, first := true, last := true, endOfRing := false, chained := false, droppable := false,
    segue := .cut, itemA := item 3, itemB := item 0, chainTo := none, start := none }

/-- The channel with entry 0 of its ring that entry. -/
def ringed (c : Channel) : Channel := { c with ring := put c.ring 0 entry3 }

/-- One audio frame of a constant sample. -/
def tone (x : Sample) : Audio := List.replicate 384 x

/-! ### WellFormed refuses -/

theorem test_wellFormed_programme : (Instr.programmeFrame 1 (tone 0)).wellFormed = true := by decide +kernel
theorem test_illFormed_programme : (Instr.programmeFrame 1 [0]).wellFormed = false := by decide +kernel
theorem test_illFormed_segment : (Instr.segmentFrame 1 3 0 []).wellFormed = false := by decide +kernel
theorem test_illFormed_unknownKind : (Instr.unknownKind 1 2 0x001A).wellFormed = false := by decide +kernel
theorem test_illFormed_mode : (Instr.channelModeInService 1 2 0 1).wellFormed = false := by decide +kernel

/-- A REQUEST frame of 17 bytes: STATUS_QUERY with clear 1 to the broadcast address, tag 0201h. -/
def statusBytes : List Byte :=
  let b : List Byte := [3, 0, 0, 17, 0xFF, 0xFF, 0xFF, 0xFF, 0x02, 0x01, 0x00, 0x1A, 1]
  b ++ bytesOf 4 (check b).toNat

theorem test_statusBytes : inboundOf statusBytes = .command (.statusQuery bc 0x0201 1) := by decide +kernel
theorem test_illFormed_badFrame : (Instr.badLinkFrame statusBytes).wellFormed = false := by decide +kernel

/-! ### The check function (section 12.1) -/

theorem test_check_digits :
    check [0x31, 0x32, 0x33, 0x34, 0x35, 0x36, 0x37, 0x38, 0x39] = 0xCBF43926#32 := by decide +kernel

/-! ### Periods, and what comes about in them -/

theorem test_outputPeriod_position : (after .outputPeriod (locked base)).time.position = some 1001 := by decide +kernel

theorem test_outputPeriod_beforeLock :
    (after .outputPeriod base).time.position = none ∧
      ((after .outputPeriod base).outputs.get 2).emitted.map (·.origin) = some .silence := by decide +kernel

/-- A fill item of cart 3 fading out over the network, on a channel in PASS. -/
def fadingDeck : Deck :=
  { Deck.reset with state := .fading, item := some (.fill 2), cart := 3, consecutive := 25, underruns := 30 }

theorem test_deckUnderrunAbandon :
    let t := after (.deckUnderrunAbandon 0 .a) (on { channel .pass with deckA := fadingDeck })
    (t.channels.get 0).deckA.state = .idle ∧
      (lastRecord t).map (fun r => (r.kind, r.reason, r.detail)) = some (.item, some (.result .mediaFault), some 30) := by
  decide +kernel

/-- A feed watch that has run for its window. -/
def runWatch : Watch :=
  { threshold := 40, direction := .quiet, window := 3, enabled := true, tripped := false, run := 3, first := some 1248,
    extreme := 90 }

theorem test_watchTrip :
    let t := after (.watchTrip 0) { locked base with watches := put base.watches 0 runWatch }
    t.feed.state = .silent ∧ (t.watches.get 0).tripped = true ∧ lastKind t = some .watchTrip := by decide +kernel

/-- The feed LOCKED with an idle count. -/
def idleFor (n : Nat) : State := { locked base with feed := { (locked base).feed with idle := n } }

theorem test_feedLost : (after .feedLost (idleFor 25)).feed.state = .lost ∧ (after .feedLost (idleFor 24)).feed.state = .locked := by
  decide +kernel

theorem test_scheduleTimerExpiry :
    ((after (.scheduleTimerExpiry 0) (locked (on { channel .pass with timer := some { target := 990, period := 4 } }))).channels.get
      0).timer = some { target := 1002, period := 4 } := by decide +kernel

/-! ### Frames of the distribution link -/

theorem test_programmeFrame_firstLock :
    let t := after (.programmeFrame 5000 (tone 1)) base
    t.feed.state = .locked ∧ t.time.nextPosition = some 4750 ∧ lastKind t = some .feedRestored := by decide +kernel

theorem test_programmeFrame_gap :
    let t := after (.programmeFrame 1252 (tone 1)) (locked base)
    t.feed.last = some 1252 ∧ (t.time.line.get (Fin.ofNat 512 1251)).map (·.concealed) = some true := by decide +kernel

/-- Channel 0 in a state, with entry 0 of its ring waiting. -/
def waiting (x : ChannelState) : State := locked (on (ringed (channel x)))

theorem test_splitAnnounce_plan :
    let t := after (.splitAnnounce bc 7 1100 50) (waiting .pass)
    (t.channels.get 0).plan.map (·.planned) = some 40 ∧ (t.channels.get 0).head = 1 ∧ t.store.holds.get 3 = 1 := by
  decide +kernel

theorem test_splitAnnounce_late :
    (lastRecord (after (.splitAnnounce bc 7 900 50) (waiting .pass))).map (·.reason) = some (some .cueLate) := by decide +kernel

theorem test_splitCancel :
    ((run [.splitAnnounce bc 7 1100 50, .splitCancel bc 7 1100] (waiting .pass)).channels.get 0).plan = none := by decide +kernel

theorem test_windowOpen :
    ((after (.windowOpen bc 1200 none) (waiting .pass)).channels.get 0).held.map (·.opens) = some 1200 := by decide +kernel

theorem test_windowClose :
    ((run [.windowOpen bc 1200 none, .windowClose bc 1300] (waiting .pass)).channels.get 0).held.map (·.closes)
      = some (some 1300) := by decide +kernel

/-- Channel 0 triggered by its FIRE line. -/
def onLine (x : ChannelState) : Channel :=
  { ringed (channel x) with settings := { (channel x).settings with source := .line } }

theorem test_fireEdge_break :
    ((run [.fireEdge 0 .falls, .fireEdge 0 .heldLow] (locked (on (onLine .pass)))).channels.get 0).state = .brk := by
  decide +kernel

theorem test_fireEdge_once :
    (run [.fireEdge 0 .falls, .fireEdge 0 .heldLow, .fireEdge 0 .falls] base).lines.fire.get 0 = .spent := by decide +kernel

theorem test_fireLineReturnHigh :
    (run [.fireEdge 1 .falls, .fireLineReturnHigh 1] base).lines.fire.get 1 = .high := by decide +kernel

/-- The base state with unit 5 of bank 0 erased and a download of cart 9 opened on it. -/
def loading : State :=
  after (.cartOpen bc 1 9 0 5 1 16 0)
    { base with store := { base.store with map := UnitMap.mark base.store.map 5 .erased } }

theorem test_cartOpen :
    lastCode loading = some .done ∧ UnitMap.at loading.store.map 5 = some .claimed ∧
      (loading.store.catalog.get 9).state = .loading := by decide +kernel

theorem test_cartOpen_notErased : lastCode (after (.cartOpen bc 1 9 0 6 1 16 0) base) = some .notErased := by decide +kernel

theorem test_segmentFrame :
    (after (.segmentFrame bc 9 0 (tone 1)) loading).store.download.map (fun d => (d.expected, d.x.state, d.nextPage))
      = some (1, .filling, 1) := by decide +kernel

theorem test_segmentFrame_offset :
    (after (.segmentFrame bc 9 1 (tone 1)) loading).store.download.map (fun d => (d.expected, d.errors)) = some (0, 1) := by
  decide +kernel

theorem test_badLinkFrame : (after (.badLinkFrame [1, 2, 3]) base).intake.linkErrors = 1 := by decide +kernel

/-! ### Requests -/

theorem test_feedSet : (after (.feedSet bc 1 250) base).feed.lossWait = 250 ∧ lastCode (after (.feedSet bc 1 4) base) = some .badField := by
  decide +kernel

theorem test_delaySet :
    (after (.delaySet bc 1 500) base).time.delay = 500 ∧ lastCode (after (.delaySet bc 1 500) (waiting .pass)) = some .state := by
  decide +kernel

theorem test_watchSet :
    (after (.watchSet bc 1 4 96 1 15000 1) base).watches.get 4
      = { threshold := 96, direction := .loud, window := 15000, enabled := true, tripped := false, run := 0, first := none,
          extreme := 0 } := by decide +kernel

theorem test_roWrite : ((after (.roWrite bc 1 0 0 7 3 0 3 0) base).channels.get 0).ring.get 0 = entry3 := by decide +kernel

theorem test_roWrite_owned : lastCode (after (.roWrite bc 1 0 0 7 3 0 3 0) (waiting .pass)) = some .owned := by decide +kernel

theorem test_roRevoke :
    (((after (.roRevoke bc 1 0 0) (waiting .pass)).channels.get 0).ring.get 0).itemA.result = .revoked := by decide +kernel

theorem test_roRead : lastAnswer (after (.roRead bc 1 0 0) (waiting .pass))
    = some { tag := 1, kind := 0x0006, code := .done, payload := .ringEntry entry3 0 } := by decide +kernel

theorem test_roHead : ((after (.roHead bc 1 0 127) base).channels.get 0).head = 127 := by decide +kernel

theorem test_channelModeInService : ((after (.channelModeInService bc 1 0 0) base).channels.get 0).state = .pass := by
  decide +kernel

theorem test_channelModeInService_scanning :
    lastCode (after (.channelModeInService bc 1 0 0) State.reset) = some .scanning := by decide +kernel

theorem test_channelModeBypass : ((after (.channelModeBypass bc 1 0) (waiting .pass)).channels.get 0).state = .bypass := by
  decide +kernel

theorem test_channelSet :
    ((after (.channelSet bc 1 0 3 1 64 250 75000 1 1) base).channels.get 0).settings
      = { source := .command, policy := .fill, fade := 64, pad := 250, guard := 75000, silenceFallback := true,
          fillMode := .rotate } := by decide +kernel

theorem test_channelClear :
    let c := (after (.channelClear bc 1 0) (waiting .pass)).channels.get 0
    c.state = .bypass ∧ (c.ring.get 0).owner = .loader ∧ (c.ring.get 0).itemA.result = .cleared := by decide +kernel

theorem test_timerSet :
    ((after (.timerSet bc 1 0 1 1001 21600000) (waiting .pass)).channels.get 0).timer
      = some { target := 1001, period := 21600000 } := by decide +kernel

/-- Channel 0 triggered by TAKE. -/
def onTake (x : ChannelState) : State :=
  locked (on { ringed (channel x) with settings := { (channel x).settings with source := .command } })

theorem test_take :
    let t := after (.take bc 1 0 0) (onTake .pass)
    lastCode t = some .done ∧ (t.channels.get 0).state = .brk ∧ (t.channels.get 0).deckA.state = .priming := by decide +kernel

theorem test_take_refused : lastCode (after (.take bc 1 0 0) (onTake .bypass)) = some .state := by decide +kernel

theorem test_fillSet : ((after (.fillSet bc 1 0 15 1023) base).channels.get 0).fill.slots.get 15 = 1023 := by decide +kernel

theorem test_fillRange :
    let f := ((after (.fillRange bc 1 0 4 2) base).channels.get 0).fill
    (f.start, f.stop, f.cursor) = (4, 2, 4) := by decide +kernel

/-- The cursor, write and record kinds of a LOG_READ answer. -/
def logReadOf : Payload → Option (BitVec 32 × Nat × List RecordKind)
  | .logRead c p rs => some (c, p.write, rs.map (·.kind))
  | _ => none

theorem test_logRead :
    (lastAnswer (after (.logRead bc 1 1 2 0) base)).map (fun a => logReadOf a.payload)
      = some (some (3, 2, [.restart, .none])) := by decide +kernel

theorem test_logSeek : (after (.logSeek bc 1 77) base).log.cursor = 77 := by decide +kernel

theorem test_logRelease :
    lastCode (after (.logRelease bc 1 2) base) = some .range ∧ lastCode (after (.logRelease bc 1 1) base) = some .done := by
  decide +kernel

theorem test_cartQuery :
    (lastAnswer (after (.cartQuery bc 1 3) base)).map (·.payload) = some (.cart (base.store.catalog.get 3) 0 none) := by
  decide +kernel

theorem test_unitQuery :
    (lastAnswer (after (.unitQuery bc 1 0 5 1) loading)).map (·.payload) = some (.units [(some .claimed, 9)]) := by decide +kernel

theorem test_cartDelete : ((after (.cartDelete bc 1 3) base).store.catalog.get 3).state = .empty := by decide +kernel

theorem test_cartDelete_loading :
    let t := after (.cartDelete bc 1 9) loading
    t.store.download = none ∧ UnitMap.at t.store.map 5 = some .dirty := by decide +kernel

/-- The base state with unit 6 of bank 0 dirty. -/
def dirty : State := { base with store := { base.store with map := UnitMap.mark base.store.map 6 .dirty } }

theorem test_unitErase :
    (after (.unitErase bc 1 0 5 3) dirty).store.job.map (·.units) = some [6] ∧
      (lastAnswer (after (.unitErase bc 1 0 7 3) dirty)).map (·.payload) = some (.erase 0 0) := by decide +kernel

theorem test_cartClose_torn :
    let t := after (.cartClose bc 2 9 0) loading
    lastCode t = some .torn ∧ (t.store.catalog.get 9).state = .torn ∧ lastKind t = some .cartTorn := by decide +kernel

theorem test_cartClose_state : lastCode (after (.cartClose bc 2 8 0) loading) = some .state := by decide +kernel

theorem test_filterSet :
    (after (.filterSet bc 1 15 0 5 99) base).intake.filter.get 15 = some { address := 99, part := false, outputs := 5 } := by
  decide +kernel

theorem test_filterClear :
    (run [.filterSet bc 1 15 0 5 99, .filterClear bc 1 15] base).intake.filter.get 15 = none ∧
      lastCode (after (.filterClear bc 1 0) base) = some .state := by decide +kernel

theorem test_statusQuery :
    let t := after (.statusQuery bc 1 1) { base with ret := { base.ret with answerLost := true } }
    t.ret.answerLost = false ∧ lastCode t = some .done := by decide +kernel

theorem test_resetPart :
    let t := after (.resetPart bc 1) (waiting .pass)
    t.feed.state = .noLock ∧ t.ret.queue = [] ∧ t.log.write = 2 := by decide +kernel

theorem test_unknownKind : lastAnswer (after (.unknownKind bc 1 0x7777) base)
    = some { tag := 1, kind := 0x7777, code := .unknownKind, payload := .empty } := by decide +kernel

/-! ### Supply and RESET line -/

theorem test_powerOn : (after .powerOn loading).store.download = none ∧ (after .powerOn loading).store.scan.done = false := by
  decide +kernel

theorem test_resetLine :
    (run [.resetLine .falls, .resetLine .heldLow] (waiting .pass)).feed.state = .noLock ∧
      (run [.resetLine .falls] (waiting .pass)).feed.state = .locked := by decide +kernel

theorem test_resetLineReturnHigh : (run [.resetLine .falls, .resetLineReturnHigh] base).lines.reset = .high := by decide +kernel

/-! ### Media port -/

/-- Channel 0 has begun the head break: deck A primes content page 0 of cart 3. -/
def priming : State := after (.take bc 1 0 0) (onTake .pass)

theorem test_mediaPortGrant :
    let t := after .mediaPortGrant priming
    t.arbiter.port = some (.deckRead 0 .a 1 0 1 false) ∧ t.arbiter.banks.get 1 = some .read := by decide +kernel

theorem test_deckReadComplete_failed :
    let t := run [.mediaPortGrant, .deckReadComplete .failed] priming
    t.arbiter.port = none ∧ (t.channels.get 0).deckA.retries = 1 := by decide +kernel

/-- The read granted at its fourth attempt. -/
def lastAttempt : State :=
  let t := after .mediaPortGrant priming
  t.withChannel 0 { t.channels.get 0 with deckA := { (t.channels.get 0).deckA with retries := 3 } }

theorem test_readRetriesExhausted :
    let t := after .readRetriesExhausted lastAttempt
    (((t.channels.get 0).ring.get 0).itemA.result = .mediaFault) ∧ (t.channels.get 0).deckA.state = .idle ∧
      t.store.holds.get 3 = 0 := by decide +kernel

theorem test_scanReadComplete :
    let t := run [.mediaPortGrant, .scanReadComplete .stored] State.reset
    t.store.scan.banks.get 0 = { read := some { unit := 1, page1 := false }, attempt := 1 } ∧
      t.store.scan.classAt 0 = some .blank := by decide +kernel

/-- A unit header program of the download under way on bank 0. -/
def programming (port : Option Transaction) : State :=
  let p : Program := { kind := .unitHeader, unit := 5, ordinal := 0, page := 0, contents := unitHeaderPage 9 0 0 }
  { loading with
    store := { loading.store with download := loading.store.download.map (fun d => { d with inFlight := some p }) }
    arbiter := { loading.arbiter with port := port, banks := put loading.arbiter.banks 0 (some (.program p 9 1)) } }

theorem test_programTransferEnd : (after .programTransferEnd (programming (some (.program 0)))).arbiter.port = none := by
  decide +kernel

theorem test_programComplete :
    let t := after (.programComplete 0 true) (programming none)
    Flash.read t.flash 320 = unitHeaderPage 9 0 0 ∧ (t.store.download.map (·.inFlight)) = some none ∧
      t.arbiter.banks.get 0 = none := by decide +kernel

theorem test_programComplete_failed :
    let t := after (.programComplete 0 false) (programming none)
    UnitMap.at t.store.map 5 = some .bad ∧ (t.store.catalog.get 9).state = .torn := by decide +kernel

/-- The erase of unit 6 under way on bank 0, as the last of its job. -/
def erasing (port : Option Transaction) : State :=
  { dirty with
    store := { dirty.store with
      job := some { tag := 4, bank := 0, units := [], inFlight := some 6, erased := 2, failed := 0 } }
    arbiter := { dirty.arbiter with port := port, banks := put dirty.arbiter.banks 0 (some (.erase 6)) } }

theorem test_eraseCommandEnd : (after .eraseCommandEnd (erasing (some (.erase 0)))).arbiter.port = none := by decide +kernel

theorem test_eraseComplete :
    let t := after (.eraseComplete 0 true) (erasing none)
    UnitMap.at t.store.map 6 = some .erased ∧ t.store.job = none ∧
      (lastAnswer t).map (·.payload) = some (.erase 3 0) := by decide +kernel

theorem test_eraseComplete_failed :
    let t := after (.eraseComplete 0 false) (erasing none)
    UnitMap.at t.store.map 6 = some .bad ∧ lastKind t = some .unitBad := by decide +kernel

/-! ### Return link -/

/-- One answer waits. -/
def answered : State := after (.logSeek bc 1 77) base

theorem test_answerFrameStart : (after .answerFrameStart answered).ret.inFlight = some .answer := by decide +kernel

theorem test_answerFrameComplete : (run [.answerFrameStart, .answerFrameComplete] answered).ret.queue = [] := by decide +kernel

theorem test_reportFrameStart :
    (after .reportFrameStart base).log.send = 2 ∧ (after .reportFrameStart answered).log.send = 1 := by decide +kernel

theorem test_reportFrameComplete : (run [.reportFrameStart, .reportFrameComplete] base).ret.inFlight = none := by decide +kernel

theorem test_carrierLoss :
    (run [.reportFrameStart, .carrierLoss] base).log.send = 1 ∧
      (run [.reportFrameStart, .carrierLoss] base).ret.carrier = false := by decide +kernel

theorem test_carrierReturn : (run [.carrierLoss, .carrierReturn] base).ret.carrier = true := by decide +kernel

/-! ### The statements' premises

For each statement with hypotheses, a state and operands that meet them, at the ends of the ranges. -/

theorem reached_bc (s : State) : s.reached bc := by simp [State.reached, bc]

theorem test_premises_StepRunsTheFrontCommand :
    ({ base with pending := [.feedLost, .powerOn] } : State).pending = .feedLost :: [.powerOn] ∧ base.pending = [] := ⟨rfl, rfl⟩

/-- A report frame is in flight and the carrier is about to be lost. -/
def reported : State := { after .reportFrameStart base with pending := [.carrierLoss] }

theorem test_premises_LogLawKept : LogLaw reported ∧ ∃ t, step reported = .next t := by
  refine ⟨⟨by decide +kernel, by decide +kernel, by decide +kernel, ?_, ?_⟩, _, rfl⟩
  · intro n h1 h2
    have e : n = 1 := by
      have a : reported.log.release = 1 := by decide +kernel
      have b : reported.log.write = 2 := by decide +kernel
      omega
    subst e
    exact ⟨_, rfl, rfl⟩
  · intro r h
    have e : reported.ret.inFlight = some (.report (base.log.readBack 1)) := rfl
    rw [e] at h
    cases h
    decide +kernel

/-- A plan is armed on channel 0, and an output period comes. -/
def planned : State := { after (.splitAnnounce bc 7 1100 50) (waiting .pass) with pending := [.outputPeriod] }

theorem test_premises_ChannelContextsKept :
    (∀ n, ContextLaw (planned.channels.get n)) ∧ (planned.channels.get 0).plan.isSome = true ∧ ∃ t, step planned = .next t := by
  refine ⟨fun n => ?_, by decide +kernel, _, rfl⟩
  fin_cases n <;> constructor <;> decide +kernel

/-- The first lock is made, and an output period comes. -/
def lockedOnce : State := { after (.programmeFrame 5000 (tone 1)) base with pending := [.outputPeriod] }

theorem test_premises_FeedAndDelayLineKept :
    FeedLaw lockedOnce ∧ DelayLineLaw lockedOnce ∧ ∃ t, step lockedOnce = .next t := by
  refine ⟨⟨by decide +kernel, by decide +kernel, by decide +kernel, by decide +kernel, ?_⟩,
    ⟨by decide +kernel, by decide +kernel, ?_, by decide +kernel⟩, _, rfl⟩
  · intro h
    exact absurd h (by decide +kernel)
  · intro i x h
    have e : ∀ i : Fin 512, (lockedOnce.time.line.get i).all (fun x => decide (x.number.toNat % 512 = i.val)) = true := by
      decide +kernel
    have k := e i
    rw [h] at k
    simpa using k

/-- The feed watch has a run, and a deck read holds the port. -/
def watching : State :=
  { after .mediaPortGrant priming with watches := put base.watches 0 runWatch, pending := [.watchTrip 0] }

theorem test_premises_BlockLawsKept_watchAndPort :
    (∀ i, WatchLaw (watching.watches.get i)) ∧ PortLaw watching ∧ ∃ t, step watching = .next t := by
  refine ⟨fun i => ?_, ⟨fun t h => ?_, fun b h => ?_⟩, _, rfl⟩
  · fin_cases i <;> constructor <;> decide +kernel
  · have e : watching.arbiter.port = some (.deckRead 0 .a 1 0 1 false) := by decide +kernel
    rw [e] at h
    cases h
    exact ⟨.read, by decide +kernel, trivial⟩
  · refine ⟨.deckRead 0 .a 1 0 1 false, by decide +kernel, ?_⟩
    revert h
    revert b
    decide +kernel

theorem test_premises_BlockLawsKept_returnAndFilter :
    let s : State := { answered with pending := [.answerFrameStart] }
    ReturnLaw s ∧ FilterLaw s ∧ ∃ t, step s = .next t := by
  refine ⟨⟨by decide +kernel, ?_, ?_⟩, ⟨rfl, ?_⟩, _, rfl⟩
  · intro h
    exact absurd h (by decide +kernel)
  · intro h
    exact absurd h (by decide +kernel)
  · intro i e h
    have f : answered.intake.filter = put (Vector.replicate 16 none) 0
        (some { address := Config.serialAddress, part := true, outputs := 0 }) := rfl
    have h : answered.intake.filter.get i = some e := h
    rw [f, get_put] at h
    split at h
    · cases h
      refine ⟨?_, Or.inl rfl⟩
      intro k
      have n := congrArg BitVec.toNat k
      have b := Config.serial.isLt
      simp only [Config.serialAddress, Config.broadcast, BitVec.toNat_ofNat] at n
      omega
    · have z : (Vector.replicate 16 (none : Option FilterEntry)).get i = none := by simp [Vector.get]
      rw [z] at h
      cases h

theorem test_premises_StoreAndOutputLawsKept :
    let s : State := after (.programComplete 0 true) (programming none)
    let o : State := after .outputPeriod base
    (FlashLaw s ∧ s.flash ≠ []) ∧ OutputLaw o ∧ (o.outputs.get 3).emitted.isSome = true := by
  refine ⟨⟨?_, by decide +kernel⟩, ?_, by decide +kernel⟩
  · show Flash.wf _ = true
    decide +kernel
  · intro n x h
    have e : ∀ n, ((after .outputPeriod base).outputs.get n).emitted.all (fun o =>
        decide (o.audio.length = Audio.size) && decide (o.origin = ((after .outputPeriod base).outputs.get n).origin) &&
          decide (o.onAir = ((after .outputPeriod base).outputs.get n).onAir)) = true := by decide +kernel
    have k := e n
    rw [h] at k
    simpa [and_assoc] using k

/-- The base state with its scan reads over and one hold on cart 3. -/
def held : State :=
  { base with store := { base.store with
      holds := put base.store.holds 3 1, scan := { base.store.scan with banks := Vector.replicate 4 { read := none, attempt := 1 } } } }

theorem test_premises_StoreAndOutputLawsKept_holds : HoldLaw held ∧ HoldLaw State.reset ∧ held.store.holds.get 3 = 1 := by
  have zero : ∀ (α : Type) (x : α) (c : Fin 1024), (Vector.replicate 1024 x).get c = x := by
    intro α x c
    simp [Vector.get]
  refine ⟨⟨fun c => ?_, fun h => ?_, fun _ => by decide +kernel, fun c => ⟨fun h => ?_, ?_⟩⟩,
    ⟨fun c => ?_, fun _ c => ?_, fun h => ?_, fun c => ⟨fun h => ?_, ?_⟩⟩, by decide +kernel⟩
  · show (put (Vector.replicate 1024 0) 3 1).get c ≤ 255 ∧ ((put (Vector.replicate 1024 0) 3 1).get c ≠ 0 →
      ((put (Vector.replicate 1024 CatalogEntry.empty) 3 _).get c).state = .ready)
    rw [get_put, get_put, zero, zero]
    split <;> simp
  · exact absurd h (by decide +kernel)
  · have k : ((put (Vector.replicate 1024 CatalogEntry.empty) 3 (base.store.catalog.get 3)).get c).state = .loading := h
    rw [get_put, zero] at k
    split at k
    · exact absurd k (by decide +kernel)
    · exact absurd k (by decide)
  · rintro ⟨d, h, _⟩
    exact absurd (show (none : Option Download) = some d from h) (by simp)
  · show (Vector.replicate 1024 0).get c ≤ 255 ∧ ((Vector.replicate 1024 0).get c ≠ 0 → _)
    rw [zero]
    simp
  · show ((Vector.replicate 1024 CatalogEntry.empty).get c).state = .empty
    rw [zero]
    rfl
  · exact absurd h (by decide +kernel)
  · have k : ((Vector.replicate 1024 CatalogEntry.empty).get c).state = .loading := h
    rw [zero] at k
    exact absurd k (by decide)
  · rintro ⟨d, h, _⟩
    exact absurd (show (none : Option Download) = some d from h) (by simp)

/-- The base state with a filter table of one entry: address 77, output 0. -/
def filtered (s : State) : State :=
  { s with intake := { s.intake with filter := put (Vector.replicate 16 none) 1 (some { address := 77, part := false, outputs := 1 }) } }

theorem test_premises_AddressResolution :
    (77 : Address) ≠ Config.broadcast ∧ partAddress (.logSeek 77 1 2) = some 77 ∧ ¬ (filtered base).reached 77 ∧
      cueAddress (.windowClose 78 5) = some 78 ∧ ((filtered base).intake.resolve 78).outputs = 0 := by
  unfold State.reached
  decide +kernel

/-- A frame with its check. -/
def framed (b : List Byte) : List Byte := b ++ bytesOf 4 (check b).toNat

/-- A CUE frame of a kind, to the broadcast address. -/
def cueFrame (kind : Byte) : List Byte := framed ([2, 0, 0, 24, 0xFF, 0xFF, 0xFF, 0xFF, kind] ++ List.replicate 11 0)

/-- A SPLIT_ANNOUNCE frame of a length, to the broadcast address. -/
def announceFrame (length : Nat) : List Byte :=
  framed ([2, 0, 0, 24, 0xFF, 0xFF, 0xFF, 0xFF, 1] ++ List.replicate 7 0 ++ bytesOf 4 length)

theorem test_badLinkFrame_announce :
    (∀ n ∈ [0, 2147483648], (after (.badLinkFrame (announceFrame n)) base).intake.linkErrors = 1) ∧
      ∀ n ∈ [1, 2147483647], (after (.badLinkFrame (announceFrame n)) base).intake.linkErrors = 0 := by decide +kernel

theorem test_premises_BadFramesAreCounted :
    let good (l : List Byte) : Prop :=
      8 ≤ l.length ∧ (check (l.take (l.length - 4))).toNat = numberOf (l.drop (l.length - 4))
    let shaped (l : List Byte) : Prop := numberOf ((l.drop 2).take 2) = l.length ∧ l.getD 0 0 = 2 ∧ l.length = 24
    let length (l : List Byte) := numberOf ((l.drop 16).take 4)
    let badCue (l : List Byte) : Prop := l.getD 0 0 = 2 ∧ ((l.getD 8 0).toNat < 1 ∨ 4 < (l.getD 8 0).toNat ∨
      (l.getD 8 0 = 1 ∧ (length l = 0 ∨ 2 ^ 31 ≤ length l)))
    ¬ good [1, 2, 3, 4, 5, 6, 7] ∧ ¬ good (List.replicate 8 0) ∧
      (good (framed [5, 0, 0, 8]) ∧ numberOf (((framed [5, 0, 0, 8]).drop 2).take 2) = 8 ∧ (framed [5, 0, 0, 8]).getD 0 0 = 5) ∧
      (∀ l ∈ [cueFrame 0, cueFrame 5, announceFrame 0, announceFrame 2147483648], good l ∧ shaped l ∧ badCue l) ∧
      (∀ l ∈ [cueFrame 2, cueFrame 4, announceFrame 1, announceFrame 2147483647], good l ∧ shaped l ∧ ¬ badCue l) ∧
      ((base.intake.resolve bc).outputs ≠ 0 ∧ ((filtered base).intake.resolve 78).outputs = 0) ∧
      (good statusBytes ∧ statusBytes.getD 0 0 = 3 ∧ statusBytes.length = 17 ∧ numberOf ((statusBytes.drop 2).take 2) = 17 ∧
        blockSize (BitVec.ofNat 16 (numberOf ((statusBytes.drop 10).take 2))) = some 1) := by decide +kernel

theorem test_premises_FilterRequests :
    let bad (entry part outputs : Byte) (x : Address) : Prop :=
      16 ≤ entry.toNat ∨ x = Config.broadcast ∨ 2 ≤ part.toNat ∨ (part = 0 ∧ outputs.setWidth 4 = (0 : BitVec 4))
    base.reached bc ∧ bad 16 1 0 5 ∧ bad 1 1 0 Config.broadcast ∧ bad 1 2 0 5 ∧ bad 1 0 0xF0 5 ∧
      ¬ bad 0 1 0 5 ∧ ¬ bad 15 1 0 5 ∧ ¬ bad 1 0 1 0 ∧ (15 : Byte).toNat = (15 : Fin 16).val := by
  refine ⟨reached_bc _, ?_⟩
  decide +kernel

theorem test_premises_AnswersAreQueued :
    base.reached bc ∧ ({ base.ret with queue := List.replicate 15 (reply 1 2 .done) } : ReturnLink).queue.length < 16 ∧
      16 ≤ ({ base.ret with queue := List.replicate 16 (reply 1 2 .done) } : ReturnLink).queue.length := by
  refine ⟨reached_bc _, ?_⟩
  decide +kernel

theorem test_premises_ReturnLinkFrames :
    (answered.ret.inFlight = none ∧ answered.ret.queue ≠ [] ∧ answered.ret.carrier = true) ∧
      (after .answerFrameStart answered).ret.inFlight = some .answer ∧
      (base.ret.inFlight = none ∧ base.ret.queue = [] ∧ base.ret.carrier = true ∧ base.log.send < base.log.write) ∧
      reported.ret.inFlight = some (.report (base.log.readBack 1)) := by
  refine ⟨by decide +kernel, by decide +kernel, by decide +kernel, rfl⟩

theorem test_premises_StatusAndAlert : base.reached bc ∧ 2 ≤ (2 : Byte).toNat := ⟨reached_bc _, by decide⟩

theorem test_premises_PartResets :
    let free (s : State) (b : Fin 4) : Prop := s.arbiter.banks.get b = none ∨ s.arbiter.banks.get b = some .read
    base.reached bc ∧ (after (.resetLine .falls) base).lines.reset = .waiting ∧ base.lines.reset = .high ∧
      (run [.resetLine .falls, .resetLine .heldLow] base).lines.reset = .spent ∧ (∀ b, free base b) ∧
      (∀ b, b ≠ 0 → free (programming none) b ∧ free (erasing none) b) ∧ Flash.wf (programming none).flash = true ∧
      (programming none).arbiter.banks.get 0 = some (.program
        { kind := .unitHeader, unit := 5, ordinal := 0, page := 0, contents := unitHeaderPage 9 0 0 } 9 1) ∧
      (erasing none).arbiter.banks.get 0 = some (.erase 6) := by
  refine ⟨reached_bc _, ?_⟩
  decide +kernel

/-- A log whose points are given. -/
def pointed (release write : Nat) : Log := { base.log with release := release, send := release, write := write }

theorem test_premises_OneAppend :
    ((pointed 1 512).write < 0xFFFFFFFF ∧ (pointed 1 512).write - (pointed 1 512).release < 512) ∧
      ((pointed 1 513).write < 0xFFFFFFFF ∧ 512 ≤ (pointed 1 513).write - (pointed 1 513).release) ∧
      0xFFFFFFFF ≤ (pointed 0xFFFFFFF0 0xFFFFFFFF).write := by decide +kernel

theorem test_premises_LogRequests_read :
    base.reached bc ∧ (4 ≤ (4 : Byte).toNat ∧ (0 : Byte).toNat < 1 ∧ 4 < (5 : Byte).toNat) ∧
      (1 ≤ (1 : Byte).toNat ∧ (4 : Byte).toNat ≤ 4) ∧
      (base.log.release ≤ (1 : BitVec 32).toNat ∧ (1 : BitVec 32).toNat < base.log.write ∧
        ∃ r, base.log.slots.get (Fin.ofNat 512 (1 : BitVec 32).toNat) = some r) ∧
      ((0 : BitVec 32).toNat < base.log.release ∧ base.log.write ≤ (2 : BitVec 32).toNat) :=
  ⟨reached_bc _, by decide, by decide, ⟨by decide +kernel, by decide +kernel, _, rfl⟩, by decide +kernel⟩

theorem test_premises_LogRequests_seekAndRelease :
    base.reached bc ∧ (base.log.release ≤ (1 : BitVec 32).toNat ∧ (1 : BitVec 32).toNat ≤ base.log.send) ∧
      (0 : BitVec 32).toNat < base.log.release ∧ base.log.send < (2 : BitVec 32).toNat := by
  refine ⟨reached_bc _, ?_⟩
  decide +kernel

theorem test_premises_FeedAndWatchSettings_feed :
    base.reached bc ∧ (5 ≤ (5 : Byte).toNat ∧ (250 : Byte).toNat ≤ 250) ∧ ((4 : Byte).toNat < 5 ∧ 250 < (251 : Byte).toNat) ∧
      (idleFor 24).feed.state = .locked ∧ (idleFor 24).feed.lossWait ≤ min ((idleFor 24).feed.idle + 1) 250 := by
  refine ⟨reached_bc _, ?_⟩
  decide +kernel

theorem test_premises_DelaySetRequest :
    let good (d : BitVec 16) : Prop := 32 ≤ d.toNat ∧ d.toNat ≤ 500
    base.reached bc ∧ ¬ good 31 ∧ ¬ good 501 ∧ good 32 ∧ good 500 ∧
      ¬ (∀ n, ((waiting .pass).channels.get n).state = .bypass) ∧ (∀ n, (base.channels.get n).state = .bypass) ∧
      base.feed.state = .noLock ∧
      (∀ n, ((locked base).channels.get n).state = .bypass) ∧ (locked base).feed.state = .locked ∧
      (locked base).feed.last = some 1250 := by
  refine ⟨reached_bc _, ?_⟩
  decide +kernel

theorem test_premises_FeedAndWatchSettings_watch :
    let bad (watch threshold direction : Byte) (window : BitVec 16) (enable : Byte) : Prop :=
      5 ≤ watch.toNat ∨ 96 < threshold.toNat ∨ 2 ≤ direction.toNat ∨ window.toNat < 1 ∨ 15000 < window.toNat ∨ 2 ≤ enable.toNat
    base.reached bc ∧ bad 5 0 0 1 0 ∧ bad 0 97 0 1 0 ∧ bad 0 0 2 1 0 ∧ bad 0 0 0 0 0 ∧ bad 0 0 0 15001 0 ∧ bad 0 0 0 1 2 ∧
      ¬ bad 4 96 1 15000 1 ∧ ¬ bad 0 0 0 1 0 ∧ (4 : Byte).toNat = (4 : Fin 5).val ∧ base.feed.state ≠ .silent ∧
      (after (.watchTrip 0) { locked base with watches := put base.watches 0 runWatch }).feed.state = .silent := by
  refine ⟨reached_bc _, ?_⟩
  decide +kernel

/-- The feed watch disabled. -/
def unwatched (s : State) : State := { s with watches := put s.watches 0 { Watch.reset with enabled := false } }

theorem test_premises_FirstLock :
    let base := unwatched base
    base.feed.state = .noLock ∧ base.feed.brk = none ∧ (base.watches.get 0).enabled = false ∧
    (∀ k, (base.channels.get k).state = .bypass ∧ (base.channels.get k).free ∧ (base.channels.get k).pending = none ∧
      (base.channels.get k).split = none ∧ (base.channels.get k).brk = none ∧ (base.channels.get k).window = none ∧
      (base.channels.get k).timer = none) := by
  unfold Channel.free
  decide +kernel

theorem test_premises_FrameJudgement :
    let s := after (.programmeFrame 1252 (tone 1)) (unwatched (locked base))
    let next : FrameNo := s.time.nextPosition.getD 0
    (unwatched (locked base)).feed.state = .locked ∧ (unwatched (locked base)).feed.last = some 1250 ∧ ((unwatched (locked base)).watches.get 0).enabled = false ∧
      ((1251 : FrameNo) - 1250 = 1 ∧ ((1251 : FrameNo) - next).toNat ≤ 511) ∧
      (((1252 : FrameNo) - 1250).toNat = 2 ∧ ((1259 : FrameNo) - 1250).toNat = 9 ∧ ((1259 : FrameNo) - next).toNat ≤ 511) ∧
      s.feed.last = some 1252 ∧ (2 ^ 31 < ((1251 : FrameNo) - 1252).toNat ∧ ((1251 : FrameNo) - next).toNat ≤ 511) ∧
      (s.time.line.get (Fin.ofNat 512 1251)).any (fun x => decide (x.number = 1251) && x.concealed) = true ∧
      ¬ ((900 : FrameNo) - next).toNat ≤ 511 := by decide +kernel

theorem test_premises_PeakDepth :
    ((0 < 1 ∧ 1 ≤ 8388608) ∧ depthOf 1 = 96 ∧ depthOf 8388608 = 0) ∧
      (∀ x ∈ tone (-5), x.toInt.natAbs ≤ 5) ∧ ∃ x ∈ tone (-5), x.toInt.natAbs = 5 := by
  refine ⟨by decide +kernel, fun x h => ?_, -5, List.mem_replicate.mpr ⟨by decide, rfl⟩, by decide⟩
  rw [List.eq_of_mem_replicate h]
  decide

theorem test_premises_FeedLostAndWatchTrip :
    ((idleFor 25).feed.state = .locked ∧ (idleFor 25).feed.last = some 1250 ∧ (idleFor 25).feed.lossWait ≤ (idleFor 25).feed.idle ∧
        ((idleFor 25).watches.get 0).tripped = false) ∧
      (idleFor 24).feed.idle < (idleFor 24).feed.lossWait ∧
      (runWatch.enabled = true ∧ runWatch.tripped = false ∧ runWatch.run ≠ 0 ∧ runWatch.window ≤ runWatch.run) ∧
      (runWatch.direction = .quiet ∧ (locked base).feed.state = .locked) ∧
      ({ runWatch with run := 2 } : Watch).run < runWatch.window := by decide +kernel

theorem test_premises_FeedLostAndWatchTrip_observed :
    let met (w : Watch) (depth : Nat) : Prop :=
      (w.direction = .quiet ∧ w.threshold ≤ depth) ∨ (w.direction = .loud ∧ depth < w.threshold)
    let early : Watch := { runWatch with run := 1 }
    let last : Watch := { runWatch with run := runWatch.window - 1 }
    let tripped : Watch := { runWatch with tripped := true }
    (unwatched base).watches.get 0 = { Watch.reset with enabled := false } ∧
      (early.enabled = true ∧ met early early.threshold ∧ (early.counted 9 early.threshold).run < early.window) ∧
      (last.tripped = false ∧ met last 96 ∧ last.window ≤ (last.counted 9 96).run) ∧
      (last.direction = .quiet ∧ (locked base).feed.state = .locked ∧ (1 : Fin 5) ≠ 0) ∧
      (tripped.enabled = true ∧ ¬ met tripped (tripped.threshold - 1) ∧ tripped.tripped = true ∧ early.tripped = false) ∧
      (after (.watchTrip 0) { locked base with watches := put base.watches 0 runWatch }).feed.state = .silent := by
  decide +kernel

theorem test_premises_OutputPeriodInBypass :
    ∀ n, ((locked base).channels.get n).state = .bypass ∧ ((locked base).channels.get n).decksIdle ∧
      ((locked base).channels.get n).free ∧ ((locked base).channels.get n).split = none ∧
      ((locked base).channels.get n).brk = none ∧ ((locked base).channels.get n).window = none ∧
      ((locked base).channels.get n).timer = none := by
  unfold Channel.decksIdle Channel.free
  decide +kernel

theorem test_premises_MixAndRampGain :
    (tone 5).length = 384 ∧ (∃ r : Ramp, r.elapsed + 1 = 1 ∧ 1 ≤ r.length) ∧ (∃ r : Ramp, r.elapsed + 1 = 64 ∧ 64 ≤ r.length) :=
  ⟨by decide +kernel, ⟨{ kind := .segue, length := 1, elapsed := 0 }, by decide⟩,
    ⟨{ kind := .closing, length := 64, elapsed := 63 }, by decide⟩⟩

theorem test_premises_WalkOrder :
    ({ entry3 with chained := true, chainTo := some 127 } : Entry).successor 4 = 127 ∧ entry3.successor 127 = 0 ∧
      ({ entry3 with endOfRing := true } : Entry).successor 4 = 0 ∧
      (walk (ringed (channel .pass)).ring 32 [] 0).gap = none ∧
      (walk (channel .pass).ring 32 [] 0).gap = some (.gap, 1) := by decide +kernel

/-! ### Premises: one channel at an output period -/

/-- P = 1000 on channel 0, frame P present and the feed good. -/
def env : Env := { (locked base).env 0 with present := true }

/-- A channel on its desk, no record written yet. -/
def deskOf (c : Channel) : Desk := { ch := c, holds := base.store.holds, out := [] }

/-- A deck loaded with fill slot 2, cart 3. -/
def fillDeck (x : DeckState) : Deck :=
  { Deck.reset with
    state := x, item := some (.fill 2), cart := 3, source := some { bank := 1, firstUnit := 2, length := 40, segueOut := 10 }
    due := 40, fillStart := some 990, buffer := [tone 0] }

/-- A deck loaded with item A of ring entry i, cart 3. -/
def ringDeck (i : Fin 128) (x : DeckState) : Deck :=
  { fillDeck x with item := some (.ring ⟨i, .a⟩), fillStart := none }

/-- Entry i of break 7, its item A held, with the frames it has emitted. -/
def heldEntry (aired : Nat) : Entry := { entry3 with itemA := { entry3.itemA with held := true, aired := aired } }

/-- A channel with entries 0 and 1 of break 7 held. -/
def airing (x : ChannelState) (first second : Nat) : Channel :=
  { channel x with ring := put (put (channel x).ring 0 (heldEntry first)) 1 (heldEntry second) }

theorem noneEnds_of (d : Desk)
    (h : ∀ k ∈ [d.ch.deckA, d.ch.deckB], k.sounding = true → d.aired k < k.length ∧
      k.ramp.all (fun r => decide (r.elapsed < r.length)) = true ∧ k.closing.all (fun r => decide (r.elapsed < r.length)) = true) :
    d.noneEnds := by
  intro k m s
  obtain ⟨a, b, c⟩ := h k (by simpa using m) s
  refine ⟨a, fun r e => ?_⟩
  rcases e with e | e
  · rw [e] at b
    simpa using b
  · rw [e] at c
    simpa using c

theorem test_premises_FallbackStartsAndEnds :
    (∀ x ∈ [ChannelState.pass, .fallback], (channel x).free ∧ (channel x).quiet ∧ (deskOf (channel x)).noneEnds ∧
      (channel x).deckA.waiting = false ∧ (channel x).deckB.waiting = false) ∧
    (env.broken Settings.reset = false ∧ env.present = true ∧ ({ env with brokenOn := true } : Env).broken Settings.reset = true) ∧
    (let c : Channel := { channel .fallback with deckA := fillDeck .playing, deckB := fillDeck .ready }
     c.free ∧ c.quiet ∧ (deskOf c).noneEnds ∧ (c.deck .b).item = some (.fill 2) ∧ (c.deck .b).waiting = true ∧
       (c.deck (otherDeck .b)).waiting = false ∧ c.state = .fallback) := by
  unfold Channel.free Channel.quiet
  refine ⟨fun x h => ⟨?_, ?_, noneEnds_of _ ?_, ?_⟩, by decide +kernel, by decide +kernel, by decide +kernel,
    noneEnds_of _ (by decide +kernel), by decide +kernel⟩ <;> revert x <;> decide +kernel

/-- A primed plan of break 7 at frame 1000, with its items. -/
def primedPlan (stop : FrameNo) (items : List PlanItem) : Plan :=
  { breakNo := 7, start := 1000, stop := stop, length := stop - 1000, items := items, planned := 40, primed := true
    wantFill := false }

/-- Part p of ring entry i in a plan. -/
def planned3 (i : Fin 128) (p : Part) (x : Inclusion) : PlanItem :=
  { ref := ⟨i, p⟩, cart := 3, inclusion := x, segue := .cut, offset := 0, length := 40, segueOut := 10 }

/-- A channel in PASS or FALLBACK at the start frame of a plan. -/
def atStart (x : ChannelState) (stop : FrameNo) (items : List PlanItem) : Channel :=
  let z : Entry := { heldEntry 0 with itemB := { entry3.itemA with result := .notReady, provisional := true } }
  { airing x 0 0 with ring := put (airing x 0 0).ring 0 z, plan := some (primedPlan stop items) }

/-- A deck is given to an insert item: an IDLE deck, or that of a candidate beside a deck that sounds. -/
theorem givesDeck_of (c : Channel) (u : Option Timer) (holds : Vector Nat 1024) (id : DeckId)
    (h : (c.deck (otherDeck id)).ringItem = none ∧
      (((c.deck id).state = .idle ∧ (c.deck id).item = none ∧ (id = .b → c.deckA.state ≠ .idle)) ∨
       ((c.deck id).item = some (.fill 2) ∧ (c.deck id).waiting = true ∧ (c.deck (otherDeck id)).sounding = true))) :
    ∃ d after, ({ c with timer := u } : Channel).givesDeck holds id d after := by
  obtain ⟨o, ⟨a, b, e⟩ | ⟨a, b, e⟩⟩ := h
  · cases id <;> exact ⟨_, _, o, Or.inl ⟨a, b, e, rfl, rfl⟩⟩
  · cases id <;> exact ⟨_, _, o, Or.inr ⟨2, a, b, e, rfl, rfl⟩⟩

/-- The decks that a channel can have where a break is started, and the one that it gives. -/
def giving : List (Deck × Deck × DeckId) :=
  [({ Deck.reset with load := 7 }, { Deck.reset with load := 9 }, .a), (fillDeck .playing, { Deck.reset with load := 9 }, .b),
    (fillDeck .fading, fillDeck .ready, .b), ({ fillDeck .priming with rangeMark := true }, fillDeck .playing, .a)]

theorem givesDeck_with (c : Channel) (u : Option Timer) (holds : Vector Nat 1024) :
    ∀ x ∈ giving, ∃ d after, ({ c with deckA := x.1, deckB := x.2.1, timer := u } : Channel).givesDeck holds x.2.2 d after := by
  intro x m
  refine givesDeck_of { c with deckA := x.1, deckB := x.2.1 } u holds x.2.2 ?_
  have h : ∀ x ∈ giving, ∀ a ∈ [(if x.2.2 = .a then x.1 else x.2.1)], ∀ b ∈ [(if x.2.2 = .a then x.2.1 else x.1)],
      b.ringItem = none ∧ ((a.state = .idle ∧ a.item = none ∧ (x.2.2 = .b → x.1.state ≠ .idle)) ∨
        (a.item = some (.fill 2) ∧ a.waiting = true ∧ b.sounding = true)) := by decide +kernel
  have k := h x m _ (List.mem_singleton.mpr rfl) _ (List.mem_singleton.mpr rfl)
  cases e : x.2.2 <;> rw [e] at k <;> simpa [Channel.deck, otherDeck] using k

/-- A plan of one included item is primed on any deck that the channel can give. -/
theorem test_premises_SplitStarts_priming :
    ∀ x ∈ giving, ∃ d after, ({ airing .fallback 0 0 with
      plan := some { primedPlan 1100 [planned3 0 .a .included] with start := 1008, primed := false }
      deckA := x.1, deckB := x.2.1 } : Channel).givesDeck (deskOf (channel .fallback)).holds x.2.2 d after :=
  fun x m => givesDeck_with { airing .fallback 0 0 with
    plan := some { primedPlan 1100 [planned3 0 .a .included] with start := 1008, primed := false } } _ _ x m

theorem test_premises_SplitStarts :
    let f : FrameNo := 16
    let x := planned3 0 .a .included
    let y := planned3 0 .b .notReady
    (env.live = true ∧ env.pos = 1000 ∧ isAfter (1017 - f) (1000 : FrameNo) = true ∧ isAfter (1016 - f) (1000 : FrameNo) = false) ∧
    (let c : Channel := { atStart .pass 1053 [x, y] with deckA := ringDeck 0 .ready }
     c.quiet ∧ c.onlyA ∧ c.held = none ∧ c.plan = some (primedPlan 1053 [x, y]) ∧ x.inclusion = .included ∧
       y.inclusion ≠ .included ∧ x.ref.part = .a ∧ y.ref = ⟨x.ref.index, .b⟩ ∧ c.deckA.item = some (.ring x.ref) ∧
       c.deckA.waiting = true ∧
       (let z := c.ring.get 0
        z.itemA.cart ≠ 0 ∧ z.itemA.result = .none ∧ z.itemA.provisional = false ∧ z.itemB.provisional = true ∧
          z.itemB.held = false ∧ z.start = none) ∧
       signedDiff 1053 (1000 + BitVec.ofNat 32 c.deckA.due) > (12 : Int) ∧
       ¬ signedDiff 1052 (1000 + BitVec.ofNat 32 c.deckA.due) > (12 : Int)) ∧
    (let c : Channel := { atStart .fallback 1017 [] with
       settings := { Settings.reset with pad := 17 }, deckA := fillDeck .playing }
     c.quiet ∧ c.onlyA ∧ c.state = .fallback ∧ signedDiff 1017 (1000 : FrameNo) ≤ (c.settings.pad : Int) ∧
       c.deckA.item = some (.fill 2) ∧ c.deckA.sounding = true ∧ c.deckA.ramp = none ∧ c.deckA.fillStart.isSome = true ∧
       (deskOf c).noneEnds ∧ Deck.reset.state = .idle ∧ Deck.reset.item = none) ∧
    (let c : Channel := { atStart .fallback 1017 [] with deckA := fillDeck .priming }
     c.quiet ∧ c.onlyA ∧ (c.settings.pad : Int) < signedDiff 1017 (1000 : FrameNo) ∧ c.deckA.item = some (.fill 2) ∧
       c.deckA.waiting = true) ∧
    (∀ m ∈ [1008, 1009],
      let p : Plan := { primedPlan 1100 [x] with start := BitVec.ofNat 32 m, primed := false }
      let c : Channel := { airing .fallback 0 0 with plan := some p }
      c.plan = some p ∧ p.primed = false ∧ p.items = [x] ∧ x.inclusion = .included ∧ ((deskOf c).item x.ref).result = .none ∧
        (env.catalog.get x.cart).run.isSome = true ∧ (env.catalog.get x.cart).size.isSome = true ∧ c.split = none ∧
        atOrAfter env.pos (p.start - 8) = decide (m = 1008)) := by
  unfold Channel.quiet Channel.onlyA
  refine ⟨by decide +kernel, by decide +kernel, ⟨by decide +kernel, by decide +kernel, by decide +kernel, by decide +kernel,
    by decide +kernel, by decide +kernel, by decide +kernel, by decide +kernel, noneEnds_of _ (by decide +kernel),
    by decide +kernel⟩, by decide +kernel, by decide +kernel⟩

/-- A channel in a split of break 7 that began at frame 990, its closing fade to begin 16 frames before it stops. -/
def inSplit (stop : FrameNo) (phase : SplitPhase) (rejoin : Option FrameNo) (items : List PlanItem) : Channel :=
  let x : Split :=
    { breakNo := 7, start := 990, stop := stop, length := stop - 990, planned := 40, items := items, phase := phase
      rejoin := rejoin, fadeStart := rejoin.getD stop - 16, pass := 0, exhausted := false, wantFill := false }
  { airing .split 5 0 with split := some x }

/-- The contexts and marks that a channel in SPLIT does not have. -/
def onlySplit (c : Channel) : Prop :=
  c.state = .split ∧ c.split.isSome = true ∧ c.plan = none ∧ c.held = none ∧ c.brk = none ∧ c.window = none ∧
    c.lastRing = none ∧ c.timer = none ∧ c.pending = none

theorem test_premises_SplitAirsAndEnds :
    (let c : Channel := { inSplit 1017 .items none [] with deckA := fillDeck .ready }
     onlySplit c ∧ c.split.any (fun x => decide (x.phase = .items ∧ x.items = [] ∧ x.rejoin ≠ some env.pos ∧ env.pos ≠ x.stop) &&
         !atOrAfter env.pos x.fadeStart) = true ∧ (deskOf c).noneEnds ∧ c.onlyA ∧ c.deckA.item = some (.fill 2) ∧
       c.deckA.waiting = true ∧ signedDiff 1017 env.pos = 17 ∧ Deck.reset.waiting = false) ∧
    (let c : Channel := { inSplit 1100 .items (some 1016) [planned3 0 .a .included, planned3 1 .a .included] with
       deckA := ringDeck 0 .playing, deckB := ringDeck 1 .ready }
     onlySplit c ∧ c.split.any (fun x => decide (x.phase ≠ .closing ∧ x.rejoin ≠ some env.pos ∧ env.pos ≠ x.stop) &&
         atOrAfter env.pos x.fadeStart) = true ∧ (deskOf c).noneEnds ∧ c.deckA.sounding = true ∧
       c.deckA.item = some (.ring ⟨0, .a⟩) ∧ c.deckB.item = some (.ring ⟨1, .a⟩) ∧ c.deckB.waiting = true ∧
       (c.ring.get 1).itemA.held = true ∧ (c.ring.get 1).itemB.cart = 0) ∧
    (let c : Channel := { inSplit 1016 .fill none [] with deckA := fillDeck .playing }
     onlySplit c ∧ c.onlyA ∧ c.split.any (fun x => decide (x.phase ≠ .closing ∧ x.items = []) && atOrAfter env.pos x.fadeStart) = true ∧
       (deskOf c).noneEnds ∧ c.deckA.sounding = true) ∧
    (∀ n ∈ [0, 100],
      let c : Channel := { inSplit (1000 + BitVec.ofNat 32 n) .closing (if n = 0 then none else some 1000) [] with
        deckA := fillDeck .fading }
      onlySplit c ∧ c.onlyA ∧ c.split.any (fun x => decide (x.rejoin.getD x.stop = env.pos)) = true ∧
        c.deckA.item = some (.fill 2) ∧ c.deckA.sounding = true ∧ c.deckA.ramp = none ∧ c.deckA.fillStart = some 990 ∧
        c.lastTaken = none ∧ env.present = true ∧ env.broken c.settings = false ∧
        isAfter ((958 : FrameNo) + 50) (env.pos + 8) = false) := by
  unfold onlySplit Channel.onlyA
  exact ⟨⟨by decide +kernel, by decide +kernel, noneEnds_of _ (by decide +kernel), by decide +kernel⟩,
    ⟨by decide +kernel, by decide +kernel, noneEnds_of _ (by decide +kernel), by decide +kernel⟩,
    ⟨by decide +kernel, by decide +kernel, by decide +kernel, noneEnds_of _ (by decide +kernel), by decide +kernel⟩,
    by decide +kernel⟩

/-- A channel in a free-length break of entries 0 and 1, or of some of them. -/
def inBreak (entries : List (Fin 128)) (start guardPoint : Option FrameNo) (closing : BreakClosing) (first : Nat) : Channel :=
  let b : BreakCtx :=
    { breakNo := 7, entries := entries, start := start, ran := 10, guardPoint := guardPoint, closing := closing
      fromPass := true }
  { airing .brk first 0 with brk := some b }

/-- The contexts and marks that a channel in FREE_BREAK does not have. -/
def onlyBreak (c : Channel) : Prop :=
  c.state = .brk ∧ c.brk.isSome = true ∧ c.plan = none ∧ c.held = none ∧ c.split = none ∧ c.window = none ∧
    c.lastRing = none ∧ c.timer = none

theorem test_premises_BreakStartsAndEnds :
    (let c := inBreak [] none none .none 0
     onlyBreak c ∧ c.deckA.state = .idle ∧ c.deckA.item = none ∧ c.onlyA) ∧
    (let z := (airing .brk 0 0).ring.get 0
     z.itemA.cart ≠ 0 ∧ z.itemA.result = .none ∧ z.itemA.held = true ∧ z.itemB.cart = 0 ∧ z.start = none) ∧
    (∀ x ∈ [DeckState.priming, .ready],
      let c : Channel := { inBreak [0] none none .none 0 with deckA := ringDeck 0 x, deckB := fillDeck .playing }
      onlyBreak c ∧ c.deckA.item = some (.ring ⟨0, .a⟩) ∧ (deskOf c).noneEnds ∧ c.deckB.waiting = false ∧
        c.deckB.item = some (.fill 2) ∧ c.deckB.sounding = true ∧ c.deckB.ramp = none ∧ c.deckB.fillStart = some 990) ∧
    (∀ g ∈ [1016, 1017],
      let c : Channel := { inBreak [0] (some 990) (some (BitVec.ofNat 32 g)) .none 5 with deckA := ringDeck 0 .playing }
      onlyBreak c ∧ c.onlyA ∧ c.deckA.sounding = true ∧ (deskOf c).noneEnds) ∧
    (atOrAfter env.pos (1016 - 16 : FrameNo) = true ∧ atOrAfter env.pos (1017 - 16 : FrameNo) = false) ∧
    (let c : Channel := { inBreak [0] (some 990) (some 1000) .guard 5 with deckA := ringDeck 0 .fading }
     onlyBreak c ∧ c.onlyA ∧ c.deckA.sounding = true ∧ env.pos = 1000 ∧ c.deckA.ramp = none) ∧
    (let c : Channel := { inBreak [0] (some 990) none .none 40 with deckA := ringDeck 0 .playing }
     onlyBreak c ∧ c.onlyA ∧ c.deckA.sounding = true ∧ c.deckA.length ≤ (c.ring.get 0).itemA.aired ∧
       c.deckA.due ≤ (c.ring.get 0).itemA.aired) ∧
    (let c : Channel := { inBreak [0] (some 990) none (.take 0 true) 5 with deckA := ringDeck 0 .fading, head := 2 }
     onlyBreak c ∧ c.onlyA ∧ c.deckA.sounding = true ∧ c.deckA.ramp = none ∧ (c.ring.get c.head).owner = .loader) ∧
    (∀ entries ∈ [[], [(0 : Fin 128)]],
      let b := inBreak entries (some 990) none (.take 0 true) 5
      let c : Channel := { b with
        head := 2, ring := put b.ring 2 entry3, deckA := if entries = [] then { Deck.reset with load := 7 } else ringDeck 0 .fading }
      let x := c.ring.get c.head
      onlyBreak c ∧ c.onlyA ∧ c.head ≠ 0 ∧ (if entries = [] then c.deckA.state = .idle ∧ c.deckA.item = none
          else c.deckA.sounding = true ∧ c.deckA.ramp = none ∧ c.deckA.item = some (.ring ⟨0, .a⟩)) ∧
        x.owner = .channel ∧ x.first = true ∧ x.last = true ∧ x.itemA.cart = 3 ∧ x.itemA.result = .none ∧ x.itemB.cart = 0 ∧
        (env.catalog.get 3).state = .ready ∧ (env.catalog.get 3).run.isSome = true ∧ (env.catalog.get 3).size.isSome = true ∧
        (deskOf c).holds.get 3 = 0) := by
  unfold onlyBreak Channel.onlyA
  refine ⟨by decide +kernel, by decide +kernel, fun x h => ⟨?_, ?_, noneEnds_of _ ?_, ?_⟩,
    fun g h => ⟨?_, ?_, ?_, noneEnds_of _ ?_⟩, by decide +kernel, by decide +kernel, by decide +kernel, by decide +kernel,
    by decide +kernel⟩ <;>
    first | (revert x; decide +kernel) | (revert g; decide +kernel)

/-- A channel with a window held. -/
def heldAt (x : ChannelState) (opens : FrameNo) (stage : WindowStage) : Channel :=
  { ringed (channel x) with held := some { opens := opens, closes := none, stage := stage } }

/-- A channel in LOCAL. -/
def inWindow (ends : Option FrameNo) : Channel :=
  { channel .loc with window := some { opens := 900, closes := some 1016, ends := ends }, deckA := fillDeck .playing }

/-- The contexts and marks that a channel with a held or open window does not have. -/
def onlyWindow (c : Channel) : Prop := c.plan = none ∧ c.split = none ∧ c.brk = none ∧ c.timer = none

theorem test_premises_WindowOpensAndCloses :
    (let c := heldAt .pass 1008 .waiting
     onlyWindow c ∧ c.window = none ∧ c.state = .pass ∧ env.live = true ∧ env.broken c.settings = false ∧
       atOrAfter env.pos (1008 - 8 : FrameNo) = true ∧ env.pos ≠ 1008 ∧ c.deckA.state = .idle ∧ c.deckA.item = none ∧ c.onlyA ∧
       c.lastRing = none ∧
       (let z := c.ring.get c.head
        z.owner = .channel ∧ z.itemA.cart ≠ 0 ∧ z.itemA.result = .none ∧ (env.catalog.get z.itemA.cart).state = .ready ∧
          base.store.holds.get z.itemA.cart < 255 ∧ (env.catalog.get z.itemA.cart).run.isSome = true ∧
          (env.catalog.get z.itemA.cart).size.isSome = true) ∧
       (c.ring.get 1).owner = .loader) ∧
    (let c : Channel := { heldAt .fallback 1000 .ring with
       head := 1, lastRing := some ⟨0, .a⟩, deckA := ringDeck 0 .priming, deckB := fillDeck .playing }
     onlyWindow c ∧ c.window = none ∧ env.pos = 1000 ∧ c.state = .fallback ∧ (c.ring.get c.head).owner = .loader ∧ c.fill.wait = false ∧
       (deskOf c).noneEnds ∧ c.deckA.item = some (.ring ⟨0, .a⟩) ∧ c.deckA.waiting = true ∧ (c.ring.get 0).itemB.cart = 0 ∧
       (c.ring.get 0).start = none ∧ c.deckB.item = some (.fill 2) ∧ c.deckB.sounding = true ∧ c.deckB.ramp = none ∧
       c.deckB.fillStart = some 990) ∧
    (let c : Channel := { heldAt .pass 1000 .fill with head := 1, deckA := fillDeck .ready }
     onlyWindow c ∧ c.window = none ∧ c.state = .pass ∧ (c.ring.get c.head).owner = .loader ∧ c.fill.wait = false ∧
       (deskOf c).noneEnds ∧ c.lastRing = none ∧ c.deckA.item = some (.fill 2) ∧ c.deckA.waiting = true ∧ c.onlyA) ∧
    (let c : Channel := { inWindow none with deckB := fillDeck .priming }
     onlyWindow c ∧ c.held = none ∧ c.lastRing = none ∧ c.state = .loc ∧ c.deckA.sounding = true ∧
       atOrAfter env.pos (1016 - 16 : FrameNo) = true ∧ (deskOf c).noneEnds ∧ c.deckB.item = some (.fill 2) ∧
       c.deckB.waiting = true) ∧
    (let c := inWindow (some 1000)
     onlyWindow c ∧ c.window.bind (·.ends) = some env.pos ∧ c.onlyA ∧ c.deckA.sounding = true ∧ c.deckA.item = some (.fill 2) ∧
       c.deckA.ramp = none ∧ c.deckA.fillStart = some 990) := by
  unfold onlyWindow Channel.onlyA
  exact ⟨by decide +kernel, ⟨by decide +kernel, by decide +kernel, by decide +kernel, by decide +kernel, by decide +kernel,
      by decide +kernel, noneEnds_of _ (by decide +kernel), by decide +kernel⟩,
    ⟨by decide +kernel, by decide +kernel, by decide +kernel, by decide +kernel, by decide +kernel,
      noneEnds_of _ (by decide +kernel), by decide +kernel⟩,
    ⟨by decide +kernel, by decide +kernel, by decide +kernel, by decide +kernel, by decide +kernel, by decide +kernel,
      noneEnds_of _ (by decide +kernel), by decide +kernel⟩, by decide +kernel⟩

theorem test_premises_WindowOpensAndCloses_waiting :
    let c : Channel := { heldAt .fallback 1000 .call with fill := { (channel .pass).fill with wait := true } }
    let z := c.ring.get c.head
    onlyWindow c ∧ c.window = none ∧ env.live = true ∧ env.pos = 1000 ∧ c.held = some { opens := 1000, closes := none, stage := .call } ∧
      c.fill.wait = true ∧ c.lastRing = none ∧ c.deckA.state = .idle ∧ c.deckA.item = none ∧ c.onlyA ∧ z.owner = .channel ∧
      z.itemA.cart ≠ 0 ∧ z.itemA.result = .none ∧ z.itemB.cart = 0 ∧ (c.ring.get (z.successor c.head)).owner = .loader ∧
      (env.catalog.get z.itemA.cart).state = .ready ∧ base.store.holds.get z.itemA.cart < 255 ∧
      (env.catalog.get z.itemA.cart).run.isSome = true ∧ (env.catalog.get z.itemA.cart).size.isSome = true := by
  unfold onlyWindow Channel.onlyA
  decide +kernel

/-- A channel in a free-length break: entry 0 sounds on deck A, entry 1 waits on deck B and enters by its own segue. -/
def following (aired : Nat) (segue : Segue) : Channel :=
  let c := inBreak [0, 1] (some 990) none .none aired
  { c with
    ring := put c.ring 1 { heldEntry 0 with segue := segue }
    deckA := { ringDeck 0 .playing with order := 3 }, deckB := { ringDeck 1 .ready with order := 4 }, stamp := 5, lastStart := 3 }

theorem test_premises_ItemStartsAndReleases :
    (∀ x ∈ [(9, Segue.fade), (10, .fade), (10, .overlap), (39, .cut), (40, .cut)],
      let c := following x.1 x.2
      onlyBreak c ∧ c.deckA.item = some (.ring ⟨0, .a⟩) ∧ c.deckB.item = some (.ring ⟨1, .a⟩) ∧ c.deckA.sounding = true ∧
        c.deckB.waiting = true ∧ c.deckA.order = c.lastStart ∧
        (∀ i ∈ [(0 : Fin 128), 1],
          let y := c.ring.get i
          y.itemA.cart ≠ 0 ∧ y.itemA.result = .none ∧ y.itemA.held = true ∧ y.itemB.cart = 0 ∧ y.start = none) ∧
        (c.ring.get 0).itemA.aired = x.1 ∧ c.deckA.segueOut = 10 ∧ c.deckA.length = 40 ∧ c.deckA.due = 40) ∧
    (∀ x ∈ [(9, Segue.fade), (10, .fade), (10, .overlap), (39, .cut)], (deskOf (following x.1 x.2)).noneEnds) ∧
    (let c : Channel := { channel .pass with
       deckA := { fillDeck .fading with ramp := some { kind := .exit, length := 16, elapsed := 16 } } }
     c.state = .pass ∧ c.free ∧ c.quiet ∧ c.onlyA ∧ env.broken c.settings = false ∧ c.deckA.item = some (.fill 2) ∧
       c.deckA.sounding = true ∧ c.deckA.fillStart = some 990) ∧
    ((fillDeck .ready).sounding = false ∧
      (∀ k ∈ [{ fillDeck .playing with unready := true }, { fillDeck .playing with buffer := [] }], k.sounding = true ∧
        (k.unready = true ∨ k.buffer = [])) ∧
      (fillDeck .playing).unready = false ∧ (fillDeck .playing).buffer = [tone 0] ∧ (ringDeck 0 .playing).buffer ≠ []) := by
  unfold onlyBreak Channel.free Channel.quiet Channel.onlyA
  refine ⟨by decide +kernel, fun x h => noneEnds_of _ ?_, by decide +kernel, by decide +kernel⟩
  revert x
  decide +kernel

/-- A channel in LOCAL whose fill item ends on deck A while a candidate waits on deck B, with entries 0 and 1 of break 7 waiting from
the head on, entry 1 by OVERLAP. -/
def fillEnding : Channel :=
  let c := { ringed (channel .loc) with window := some { opens := 900, closes := some 1017, ends := none } }
  { c with
    ring := put c.ring 1 { entry3 with segue := .overlap }
    deckA := { fillDeck .playing with fillAired := 40, buffer := [] }, deckB := { fillDeck .ready with item := some (.fill 5) } }

/-- The catalog with cart 3 of segue-out 0. -/
def abrupt : Env := { env with
  catalog := put env.catalog 3 { env.catalog.get 3 with size := some { length := 40, segueOut := 0 } } }

/-- The second entry, which enters at segue-out 0, is loaded in this period and starts at the next (R52), though the first starts in
it (R67). -/
theorem test_premises_ItemStartsAndReleases_window :
    (let c := fillEnding
     let z := c.ring.get c.head
     c.state = .loc ∧ c.window.map (·.ends) = some none ∧ atOrAfter env.pos (1017 - 16 : FrameNo) = false ∧ c.held = none ∧
       onlyWindow c ∧ (deskOf c).pendingB = none ∧ c.deckA.item = some (.fill 2) ∧ c.deckA.sounding = true ∧ c.deckA.ramp = none ∧
       c.deckA.fillStart = some 990 ∧ c.deckA.length ≤ c.deckA.fillAired ∧ c.deckB.item = some (.fill 5) ∧
       c.deckB.waiting = true ∧ z.owner = .channel ∧ z.itemA.cart = 3 ∧ z.itemA.result = .none ∧ z.start = none ∧
       (env.catalog.get 3).state = .ready ∧ (env.catalog.get 3).run.isSome = true ∧ (env.catalog.get 3).size.isSome = true ∧
       let ended := put base.store.holds 3 (base.store.holds.get 3 - 1)
       (put ended 3 (ended.get 3 - 1)).get 3 < 255) ∧
    (let t := ((deskOf fillEnding).period abrupt).ch
     (t.deckA.item, t.deckA.state, t.deckB.item, t.deckB.state)
       = (some (.ring ⟨0, .a⟩), .playing, some (.ring ⟨1, .a⟩), .priming)) := by
  unfold onlyWindow
  exact ⟨by decide +kernel, by decide +kernel⟩

/-- A split of break 7 over frames 990 to 1199, in a phase. -/
def splitIn (phase : SplitPhase) : Split :=
  { breakNo := 7, start := 990, stop := 1200, length := 210, planned := 40, items := [], phase := phase, rejoin := none,
    fadeStart := 1195, pass := 0, exhausted := true, wantFill := false }

/-- A channel in that split, with both decks loaded. -/
def splitChannel (phase : SplitPhase) : Channel :=
  { channel .split with
    split := some (splitIn phase), deckA := { fadingDeck with state := .playing }, deckB := { fadingDeck with state := .priming } }

/-- A plan of part A of entry 0 that a resync or a cancel meets on channel 0, item A held on deck A. -/
def planOnDeck : Channel :=
  { airing .pass 0 0 with
    plan := some (primedPlan 1100 [planned3 0 .a .included]), deckA := ringDeck 0 .ready, head := 2
    pending := some { breakNo := 9, start := 1300, length := 60 }, timer := some { target := 1400, period := 0 } }

theorem test_premises_RestoreAndResync :
    (let s := unwatched (locked base)
     s.feed.last = some 1250 ∧ (s.watches.get 0).enabled = false ∧ (s.watches.get 0).tripped = false ∧ s.feed.state = .locked ∧
       (∀ j ∈ [8, 9, 10], (1250 + BitVec.ofNat 32 j : FrameNo) ≠ 1250 ∧ ((1250 + BitVec.ofNat 32 j : FrameNo) - 1250).toNat ≤ 2 ^ 31 ∧
         ((1250 + BitVec.ofNat 32 j : FrameNo) - (s.time.position.getD 0 + BitVec.ofNat 32 s.time.delay)).toNat = j) ∧
       ((1513 : FrameNo) - s.time.nextPosition.getD 0).toNat = 512 ∧
       (after .feedLost { s with feed := { s.feed with idle := 25 } }).feed.state = .lost) ∧
    (let c : Channel := { splitChannel .fill with deckB := fillDeck .fading }
     c.free ∧ c.pending = none ∧ c.timer = none ∧ c.deckA.sounding = true ∧ c.deckB.sounding = true ∧
       c.split.any (fun x => x.wantFill) = false ∧ (channel .bypass).state = .bypass) ∧
    (let c := planOnDeck
     c.state = .pass ∧ c.split = none ∧ c.brk = none ∧ c.window = none ∧ c.held = none ∧ c.plan.isSome = true ∧
       c.deckA.item = some (.ring ⟨0, .a⟩) ∧ c.deckA.waiting = true ∧ c.deckB.state = .idle ∧ c.deckB.item = none ∧
       c.pending.isSome = true ∧ c.timer.isSome = true ∧ (c.ring.get 0).itemA.held = true ∧
       (c.ring.get 0).itemA.provisional = false) ∧
    (let c : Channel := { heldAt .pass 1200 .ring with deckA := ringDeck 1 .priming, ring := (airing .pass 0 0).ring }
     c.state = .pass ∧ c.split = none ∧ c.brk = none ∧ c.window = none ∧ c.plan = none ∧ c.pending = none ∧ c.timer = none ∧
       c.held.map (·.stage) = some .ring ∧ c.deckA.item = some (.ring ⟨1, .a⟩) ∧ c.deckA.waiting = true ∧ c.deckB.state = .idle ∧
       (c.ring.get 1).itemA.held = true) := by
  unfold Channel.free
  decide +kernel

/-- A fill table that ranges from slot 14 over slot 15 to slot 1, its cursor at slot 15, cart 3 in slot 1 alone. -/
def wrapped : FillTable :=
  { FillTable.reset with slots := put FillTable.reset.slots 1 3, start := 14, stop := 1, cursor := 15 }

theorem test_premises_FillChoice :
    let c : Channel := { channel .fallback with fill := wrapped }
    let granted (s : Fin 16) : Prop := wrapped.slots.get s ≠ 0 ∧ (env.catalog.get (wrapped.slots.get s)).state = .ready ∧
      base.store.holds.get (wrapped.slots.get s) < 255
    let onePass : Channel := { splitChannel .fill with deckB := Deck.reset, fill := wrapped }
    ((15 : Fin 16) - wrapped.start ≤ wrapped.stop - wrapped.start ∧ (1 : Fin 16) - wrapped.start ≤ wrapped.stop - wrapped.start ∧
        ¬ (2 : Fin 16) - wrapped.start ≤ wrapped.stop - wrapped.start) ∧
      (c.deckA.state = .idle ∧ c.deckA.candidate = false ∧ c.deckB.candidate = false ∧ c.split = none ∧ c.plan = none ∧
        c.fill.fullPass = [15, 0] ++ 1 :: [14]) ∧
      ((∀ s ∈ [(15 : Fin 16), 0], ¬ granted s) ∧ granted 1 ∧
        (env.catalog.get 3).run = some { bank := 1, first := 2, count := 1 } ∧
        (env.catalog.get 3).size = some { length := 40, segueOut := 10 }) ∧
      (∀ s ∈ FillTable.reset.fullPass, FillTable.reset.slots.get s = 0) ∧
      (onePass.deckB.state = .idle ∧ ¬ onePass.deckA.state = .idle ∧ onePass.deckA.candidate = false ∧
        onePass.settings.fillMode = .onePass ∧ onePass.split.map (·.exhausted) = some true ∧
        onePass.fill.passFrom 1 = [1]) ∧
      ((fillDeck .ready).item = some (.fill 2) ∧ (fillDeck .ready).rangeMark = false ∧
        ({ fillDeck .ready with rangeMark := true } : Deck).item = some (.fill 2)) := by decide +kernel

theorem test_premises_FittedPlan :
    let items := [planned3 0 .a .included, planned3 0 .b .notReady, planned3 1 .a .included]
    let own (_ : ItemRef) : Segue := .overlap
    let placed := place own none items
    ((includedItems placed).map (·.offset) = [0, 10]) ∧ plannedLength 16 placed = 50 ∧
      (fitPlan own (fun _ => true) 16 50 3 placed = placed) ∧
      ((fitPlan own (fun _ => true) 16 49 3 placed).map (·.inclusion) = [.included, .notReady, .dropped]) ∧
      ((fitPlan own (fun _ => true) 16 39 3 placed).map (·.inclusion) = [.dropped, .notReady, .dropped]) ∧
      ((fitPlan own (fun _ => false) 16 39 3 placed).map (·.inclusion) = [.included, .notReady, .included]) ∧
      (items[2]?.isSome = true) := by decide +kernel

/-! ### Premises: rings and channels -/

theorem test_premises_RoWriteRequest :
    let good (flags segue : Byte) (itemA second : BitVec 16) : Prop :=
      segue.toNat ≤ 2 ∧ itemA.toNat ≤ 1023 ∧
        (if flags.getLsbD 3 then second.toNat ≤ 127 ∧ itemA ≠ 0 else second.toNat ≤ 1023 ∧ (itemA ≠ 0 ∨ second ≠ 0))
    base.reached bc ∧ 4 ≤ (4 : Byte).toNat ∧ 128 ≤ (128 : Byte).toNat ∧
      ((3 : Byte).toNat = (3 : Fin 4).val ∧ (127 : Byte).toNat = (127 : Fin 128).val) ∧
      (((waiting .pass).channels.get 0).ring.get 0).owner = .channel ∧ ((base.channels.get 3).ring.get 127).owner = .loader ∧
      good 8 2 1023 127 ∧ good 0 0 0 1023 ∧ ¬ good 8 0 1 128 ∧ ¬ good 8 0 0 1 ∧ ¬ good 0 3 1 0 ∧ ¬ good 0 0 1024 0 ∧
      ¬ good 0 0 0 0 := by
  refine ⟨reached_bc _, ?_⟩
  decide +kernel

theorem test_premises_RingRequests_revoke :
    base.reached bc ∧ 4 ≤ (4 : Byte).toNat ∧ 128 ≤ (128 : Byte).toNat ∧
      ((0 : Byte).toNat = (0 : Fin 4).val ∧ (0 : Byte).toNat = (0 : Fin 128).val) ∧
      ((base.channels.get 0).ring.get 0).owner = .loader ∧
      (let c := (waiting .pass).channels.get 0
       (c.ring.get 0).owner = .channel ∧ c.plan = none ∧ c.split = none ∧ c.brk = none ∧ c.deckA.item = none ∧
         c.deckB.item = none) ∧
      (let c := priming.channels.get 0
       (c.ring.get 0).owner = .channel ∧ c.brk.map (·.entries) = some [0] ∧ c.deckA.item = some (.ring ⟨0, .a⟩)) ∧
      (planned.channels.get 0).plan.map (fun p => p.items.map (·.ref.index)) = some [0] ∧
      ((inSplit 1100 .items none [planned3 0 .b .included]).split.map (fun x => x.items.map (·.ref.index)) = some [0]) := by
  refine ⟨reached_bc _, ?_⟩
  decide +kernel

theorem test_premises_RingRequests_readAndHead :
    base.reached bc ∧ 4 ≤ (4 : Byte).toNat ∧ 128 ≤ (128 : Byte).toNat ∧
      ((3 : Byte).toNat = (3 : Fin 4).val ∧ (127 : Byte).toNat = (127 : Fin 128).val) ∧
      ((waiting .pass).channels.get 0).state ≠ .bypass ∧ (base.channels.get 3).state = .bypass := by
  refine ⟨reached_bc _, ?_⟩
  decide +kernel

theorem test_premises_ChannelModeAndTimer_mode :
    let may (c : Channel) : Prop := c.state = .pass ∧ c.free ∧ c.deckA.sounding = false ∧ c.deckB.sounding = false
    base.reached bc ∧ 4 ≤ (4 : Byte).toNat ∧ 2 ≤ (2 : Byte).toNat ∧ (3 : Byte).toNat = (3 : Fin 4).val ∧
      State.reset.store.scan.done = false ∧ base.store.scan.done = true ∧
      ((base.channels.get 3).state = .bypass ∧ (base.channels.get 3).free) ∧ (channel .pass).state ≠ .bypass ∧
      may (channel .pass) ∧ ¬ may (channel .brk) ∧ ¬ may (planned.channels.get 0) := by
  refine ⟨reached_bc _, ?_⟩
  unfold Channel.free
  decide +kernel

theorem test_premises_ChannelSetRequest :
    let bad (channel source policy fade pad : Byte) (guard : BitVec 32) (fallback mode : Byte) : Prop :=
      4 ≤ channel.toNat ∨ 4 ≤ source.toNat ∨ 2 ≤ policy.toNat ∨ fade.toNat < 4 ∨ 64 < fade.toNat ∨ 250 < pad.toNat ∨
        (guard ≠ 0 ∧ (guard.toNat < 250 ∨ 75000 < guard.toNat)) ∨ 2 ≤ fallback.toNat ∨ 2 ≤ mode.toNat
    base.reached bc ∧ bad 4 0 0 4 0 0 0 0 ∧ bad 0 4 0 4 0 0 0 0 ∧ bad 0 0 2 4 0 0 0 0 ∧ bad 0 0 0 3 0 0 0 0 ∧
      bad 0 0 0 65 0 0 0 0 ∧ bad 0 0 0 4 251 0 0 0 ∧ bad 0 0 0 4 0 249 0 0 ∧ bad 0 0 0 4 0 75001 0 0 ∧ bad 0 0 0 4 0 0 2 0 ∧
      bad 0 0 0 4 0 0 0 2 ∧ ¬ bad 3 3 1 64 250 75000 1 1 ∧ ¬ bad 0 0 0 4 0 0 0 0 ∧ ¬ bad 0 0 0 4 0 250 0 0 ∧
      ((channel .pass).settings.source = .cue ∧ (channel .pass).state ≠ .bypass) ∧ (channel .bypass).state = .bypass ∧
      (priming.channels.get 0).brk.isSome = true := by
  refine ⟨reached_bc _, ?_⟩
  decide +kernel

theorem test_premises_ChannelClearRequest :
    let s := waiting .bypass
    let c : Channel := { s.channels.get 0 with deckA := { Deck.reset with load := 7 }, deckB := { Deck.reset with load := 9 } }
    let openItem (m : Item) : Prop := m.cart ≠ 0 ∧ m.result = .none
    let settled (m : Item) : Prop := m.held = false ∧ m.provisional = false
    s.reached bc ∧ 4 ≤ (4 : Byte).toNat ∧ (0 : Byte).toNat = (0 : Fin 4).val ∧
      c.state = .bypass ∧ c.free ∧ c.decksIdle ∧ c.split = none ∧ c.brk = none ∧
      (c.ring.get 0).owner = .channel ∧
      (∀ i, (c.ring.get i).owner = .channel → (openItem (c.ring.get i).itemA ∨ openItem (c.ring.get i).itemB) ∧
        settled (c.ring.get i).itemA ∧ settled (c.ring.get i).itemB) := by
  refine ⟨reached_bc _, ?_⟩
  unfold Channel.free Channel.decksIdle
  decide +kernel

/-- A started break of entries 0, 1 and 2: item 0 sounds, item 1 waits on deck B, item 2 is not loaded; under source COMMAND the
head is a break. -/
def threefold (start : Option FrameNo) (a b : Deck) : Channel :=
  let c := inBreak [0, 1, 2] start none .none 5
  { c with
    ring := put (put c.ring 2 (heldEntry 0)) 3 entry3, head := 3, settings := { c.settings with source := .command }
    deckA := a, deckB := b }

theorem test_premises_ChannelClearRequest_break :
    let c := threefold (some 990) (ringDeck 0 .playing) (ringDeck 1 .ready)
    let c : Channel := { c with ring := put c.ring 0 { c.ring.get 0 with start := some 990 } }
    let openItem (m : Item) : Prop := m.cart ≠ 0 ∧ m.result = .none
    let settled (m : Item) : Prop := m.held = false ∧ m.provisional = false
    c.state = .brk ∧ c.brk.map (·.entries) = some [0, 1, 2] ∧ c.free ∧ c.split = none ∧
      (∀ l : Fin 128, l = 0 ∨ l = 1 ∨ l = 2 → (c.ring.get l).owner = .channel ∧ openItem (c.ring.get l).itemA ∧
        (c.ring.get l).itemB.cart = 0 ∧ (c.ring.get l).itemA.held = true) ∧
      c.deckA.item = some (.ring ⟨0, .a⟩) ∧ c.deckA.sounding = true ∧ (c.ring.get 0).start = some 990 ∧
      c.deckB.item = some (.ring ⟨1, .a⟩) ∧ c.deckB.waiting = true ∧ (c.ring.get 3).owner = .channel ∧
      (∀ l : Fin 128, l ≠ 0 → l ≠ 1 → l ≠ 2 → (c.ring.get l).owner = .channel →
        (openItem (c.ring.get l).itemA ∨ openItem (c.ring.get l).itemB) ∧ settled (c.ring.get l).itemA ∧
          settled (c.ring.get l).itemB) := by
  unfold Channel.free
  decide +kernel

theorem test_premises_ChannelClearRequest_fallback :
    let z : Entry := { heldEntry 0 with itemA := { (heldEntry 0).itemA with result := .mediaFault, provisional := true } }
    let c : Channel := { channel .fallback with
      ring := put (channel .fallback).ring 0 z, plan := some (primedPlan 1100 [planned3 0 .a .included])
      deckA := fillDeck .playing, deckB := { fillDeck .ready with fillStart := none } }
    c.state = .fallback ∧ c.plan.map (·.items) = some [planned3 0 .a .included] ∧ c.held = none ∧ c.split = none ∧ c.brk = none ∧
      ((c.ring.get 0).owner = .channel ∧ (c.ring.get 0).itemA.cart ≠ 0 ∧ (c.ring.get 0).itemB.cart = 0 ∧
        (c.ring.get 0).itemA.held = true ∧ (c.ring.get 0).itemA.provisional = true ∧ (c.ring.get 0).itemA.result ≠ .none) ∧
      c.deckA.item = some (.fill 2) ∧ c.deckA.sounding = true ∧ c.deckA.fillStart = some 990 ∧
      c.deckB.item = some (.fill 2) ∧ c.deckB.waiting = true ∧ c.deckB.fillStart = none ∧
      (∀ l : Fin 128, l ≠ 0 → (c.ring.get l).owner = .loader) := by
  decide +kernel

theorem test_premises_TakeRequest_hard :
    let taken (c : Channel) (i : Fin 128) : Prop := (c.ring.get i).owner = .channel ∧ (c.ring.get i).itemA.cart ≠ 0 ∧
      (c.ring.get i).itemB.cart = 0 ∧ (c.ring.get i).itemA.held = true ∧ (c.ring.get i).itemA.result = .none
    let may (c : Channel) : Prop := c.settings.source = .command ∧ c.state = .brk ∧ c.brk.map (·.closing) = some .none ∧
      c.split = none ∧ c.lastRing = none ∧ (c.ring.get c.head).owner = .channel ∧ (c.ring.get c.head).first = true
    let c := threefold (some 990) (ringDeck 0 .playing) (ringDeck 1 .ready)
    let d : Channel := { threefold none (ringDeck 0 .priming) (fillDeck .playing) with
      brk := (inBreak [0, 1] none none .none 0).brk }
    (may c ∧ c.brk.any (fun b => b.start.isSome) = true ∧ c.brk.map (·.entries) = some [0, 1, 2] ∧ taken c 0 ∧ taken c 1 ∧ taken c 2 ∧
      c.deckA.item = some (.ring ⟨0, .a⟩) ∧ c.deckA.sounding = true ∧ c.deckB.item = some (.ring ⟨1, .a⟩) ∧
      c.deckB.waiting = true) ∧
    (may d ∧ d.brk.any (fun b => b.start.isSome) = false ∧ d.brk.map (·.entries) = some [0, 1] ∧ taken d 0 ∧ taken d 1 ∧
      d.deckA.item = some (.ring ⟨0, .a⟩) ∧ d.deckA.waiting = true ∧ d.deckB.ringItem = none) := by
  decide +kernel

theorem test_premises_ChannelModeAndTimer_timer :
    base.reached bc ∧ 4 ≤ (4 : Byte).toNat ∧ 2 ≤ (2 : Byte).toNat ∧ 21600000 < (21600001 : BitVec 32).toNat ∧
      (3 : Byte).toNat = (3 : Fin 4).val ∧ (21600000 : BitVec 32).toNat ≤ 21600000 ∧
      isAfter 1001 ((locked base).time.position.getD 0) = true ∧ isAfter 1000 ((locked base).time.position.getD 0) = false ∧
      isAfter 1 (base.time.position.getD 0) = true := by
  refine ⟨reached_bc _, ?_⟩
  decide +kernel

/-- Channel 0 of the priming break, its closing fade given. -/
def closingBreak (x : BreakClosing) : Channel :=
  { priming.channels.get 0 with brk := (priming.channels.get 0).brk.map (fun b => { b with closing := x }) }

theorem test_premises_TakeRequest_refused :
    let isBreak (c : Channel) : Prop := (c.ring.get c.head).owner = .channel ∧ (c.ring.get c.head).first = true
    base.reached bc ∧ 4 ≤ (4 : Byte).toNat ∧ (0 : Byte).toNat = (0 : Fin 4).val ∧
      (channel .pass).settings.source ≠ .command ∧
      ((onTake .loc).channels.get 0).settings.source = .command ∧ ((onTake .loc).channels.get 0).state = .loc ∧
      (((onTake .fallback).channels.get 0).state = .fallback ∧ ((onTake .fallback).channels.get 0).free ∧
        isBreak ((onTake .fallback).channels.get 0)) ∧
      ¬ (planned.channels.get 0).free ∧ ¬ isBreak (channel .pass) ∧
      ((closingBreak .none).state = .brk ∧ (closingBreak .none).settings.source = .command ∧ ¬ isBreak (closingBreak .none)) ∧
      ((closingBreak .none).brk.map (·.closing) = some .none ∧ (closingBreak .guard).brk.map (·.closing) = some .guard ∧
        (closingBreak (.take 0 true)).brk.map (·.closing) = some (.take 0 true)) := by
  refine ⟨reached_bc _, ?_⟩
  unfold Channel.free
  decide +kernel

/-- Channel 0 of a state with its decks given. -/
def withDecks (s : State) (x : Deck × Deck × DeckId) : State :=
  s.withChannel 0 { s.channels.get 0 with deckA := x.1, deckB := x.2.1 }

theorem givesDeck_giving (s : State) (u : Option Timer) (holds : Vector Nat 1024) :
    ∀ x ∈ giving, ∃ d after, ({ (withDecks s x).channels.get 0 with timer := u } : Channel).givesDeck holds x.2.2 d after := by
  intro x m
  have e : (withDecks s x).channels.get 0 = { s.channels.get 0 with deckA := x.1, deckB := x.2.1 } := by
    simp [withDecks, State.withChannel]
  rw [e]
  exact givesDeck_with (s.channels.get 0) u holds x m

theorem test_premises_TakeRequest_starts :
    (0 : Byte).toNat = (0 : Fin 4).val ∧ ∀ y ∈ [ChannelState.pass, .fallback], ∀ x ∈ giving,
      let s := withDecks (onTake y) x
      let c := s.channels.get 0
      s.reached bc ∧ (c.settings.source = .command ∧ c.state = y ∧ c.free ∧ c.split = none) ∧
        s.headPlayable 0 { bank := 1, first := 2, count := 1 } { length := 40, segueOut := 10 } ∧
        ∀ holds, ∃ d after, c.givesDeck holds x.2.2 d after := by
  unfold Channel.free State.headPlayable
  refine ⟨by decide, fun y n x m => ⟨reached_bc _, ?_, ?_, fun holds => givesDeck_giving (onTake y) _ holds x m⟩⟩ <;>
    (revert x; revert y; decide +kernel)

theorem test_premises_FillRequests :
    let c := splitChannel .fill
    base.reached bc ∧ 4 ≤ (4 : Byte).toNat ∧ 16 ≤ (16 : Byte).toNat ∧ 1024 ≤ (1024 : BitVec 16).toNat ∧
      ((3 : Byte).toNat = (3 : Fin 4).val ∧ (15 : Byte).toNat = (15 : Fin 16).val ∧
        (1023 : BitVec 16).toNat = (1023 : Fin 1024).val) ∧
      ((channel .pass).state = .pass ∧ (channel .pass).free ∧ (channel .pass).split = none ∧ (channel .pass).fill.wait = false) ∧
      (c.state = .split ∧ c.split = some (splitIn .fill) ∧ (splitIn .fill).phase = .fill ∧ c.settings.fillMode = .onePass ∧
        c.deckA.state ≠ .idle ∧ c.deckB.state ≠ .idle ∧ c.fill.wait = false ∧ (splitIn .fill).wantFill = false) ∧
      (let c := splitChannel .items
       c.split = some (splitIn .items) ∧ (splitIn .items).phase = .items ∧ (deskOf c).nextPlanned (splitIn .items).items = none) := by
  refine ⟨reached_bc _, ?_⟩
  unfold Channel.free
  decide +kernel

theorem test_premises_FillRequests_waiting :
    let c (cart : Fin 1024) : Channel := { channel .fallback with
      fill := { FillTable.reset with slots := put FillTable.reset.slots 15 cart, wait := true } }
    (c 3).state = .fallback ∧ (c 3).free ∧ (c 3).split = none ∧ (c 3).fill.wait = true ∧ (c 3).deckA.state = .idle ∧
      (c 3).deckB.state = .idle ∧ (c 3).deckB.item = none ∧ (∀ m, m ≠ 15 → (c 3).fill.slots.get m = 0) ∧
      (15 : Fin 16) - (c 3).fill.start ≤ (c 3).fill.stop - (c 3).fill.start ∧ (c 3).fill.slots.get 15 = 3 ∧
      ((3 : Fin 1024) ≠ 0 ∧ (base.store.catalog.get 3).state = .ready ∧ base.store.holds.get 3 < 255 ∧
        (base.store.catalog.get 3).run.isSome = true ∧ (base.store.catalog.get 3).size.isSome = true) ∧
      (∀ m, (c 4).fill.slots.get m = 0 ∨ (base.store.catalog.get ((c 4).fill.slots.get m)).state ≠ .ready) := by
  unfold Channel.free
  decide +kernel

theorem test_premises_LineAndTimerTriggers_line :
    let c := onLine .pass
    base.lines.fire.get 0 = .high ∧ (after (.fireEdge 0 .falls) base).lines.fire.get 0 = .waiting ∧
      (channel .pass).settings.source ≠ .line ∧ (c.settings.source = .line ∧ c.state = .pass ∧ c.free) ∧
      ((onLine .brk).settings.source = .line ∧ (onLine .brk).state = .brk) ∧
      (((channel .pass).ring.get (channel .pass).head).owner = .loader) := by
  unfold Channel.free
  decide +kernel

theorem test_premises_LineAndTimerTriggers_timer :
    (locked base).time.position = some 1000 ∧ atOrAfter 1000 (1001 : FrameNo) = false ∧ atOrAfter 1000 (1000 : FrameNo) = true ∧
      (channel .pass).settings.source ≠ .timer ∧ (0 < 21600000 ∧ 21600000 ≤ 21600000) := by decide +kernel

theorem test_premises_LineAndTimerTriggers_startable :
    ∀ y ∈ [ChannelState.pass, .fallback], ∀ x ∈ giving,
      let s := withDecks (locked (on { onLine y with timer := some { target := 1000, period := 4 } })) x
      let c := s.channels.get 0
      ((after (.fireEdge 0 .falls) s).lines.fire.get 0 = .waiting ∧ c.settings.source = .line ∧
          ({ c.settings with source := .timer } : Settings).source = .timer ∧ c.timer.isSome = true) ∧
        (c.state = y ∧ c.free ∧ c.split = none) ∧
        s.headPlayable 0 { bank := 1, first := 2, count := 1 } { length := 40, segueOut := 10 } ∧
        ∀ u holds, ∃ d after, ({ c with timer := u } : Channel).givesDeck holds x.2.2 d after := by
  unfold Channel.free State.headPlayable
  refine fun y n x m => ⟨?_, ?_, ?_, fun u holds => givesDeck_giving _ u holds x m⟩ <;>
    (revert x; revert y; decide +kernel)

theorem test_premises_DeckItemGivenUp :
    let c : Channel := { channel .pass with deckA := { fadingDeck with retries := 3 } }
    (c.state = .pass ∧ c.free ∧ c.split = none ∧ c.window = none ∧ c.deckA.item = some (.fill 2) ∧ c.deckA.state = .fading ∧
        25 ≤ c.deckA.consecutive ∧ c.deckA.retries = 3) ∧
      ({ fadingDeck with consecutive := 24 } : Deck).consecutive < 25 ∧
      ∃ s : State, s.arbiter.port = some (.deckRead 0 .a 1 4 0 false) ∧ s.channels.get 0 = c :=
  ⟨by unfold Channel.free; decide +kernel, by decide +kernel,
    { on { channel .pass with deckA := { fadingDeck with retries := 3 } } with
      arbiter := { base.arbiter with port := some (.deckRead 0 .a 1 4 0 false) } }, rfl, by decide +kernel⟩

/-- Channel 0 in BREAK, its one item on deck A at its last attempt and its last underrun. -/
def faulting (x : DeckState) : Channel :=
  { inBreak [0] (some 990) none .none 7 with deckA := { ringDeck 0 x with retries := 3, consecutive := 25 } }

/-- A read of page 4 for deck A of channel 0 holds the port. -/
def reading (c : Channel) : State :=
  { locked (on c) with arbiter := { base.arbiter with port := some (.deckRead 0 .a 1 4 0 false) } }

theorem test_premises_DeckItemGivenUp_ring :
    (∀ x ∈ [DeckState.playing, .ready],
      let c := faulting x
      let z := c.ring.get 0
      c.state = .brk ∧ c.brk.map (·.entries) = some [0] ∧ c.plan = none ∧ c.split = none ∧ c.lastRing = none ∧
        c.deckA.item = some (.ring ⟨0, .a⟩) ∧ z.itemA.cart ≠ 0 ∧ z.itemA.result = .none ∧ z.itemA.held = true ∧ z.itemB.cart = 0 ∧
        c.deckA.retries = 3 ∧ c.deckA.load = 0 ∧ 25 ≤ c.deckA.consecutive ∧ (c.deckA.sounding = true ∨ c.deckA.waiting = true)) ∧
    (faulting .playing).deckA.sounding = true ∧ (reading (faulting .ready)).channels.get 0 = faulting .ready ∧
    (reading (faulting .ready)).arbiter.port = some (.deckRead 0 .a 1 4 0 false) := by
  decide +kernel

theorem test_premises_DeckItemGivenUp_planned :
    let c := { planOnDeck with deckA := { planOnDeck.deckA with retries := 3 } }
    c.state = .pass ∧ c.plan = some (primedPlan 1100 [planned3 0 .a .included]) ∧ c.deckA.item = some (.ring ⟨0, .a⟩) ∧
      c.deckA.waiting = true ∧ c.deckA.retries = 3 ∧ c.deckA.load = 0 ∧ (planned3 0 .a .included).inclusion = .included ∧
      (reading c).arbiter.port = some (.deckRead 0 .a 1 4 0 false) ∧ (reading c).channels.get 0 = c := by
  decide +kernel

/-- A fill candidate at its last attempt on deck A of channel 0, beside what called for it. -/
def calledFill (x : ChannelState) (plan : Option Plan) (held : Option HeldWindow) : Channel :=
  { channel x with plan := plan, held := held, deckA := { fillDeck .ready with retries := 3, fillStart := none } }

theorem test_premises_DeckItemGivenUp_candidate :
    let p := primedPlan 1100 [planned3 0 .b .notReady]
    let h : HeldWindow := { opens := 1008, closes := none, stage := .fill }
    (∀ c ∈ [calledFill .fallback (some p) none, calledFill .pass none (some h)],
      c.split = none ∧ c.deckA.item = some (.fill 2) ∧ c.deckA.waiting = true ∧ c.deckA.fillStart = none ∧ c.deckA.retries = 3 ∧
        c.deckA.load = 0 ∧ (reading c).arbiter.port = some (.deckRead 0 .a 1 4 0 false) ∧ (reading c).channels.get 0 = c) ∧
    p.primed = true ∧ p.wantFill = false ∧ (∀ x ∈ p.items, x.inclusion ≠ .included) := by
  decide +kernel

theorem test_premises_FillChoice_called :
    let p : Plan := { primedPlan 1100 [planned3 0 .b .notReady] with start := 1008, primed := false }
    let c : Channel := { channel .fallback with plan := some p }
    c.split = none ∧ c.deckA.state = .idle ∧ c.deckB.candidate = false ∧ c.settings.pad < p.length.toNat ∧
      atOrAfter env.pos (p.start - 8) = true ∧ (∀ x ∈ p.items, x.inclusion ≠ .included) := by
  decide +kernel

/-! ### Premises: cues -/

theorem reachesOnly_filtered (s : State) : (filtered s).reachesOnly 77 0 := by
  have e : ∀ m : Fin 4, ((filtered base).intake.resolve 77).hasOutput m = true ↔ m = 0 := by decide +kernel
  intro m
  exact e m

/-- The premises of a cue that is judged on a channel whose source is CUE and that has taken no break number. -/
def Fresh (c : Channel) (b : BreakNo) : Prop :=
  (∀ p, c.plan = some p → p.breakNo ≠ b) ∧ (∀ x, c.split = some x → x.breakNo ≠ b) ∧
    (∀ x, c.pending = some x → x.breakNo ≠ b) ∧ c.lastTaken ≠ some b

theorem fresh_channel (x : ChannelState) : Fresh (channel x) 7 := by
  refine ⟨?_, ?_, ?_, ?_⟩
  · intro p h; cases h
  · intro p h; cases h
  · intro p h; cases h
  · intro h; cases h

theorem fresh_planned : Fresh (planned.channels.get 0) 8 := by
  refine ⟨?_, ?_, ?_, ?_⟩
  · intro p h
    have e : (planned.channels.get 0).plan.all (fun p => decide (p.breakNo ≠ 8)) = true := by decide +kernel
    rw [h] at e
    simpa using e
  · intro p h
    have e : (planned.channels.get 0).split = none := by decide +kernel
    rw [e] at h
    cases h
  · intro p h
    have e : (planned.channels.get 0).pending = none := by decide +kernel
    rw [e] at h
    cases h
  · decide +kernel

theorem test_premises_AnnounceJudged :
    (filtered (waiting .pass)).reachesOnly 77 0 ∧ ((0 : FrameNo) = 0 ∧ 2 ^ 31 ≤ (2147483648 : FrameNo).toNat) ∧
      ((1 : FrameNo) ≠ 0 ∧ (2147483647 : FrameNo).toNat < 2 ^ 31) ∧
      (channel .bypass).state = .bypass ∧ ((onLine .pass).state ≠ .bypass ∧ (onLine .pass).settings.source ≠ .cue) ∧
      ((channel .pass).settings.source = .cue ∧ Fresh (channel .pass) 7 ∧ (channel .pass).held = none ∧
        (channel .pass).split = none ∧ (channel .pass).plan = none) ∧
      (Fresh (channel .loc) 7 ∧ (channel .loc).state = .loc) ∧ ¬ Fresh (planned.channels.get 0) 7 ∧
      (Fresh (planned.channels.get 0) 8 ∧ (planned.channels.get 0).plan.map (·.stop) = some 1150 ∧
        atOrAfter 1150 (1150 : FrameNo) = true ∧ atOrAfter 1149 (1150 : FrameNo) = false ∧
        (planned.channels.get 0).pending = none) ∧
      (isAfter 1008 (1008 : FrameNo) = false ∧ isAfter 1009 (1008 : FrameNo) = true ∧ isBefore 1008 (1008 : FrameNo) = false) ∧
      (31 < 2 * (channel .pass).settings.fade ∧ 2 * (channel .pass).settings.fade ≤ 32) ∧
      ((channel .pass).ring.get (channel .pass).head).owner = .loader ∧ (channel .pass).settings.policy = .passNetwork := by
  refine ⟨reachesOnly_filtered _, by decide +kernel, by decide +kernel, by decide +kernel, by decide +kernel,
    ⟨by decide +kernel, fresh_channel _, by decide +kernel⟩, ⟨fresh_channel _, by decide +kernel⟩, ?_,
    ⟨fresh_planned, by decide +kernel⟩, by decide +kernel, by decide +kernel, by decide +kernel, by decide +kernel⟩
  intro h
  have e : (planned.channels.get 0).plan.any (fun p => decide (p.breakNo = 7)) = true := by decide +kernel
  cases k : (planned.channels.get 0).plan with
  | none => rw [k] at e; cases e
  | some p =>
    rw [k] at e
    exact h.1 p k (by simpa using e)

theorem test_premises_AnnounceJudged_head :
    let c := (waiting .pass).channels.get 0
    let x := c.ring.get c.head
    let stopAfter (length : FrameNo) : Bool := isAfter ((1008 : FrameNo) + length) (1000 + 8)
    (c.state = .pass ∧ c.split = none ∧ c.plan = none ∧ c.held = none ∧ c.brk = none ∧ c.lastRing = none ∧ stopAfter 32 = true ∧
        2 * c.settings.fade = 32 ∧ c.settings.policy = .passNetwork) ∧
      (x.owner = .channel ∧ x.first = true ∧ x.last = true ∧ isBefore x.breakNo 8 = true ∧ x.itemA.cart ≠ 0 ∧
        x.itemA.result = .none ∧ x.itemA.held = false ∧ x.itemB.cart = 0 ∧ (c.ring.get (x.successor c.head)).owner = .loader) ∧
      (isBefore x.breakNo 6 = false ∧ x.breakNo ≠ 6) ∧
      (let s : Settings := { c.settings with policy := .fill, pad := 32 }
       s.policy = .fill ∧ (32 : FrameNo).toNat ≤ s.pad ∧ 2 * s.fade ≤ (32 : FrameNo).toNat ∧
         atOrAfter 1000 ((1008 : FrameNo) - 8) = true ∧ atOrAfter 1000 ((1009 : FrameNo) - 8) = false) ∧
      (let d := splitChannel .fill
       d.state = .split ∧ d.split.map (·.stop) = some 1200 ∧ d.pending = none ∧ d.held = none ∧ d.plan = none ∧ d.lastTaken = none ∧
         d.split.map (·.breakNo) = some 7 ∧ atOrAfter 1200 (1200 : FrameNo) = true ∧ atOrAfter 1199 (1200 : FrameNo) = false) := by
  decide +kernel

theorem test_premises_AnnouncePlansTheHeadBreak :
    let s := filtered (waiting .pass)
    let c := s.channels.get 0
    let x := c.ring.get c.head
    let k := x.itemA.cart
    let length : FrameNo := 50
    let early := s.time.position.getD 0 + 8
    (s.reachesOnly 77 0 ∧ length ≠ 0 ∧ length.toNat < 2 ^ 31 ∧ c.state = .pass ∧ c.settings.source = .cue ∧ c.free ∧
      c.split = none ∧ c.pending = none ∧ c.lastTaken ≠ some 7 ∧ x.owner = .channel ∧ x.first = true ∧ x.last = true ∧
      x.breakNo = 7 ∧ k ≠ 0 ∧ x.itemA.result = .none ∧ x.itemB.cart = 0 ∧ (s.store.catalog.get k).state = .ready ∧
      s.store.holds.get k < 255 ∧ (s.store.catalog.get k).size = some { length := 40, segueOut := 10 }) ∧
    (let start : FrameNo := 1009
     isAfter start early = true ∧ isAfter (start + length) early = true ∧
       atOrAfter (s.time.position.getD 0) (start - 8) = false ∧ 2 * c.settings.fade ≤ length.toNat ∧ 40 ≤ length.toNat) ∧
    (∀ m ∈ [998, 1008],
      let start : FrameNo := BitVec.ofNat 32 m
      (if m = 1008 then start = early else isBefore start early = true) ∧ isAfter (start + length) early = true ∧
        2 * c.settings.fade ≤ (start + length - early).toNat ∧ 40 ≤ (start + length - early).toNat ∧
        (s.store.catalog.get k).run.isSome = true ∧ c.deckA.state = .idle ∧ c.deckA.item = none ∧ c.deckB.ringItem = none) := by
  refine ⟨⟨reachesOnly_filtered _, ?_⟩, by decide +kernel, by decide +kernel⟩
  unfold Channel.free
  decide +kernel

theorem test_premises_CancelJudged :
    let c := splitChannel .fill
    let d : Channel := { c with pending := some { breakNo := 9, start := 1300, length := 60 } }
    let next := (locked base).time.nextPosition.getD 0 + BitVec.ofNat 32 c.settings.fade
    (filtered base).reachesOnly 77 0 ∧ (channel .bypass).state = .bypass ∧
      (c.state ≠ .bypass ∧ c.plan = none ∧ c.split = some (splitIn .fill) ∧ (splitIn .fill).breakNo = 7 ∧
        (splitIn .fill).phase ≠ .closing ∧ (splitIn .fill).rejoin = none) ∧
      (isAfter (next + 1) next = true ∧ atOrAfter (next + 1) (splitIn .fill).stop = false ∧
        isAfter 1199 next = true ∧ atOrAfter 1199 (splitIn .fill).stop = false) ∧
      (splitIn .closing).phase = .closing ∧ (d.pending.map (·.breakNo) = some 9 ∧ (splitIn .fill).breakNo ≠ 9) := by
  refine ⟨reachesOnly_filtered _, ?_⟩
  decide +kernel

theorem test_premises_CancelJudged_plan :
    let c : Channel := { planOnDeck with pending := none }
    let x := planned3 0 .a .included
    c.state = .pass ∧ c.plan = some (primedPlan 1100 [x]) ∧ (primedPlan 1100 [x]).breakNo = 7 ∧ x.inclusion = .included ∧
      c.pending = none ∧ c.held = none ∧ c.split = none ∧ c.brk = none ∧ c.lastRing = none ∧ c.deckB.item = none ∧
      x.ref.part = .a ∧ (c.ring.get x.ref.index).itemB.cart = 0 ∧ (c.ring.get x.ref.index).itemA.held = true ∧
      (c.deckA.item = some (.ring x.ref) ∧ c.deckA.waiting = true) ∧ Deck.reset.item = none := by decide +kernel

/-- Beside that plan a pending announce repeats it, is late, or is planned under policy FILL, at S = P + 9. -/
theorem test_premises_CancelJudged_pending :
    let early : FrameNo := 1000 + 8
    let c : Channel := { planOnDeck with settings := { planOnDeck.settings with policy := .fill } }
    let w (b : BreakNo) (start length : FrameNo) : Channel := { c with
      pending := some { breakNo := b, start := start, length := length } }
    ((w 7 1300 60).pending.map (·.breakNo) = some 7 ∧ c.state = .pass) ∧
      ((w 9 958 50).pending.map (·.breakNo) = some 9 ∧ isAfter ((958 : FrameNo) + 50) early = false) ∧
      (isAfter ((1009 : FrameNo) + 32) early = true ∧ isBefore (1009 : FrameNo) early = false ∧ c.settings.policy = .fill ∧
        2 * c.settings.fade ≤ ((1009 : FrameNo) + 32 - 1009).toNat ∧ (c.ring.get c.head).owner = .loader ∧
        atOrAfter 1000 ((1009 : FrameNo) - 8) = false) := by decide +kernel

theorem test_premises_WindowCuesJudged :
    let h : HeldWindow := { opens := 1200, closes := none, stage := .waiting }
    let least : FrameNo := 1200 + BitVec.ofNat 32 (2 * (channel .pass).settings.fade)
    let w : WindowCtx := { opens := 990, closes := some 1300, ends := some 1300 }
    (filtered base).reachesOnly 77 0 ∧ (channel .bypass).state = .bypass ∧
      (∃ c : Channel, c.held = some h ∧ c.state = .pass ∧ h.opens = 1200) ∧
      (∃ c : Channel, c.window = some w ∧ c.state = .loc ∧ w.ends.isSome = true ∧ w.closes = some 1300) ∧
      ((channel .brk).window = none ∧ (channel .brk).held = none ∧ (channel .brk).state = .brk) ∧
      ((channel .pass).window = none ∧ (channel .pass).free) ∧
      (isAfter 1000 ((locked base).time.position.getD 0) = false ∧ isAfter 1001 ((locked base).time.position.getD 0) = true) ∧
      (isAfter least least = false ∧ isAfter (least + 1) least = true) ∧
      atOrAfter ((locked base).time.position.getD 0) ((1200 : FrameNo) - 8) = false := by
  refine ⟨reachesOnly_filtered _, by decide +kernel, ⟨{ channel .pass with held := some _ }, rfl, rfl, rfl⟩,
    ⟨{ channel .loc with window := some _ }, rfl, rfl, rfl, rfl⟩, by decide +kernel, ?_, by decide +kernel, by decide +kernel,
    by decide +kernel⟩
  unfold Channel.free
  decide +kernel

theorem test_premises_WindowCuesJudged_close :
    let least : FrameNo := 1200 + BitVec.ofNat 32 (2 * (channel .pass).settings.fade)
    (isAfter (least + 1) least = true ∧ isAfter least least = false) ∧
      (let c := heldAt .pass 1200 .waiting
       c.state = .pass ∧ c.plan = none ∧ c.held.map (fun h => (h.opens, h.stage)) = some (1200, .waiting)) ∧
      (let c : Channel := { heldAt .pass 1200 .ring with deckA := ringDeck 1 .ready, ring := (airing .pass 0 0).ring }
       c.state = .pass ∧ c.plan = none ∧ c.held.map (·.stage) = some .ring ∧ c.deckA.item = some (.ring ⟨1, .a⟩) ∧
         c.deckA.waiting = true ∧ c.deckB.state = .idle ∧ (c.ring.get 1).itemA.held = true) ∧
      ((inWindow none).state = .loc ∧ (inWindow none).window.map (·.ends) = some none) ∧
      ((inWindow (some 1016)).window.map (fun w => (w.opens, w.closes, w.ends)) = some (900, some 1016, some 1016)) ∧
      ((splitChannel .fill).state = .split ∧ (splitChannel .fill).held = none) := by decide +kernel

/-! ### Premises: the cart store and the media port -/

theorem test_premises_ContentPlaces : (1 ≤ 1 ∧ 61 < 63 * 1 - 1) ∧ (1 ≤ 1024 ∧ 64510 < 63 * 1024 - 1) := by decide

theorem test_premises_StoreRequests_queries :
    let badRange (bank count : Byte) (first : BitVec 16) : Prop :=
      4 ≤ bank.toNat ∨ count.toNat < 1 ∨ 64 < count.toNat ∨ 1024 < first.toNat + count.toNat
    base.reached bc ∧ 1024 ≤ (1024 : BitVec 16).toNat ∧ badRange 4 1 0 ∧ badRange 0 0 0 ∧ badRange 0 65 0 ∧ badRange 0 2 1023 ∧
      ¬ badRange 3 64 960 ∧ ¬ badRange 0 1 1023 ∧ ((1023 : BitVec 16).toNat = (1023 : Fin 1024).val ∧ (1023 : Fin 1024) ≠ 0) ∧
      State.reset.store.scan.done = false ∧ base.store.scan.done = true ∧ (base.store.catalog.get 3).state ≠ .loading ∧
      ((loading.store.catalog.get 9).state = .loading ∧ loading.store.download.map (·.cart) = some 9) := by
  refine ⟨reached_bc _, ?_⟩
  decide +kernel

theorem test_premises_StoreRequests_delete :
    base.reached bc ∧ (base.store.catalog.get 4).state = .empty ∧
      ((priming.store.catalog.get 3).state = .ready ∧ priming.store.holds.get 3 ≠ 0) ∧
      ((base.store.catalog.get 3).state = .ready ∧ base.store.holds.get 3 = 0) ∧
      ((loading.store.catalog.get 9).state = .loading ∧ (loading.store.download.map (·.close)) = some none) ∧
      (base.store.catalog.get 3).run = some { bank := 1, first := 2, count := 1 } ∧
      (after (.cartClose bc 2 9 0) (programming none)).store.download.map (fun d => d.close.isSome) = some true := by
  refine ⟨reached_bc _, ?_⟩
  decide +kernel

theorem test_premises_EraseJobRuns_request :
    let claimed (s : State) (first count : Nat) : Prop := ∃ i, i < count ∧ UnitMap.at s.store.map (first + i) = some .claimed
    base.reached bc ∧ (erasing none).store.job.isSome = true ∧ dirty.store.job = none ∧ claimed loading 5 1 ∧
      ¬ claimed dirty 5 3 ∧
      ((List.range 3).map (5 + ·)).filter (fun u => decide (UnitMap.at dirty.store.map u = some .dirty)) = [6] ∧
      ((List.range 3).map (7 + ·)).filter (fun u => decide (UnitMap.at dirty.store.map u = some .dirty)) = [] := by
  refine ⟨reached_bc _, by decide +kernel, by decide +kernel, ⟨0, by decide +kernel⟩, ?_, by decide +kernel, by decide +kernel⟩
  rintro ⟨i, h, k⟩
  have e : ∀ i, i < 3 → UnitMap.at dirty.store.map (5 + i) ≠ some .claimed := by decide +kernel
  exact e i h k

theorem test_premises_CartOpenRequest :
    let bad (cart : BitVec 16) (bank : Byte) (first count : BitVec 16) (length segueOut : BitVec 32) : Prop :=
      cart = 0 ∨ 1024 ≤ cart.toNat ∨ 4 ≤ bank.toNat ∨ count.toNat < 1 ∨ 1024 < count.toNat ∨
        1024 < first.toNat + count.toNat ∨ length.toNat < 1 ∨ (63 * count.toNat - 1) * 8 < length.toNat ∨
        length.toNat ≤ segueOut.toNat
    let s : State := { base with store := { base.store with map := UnitMap.mark base.store.map 5 .erased } }
    base.reached bc ∧ bad 0 0 0 1 1 0 ∧ bad 1024 0 0 1 1 0 ∧ bad 1 4 0 1 1 0 ∧ bad 1 0 0 0 1 0 ∧ bad 1 0 0 1025 1 0 ∧
      bad 1 0 1023 2 1 0 ∧ bad 1 0 0 1 0 0 ∧ bad 1 0 0 1 497 0 ∧ bad 1 0 0 1 5 5 ∧
      ¬ bad 1023 3 0 1024 516088 516087 ∧ ¬ bad 1 0 1023 1 496 0 ∧
      loading.store.download.map (·.cart) = some 9 ∧ (base.store.catalog.get 3).state ≠ .empty ∧
      ((s.store.catalog.get 9).state = .empty ∧ s.store.download = none ∧
        ∀ i, i < 1 → UnitMap.at s.store.map (5 + i) = some .erased) ∧
      UnitMap.at s.store.map 6 ≠ some .erased := by
  refine ⟨reached_bc _, ?_⟩
  decide +kernel

/-- The download's staging pages and phase set. -/
def staged (x y : StagingState) (frames : Nat) : State :=
  { loading with store := { loading.store with download := loading.store.download.map (fun d =>
      { d with
        x := { state := x, page := 0, frames := List.replicate frames (tone 0) }
        y := { state := y, page := 1, frames := [] } }) } }

theorem test_premises_SegmentJudged :
    base.reached bc ∧ base.store.download = none ∧
      (loading.store.download.map (fun d => (d.cart, d.phase, d.expected, d.x.state, d.y.state))
        = some (9, .receiving, 0, .empty, .empty)) ∧
      ((staged .filling .empty 6).store.download.map (fun d => (d.x.state, d.x.frames.length)) = some (.filling, 6)) ∧
      ((staged .filling .pending 7).store.download.map (fun d => (d.x.state, d.x.frames.length, d.x.page)) = some (.filling, 7, 0)) ∧
      ((staged .pending .empty 8).store.download.map (fun d => (d.x.state, d.y.state)) = some (.pending, .empty)) ∧
      ((staged .pending .filling 8).store.download.map (fun d => (d.x.state, d.y.state, d.y.frames.length, d.y.page))
        = some (.pending, .filling, 0, 1)) ∧
      ((staged .pending .programming 8).store.download.map (fun d => (d.x.state, d.y.state)) = some (.pending, .programming)) ∧
      (loading.store.catalog.get 9).run = some { bank := 0, first := 5, count := 1 } ∧
      (after (.cartClose bc 2 9 0) (programming none)).store.download.map (·.phase) = some .closing := by
  refine ⟨reached_bc _, ?_⟩
  decide +kernel

theorem test_premises_CartCloseRequest :
    let s := after (.cartOpen bc 1 9 0 5 1 1 0)
      { base with store := { base.store with map := UnitMap.mark base.store.map 5 .erased } }
    base.reached bc ∧ ((1023 : BitVec 16).toNat = (1023 : Fin 1024).val) ∧ base.store.download = none ∧
      (s.store.download.map (fun d => (d.cart, d.phase, d.queue.length, d.inFlight.isSome, d.x.state, d.y.state, d.expected))
        = some (9, .receiving, 0, false, .empty, .empty, 0)) ∧
      (s.store.catalog.get 9).size = some { length := 1, segueOut := 0 } ∧
      ((programming none).store.download.map (fun d => (d.phase, d.x.state, d.inFlight.isSome))
        = some (.receiving, .empty, true)) ∧
      (∃ d : Download, d.expected = 1 ∧ d.x.state = .empty ∧ d.y.state = .empty ∧ d.queue = [] ∧ d.inFlight = none) :=
  ⟨reached_bc _, by decide +kernel, by decide +kernel, by decide +kernel, by decide +kernel, by decide +kernel,
    { number := 1, cart := 9, phase := .receiving, expected := 1, check := 0, errors := 0, nextPage := 1,
      x := { state := .empty, page := 0, frames := [] }, y := { state := .empty, page := 0, frames := [] }, queue := [],
      inFlight := none, close := none, programmed := 1 }, by decide⟩

/-- The download of cart 9 with four frames in content page n, staged in page Y. -/
def padded (n : Nat) : Download :=
  { number := 1, cart := 9, phase := .receiving, expected := 8 * n + 4, check := 0, errors := 0, nextPage := n + 1,
    x := { state := .empty, page := 0, frames := [] }, y := { state := .filling, page := n, frames := List.replicate 4 (tone 0) },
    queue := [], inFlight := none, close := none, programmed := n }

theorem test_premises_CartCloseRequest_padding :
    let first (x : Staging) : Prop := x.page = 0 ∨ (62 ≤ x.page ∧ (x.page - 62) % 63 = 0)
    (∀ n ∈ [0, 1, 61, 62, 63], let d := padded n
      d.phase = .receiving ∧ (d.staging .y).state = .filling ∧ (d.staging .x).state ≠ .filling) ∧
      first (padded 0).y ∧ first (padded 62).y ∧ ¬ first (padded 1).y ∧ ¬ first (padded 61).y ∧ ¬ first (padded 63).y ∧
      (loading.store.catalog.get 9).run.isSome = true := by decide +kernel

/-- Deck A sounds with 24 frames of cart 3 and pages left. -/
def refilling : State :=
  on { channel .pass with deckA := { fadingDeck with
    source := some { bank := 1, firstUnit := 2, length := 40, segueOut := 10 }, nextPage := 3
    buffer := List.replicate 24 (tone 0) } }

/-- A unit header program waits at the front of the queue. -/
def queued : State :=
  let p : Program := { kind := .unitHeader, unit := 5, ordinal := 0, page := 0, contents := unitHeaderPage 9 0 0 }
  { loading with store := { loading.store with download := loading.store.download.map (fun d => { d with queue := [p] }) } }

theorem test_premises_GrantOrder :
    (let k := priming.deckAt 0
     priming.arbiter.port = none ∧ k.read = none ∧ k.source = some { bank := 1, firstUnit := 2, length := 40, segueOut := 10 } ∧
       k.nextPage ≤ (40 - 1) / 8 ∧ priming.arbiter.banks.get 1 = none ∧ k.state = .priming ∧
       priming.arbiter.deckPointer + 1 + 0 = 0) ∧
      (let k := refilling.deckAt 0
       refilling.arbiter.port = none ∧ (∀ n, n ≠ 0 → (refilling.deckAt n).source = none) ∧ k.read = none ∧ k.source.isSome = true ∧
         k.nextPage ≤ (40 - 1) / 8 ∧ refilling.arbiter.banks.get 1 = none ∧ k.state = .fading ∧ k.buffer.length = 24 ∧
         k.allowanceUsed = false) ∧
      ((∀ n, (State.reset.deckAt n).source = none) ∧ State.reset.store.scan.done = false ∧
        (State.reset.store.scan.banks.get 0).read.isSome = true ∧ State.reset.arbiter.banks.get 0 = none ∧
        State.reset.arbiter.scanPointer + 1 + 0 = 0) ∧
      (queued.store.scan.done = true ∧ (∀ n, (queued.deckAt n).source = none) ∧
        queued.store.download.map (fun d => (d.queue.length, d.inFlight.isSome)) = some (1, false) ∧
        queued.arbiter.banks.get 0 = none) ∧
      ((after (.unitErase bc 1 0 5 3) dirty).store.job.map (fun j => (j.units, j.inFlight)) = some ([6], none) ∧
        (after (.unitErase bc 1 0 5 3) dirty).store.download = none) := by decide +kernel

theorem test_premises_GrantEffects : (priming.deckAt 0).source = some { bank := 1, firstUnit := 2, length := 40, segueOut := 10 } := by
  decide +kernel

theorem test_premises_DeckReadEnds :
    let s := after .mediaPortGrant priming
    let k := (s.channels.get 0).deck .a
    let page := contentPage (List.replicate 8 (tone 0))
    (s.arbiter.port = some (.deckRead 0 .a 1 0 1 false) ∧ k.load = 1 ∧ k.state ≠ .idle ∧ k.retries < 3) ∧
      ((contentFrames page).isSome = true ∧ Flash.read [((1 * 1024 + 2 + (contentPlace 0).1) * 64 + (contentPlace 0).2, page)]
        ((1 * 1024 + 2 + (contentPlace 0).1) * 64 + (contentPlace 0).2) = page) ∧
      (∃ p, contentFrames p = none) ∧ (∃ j : Deck, j.load ≠ 1 ∧ j.state = .idle) := by
  refine ⟨by decide +kernel, ⟨contentFrames_contentPage _ (by decide +kernel), by simp [Flash.read]⟩, ?_, Deck.reset, by decide⟩
  by_cases h : (check (List.replicate 9216 0)).toNat = 0
  · exact ⟨_, contentFrames_damaged (List.replicate 9216 0) 1 List.length_replicate (by decide) (by omega)⟩
  · exact ⟨_, contentFrames_damaged (List.replicate 9216 0) 0 List.length_replicate (by decide) h⟩

/-- The port reads a page 0 or page 1 for bank 0, after n attempts, while bank 3 also has a read left. -/
def scanning (unit : Nat) (page1 : Bool) (n : Nat) : State :=
  let t := State.reset.store.scan
  { State.reset with
    arbiter := { State.reset.arbiter with port := some (.scanRead 0), banks := put State.reset.arbiter.banks 0 (some .read) }
    store := { State.reset.store with scan := { t with
      classes := t.classes.setIfInBounds unit (some (.header 9 0))
      banks := put t.banks 0 { read := some { unit := unit, page1 := page1 }, attempt := n } } } }

theorem test_premises_ScanReads :
    (∀ u ∈ [0, 1023], (scanning u false 1).arbiter.port = some (.scanRead 0) ∧
        (scanning u true 4).store.scan.banks.get 0 = { read := some { unit := u, page1 := true }, attempt := 4 } ∧
        ((scanning u true 4).store.scan.banks.get 3).read.isSome = true) ∧
      isBlank (.data [0xFF]) = true ∧ isBlank .void = false ∧
      (isBlank (.data badMark) = false ∧ pageBytes (.data badMark) 0 8 = badMark) ∧
      (isBlank (.data [1]) = false ∧ pageBytes (.data [1]) 0 8 ≠ badMark ∧ checkGood (.data [1]) 8 = false ∧
        checkGood (.data [1]) 20 = false) ∧
      (∀ x ∈ [(1, 0), (1023, 1022)], let p := unitHeaderPage x.1 x.2 0
        isBlank p = false ∧ p ≠ .void ∧ pageBytes p 0 8 ≠ badMark ∧ checkGood p 8 = true ∧
          numberOf (pageBytes p 0 2) = x.1.val ∧ numberOf (pageBytes p 4 1) = 0 ∧ numberOf (pageBytes p 2 2) = x.2) ∧
      (let p := unitHeaderPage 0 0 0
       checkGood p 8 = true ∧ numberOf (pageBytes p 0 2) = 0) ∧
      (∀ x ∈ [(1, 496), (1, 497), (1024, 516088)], let p := cartHeaderPage 9 x.2 0 0 x.1
        isBlank p = false ∧ checkGood p 20 = true ∧ numberOf (pageBytes p 0 2) = 9 ∧ numberOf (pageBytes p 16 2) = x.1 ∧
          numberOf (pageBytes p 4 4) = x.2 ∧ numberOf (pageBytes p 8 4) = 0) ∧
      (scanning 5 true 1).store.scan.classes[5]? = some (some (.header 9 0)) := by
  refine ⟨by decide +kernel, by decide +kernel, by decide +kernel, by decide +kernel, by decide +kernel, by decide +kernel,
    by decide +kernel, by decide +kernel, ?_⟩
  show ((Vector.replicate 4096 none).setIfInBounds 5 _)[5]? = _
  simp

/-- A program of a kind in flight in the download of cart 9, a close waiting. -/
def closing (kind : ProgramKind) (page : Nat) : State :=
  let p : Program := { kind := kind, unit := 5, ordinal := 0, page := page, contents := .data [1] }
  { loading with
    store := { loading.store with download := loading.store.download.map (fun d =>
      { d with phase := .closing, inFlight := some p, close := some { tag := 8, check := 0 }, expected := 16 }) }
    arbiter := { loading.arbiter with banks := put loading.arbiter.banks 0 (some (.program p 9 1)) } }

/-- The scan at its last read, page 0 of the last unit of bank 3, with a unit header of cart 9 in unit 5. -/
def scanEnding : State :=
  let t := State.reset.store.scan
  { State.reset with
    arbiter := { State.reset.arbiter with port := some (.scanRead 3), banks := put State.reset.arbiter.banks 3 (some .read) }
    store := { State.reset.store with scan := { t with
      classes := t.classes.setIfInBounds 5 (some (.header 9 0))
      banks := put (Vector.replicate 4 { read := none, attempt := 1 }) 3
        { read := some { unit := 1023, page1 := false }, attempt := 1 } } } }

theorem test_premises_ScanEnds :
    let run (u n : Nat) : Prop :=
      u % 1024 + n ≤ 1024 ∧ ∀ j, j < n → scanEnding.store.scan.classes[u + j]? = some (some (.header 9 j))
    (scanEnding.arbiter.port = some (.scanRead 3) ∧
        scanEnding.store.scan.banks.get 3 = { read := some { unit := 1023, page1 := false }, attempt := 1 } ∧
        (∀ m, m ≠ 3 → (scanEnding.store.scan.banks.get m).read = none) ∧ classOf 3 1023 (.data [0xFF]) = some .blank ∧
        (∀ n, (scanEnding.channels.get n).fill.wait = false)) ∧
      (run 5 1 ∧ ¬ run 5 2 ∧ scanEnding.store.scan.headers.lookup 5 = none) ∧ ∀ v, run v 1 → v = 5 := by
  have e : scanEnding.store.scan.classes = (Vector.replicate 4096 none).setIfInBounds 5 (some (.header 9 0)) := rfl
  refine ⟨by decide +kernel, ⟨⟨by decide, fun j h => ?_⟩, fun h => ?_, rfl⟩, fun v h => ?_⟩
  · obtain rfl : j = 0 := by omega
    rw [e]
    simp
  · have k := h.2 1 (by decide)
    rw [e] at k
    simp at k
  · have k := h.2 0 (by decide)
    rw [e] at k
    simp [Vector.getElem?_setIfInBounds] at k
    by_contra n
    simpa [Vector.getElem?_replicate] using k (Ne.symm n)

theorem test_premises_ProgramsAndErasesEnd :
    (programming (some (.program 0))).arbiter.port = some (.program 0) ∧ (erasing (some (.erase 0))).arbiter.port = some (.erase 0) ∧
      ((programming none).arbiter.port = none ∧ (programming none).store.download.map (fun d => (d.number, d.phase, d.close.isSome))
        = some (1, .receiving, false) ∧ ((programming none).arbiter.banks.get 0).isSome = true) ∧
      (∀ x ∈ [(ProgramKind.content .y, 2), (.cartHeader, 1)],
        let s := closing x.1 x.2
        s.arbiter.port = none ∧ s.arbiter.banks.get 0 = some (.program
            { kind := x.1, unit := 5, ordinal := 0, page := x.2, contents := .data [1] } 9 1) ∧
          (s.store.download.map (fun d => (d.number, d.phase, d.close, d.queue, d.x.state, d.y.state, d.expected))
            = some (1, .closing, some { tag := 8, check := 0 }, [], .empty, .empty, 16)) ∧
          (∀ n, (s.channels.get n).fill.wait = false)) ∧
      (loading.store.catalog.get 9).run = some { bank := 0, first := 5, count := 1 } ∧
      (loading.store.catalog.get 9).size = some { length := 16, segueOut := 0 } ∧
      (let s := run [.cartClose bc 2 9 0] { programming none with
         store := { (programming none).store with download := loading.store.download } }
       s.store.download = none ∧ (s.arbiter.banks.get 0).isSome = true ∧ (s.store.catalog.get 9).state = .torn ∧
         (s.store.catalog.get 9).download = some 1) := by decide +kernel

theorem test_premises_EraseJobRuns_ends :
    (erasing none).arbiter.banks.get 0 = some (.erase 6) ∧ (erasing none).arbiter.port = none ∧
      (erasing none).store.job.map (·.units) = some [] ∧ 6 < 4096 ∧
      (after .mediaPortGrant (after (.unitErase bc 1 0 5 3)
        { dirty with store := { dirty.store with map := UnitMap.mark dirty.store.map 7 .dirty } })).store.job.map (·.units)
        = some [7] := by decide +kernel

end Sys2Proof.Tests
end

/-! Proofs about the running order rings: the requests RO_WRITE, RO_REVOKE, RO_READ and RO_HEAD (R25, R32 to R37). -/

namespace Sys2Proof.Machine

/-! ### Fields of ring requests -/

theorem field_eq_ofNat {n x : Nat} [NeZero n] (h : x < n) : field n x = some (Fin.ofNat n x) := by
  rw [field_inside h]
  exact congrArg some (Fin.ext (Nat.mod_eq_of_lt h).symm)

theorem field_eq_some {n x : Nat} (i : Fin n) (h : x = i.val) : field n x = some i := by
  subst h
  exact field_inside i.isLt

theorem ofNat_toNat_eq_zero_iff {n w : Nat} [NeZero n] (v : BitVec w) (h : v.toNat < n) :
    Fin.ofNat n v.toNat = 0 ↔ v = 0 := by
  rw [← Fin.val_inj, ← BitVec.toNat_inj]
  simp [Nat.mod_eq_of_lt h]

/-- Table 12-3: the segue of a code 0 to 2. -/
theorem segueOf_coded (b : Byte) (h : b.toNat ≤ 2) :
    segueOf b = some (if b = 0 then .cut else if b = 1 then .overlap else .fade) := by
  unfold segueOf
  split
  · rfl
  · next h0 =>
    split
    · rfl
    · next h1 =>
      have h2 : b = 2 := by bv_omega
      exact if_pos h2

theorem segueOf_uncoded (b : Byte) (h : ¬ b.toNat ≤ 2) : segueOf b = none := by
  have h0 : b ≠ 0 := by rintro rfl; exact h (by decide)
  have h1 : b ≠ 1 := by rintro rfl; exact h (by decide)
  have h2 : b ≠ 2 := by rintro rfl; exact h (by decide)
  simp only [segueOf, if_neg h0, if_neg h1, if_neg h2]

/-! ### Channel and index, the first check of a ring request (R32) -/

/-- What a ring request does by its channel and index: `act` where they name an entry, `refused` elsewhere. -/
def atRingPlace (channel index : Byte) (refused : State) (act : Fin 4 → Fin 128 → State) : State :=
  match field 4 channel.toNat, field 128 index.toNat with
  | some n, some i => act n i
  | _, _ => refused

theorem atRingPlace_outside (channel index : Byte) (refused : State) (act : Fin 4 → Fin 128 → State)
    (h : 4 ≤ channel.toNat ∨ 128 ≤ index.toNat) : atRingPlace channel index refused act = refused := by
  unfold atRingPlace
  obtain hn | hi := h
  · rw [field_outside (Nat.not_lt.mpr hn)]
  · rw [field_outside (Nat.not_lt.mpr hi)]
    cases field 4 channel.toNat <;> rfl

theorem atRingPlace_inside {channel index : Byte} {n : Fin 4} {i : Fin 128} (hn : channel.toNat = n.val)
    (hi : index.toNat = i.val) (refused : State) (act : Fin 4 → Fin 128 → State) :
    atRingPlace channel index refused act = act n i := by
  rw [atRingPlace, field_eq_some n hn, field_eq_some i hi]

section
variable {s : State} {a : Address} (reached : s.reached a) (tag : BitVec 16) (channel index : Byte)
include reached

theorem exec_roWrite (breakNo : BreakNo) (flags segue : Byte) (itemA second : BitVec 16) :
    exec (.roWrite a tag channel index breakNo flags segue itemA second) s =
      .next (atRingPlace channel index (s.answer tag 0x0004 .badField) fun n i =>
        if ((s.channels.get n).ring.get i).owner = .channel then s.answer tag 0x0004 .owned
        else (writtenEntry breakNo flags segue itemA second).elim (s.answer tag 0x0004 .badField)
          fun x => (s.setRing n i x).answer tag 0x0004 .done) := by
  refine congrArg Host.Outcome.next ((s.atPart_reached a _ reached).trans ?_)
  unfold atRingPlace
  cases writtenEntry breakNo flags segue itemA second <;> rfl

theorem exec_roRevoke :
    exec (.roRevoke a tag channel index) s =
      .next (atRingPlace channel index (s.answer tag 0x0005 .badField) fun n i =>
        if ((s.channels.get n).ring.get i).owner = .loader then s.answer tag 0x0005 .state
        else if (s.desk n).inUse i then s.answer tag 0x0005 .held
        else (s.setRing n i (revokedEntry ((s.channels.get n).ring.get i))).answer tag 0x0005 .done) :=
  congrArg Host.Outcome.next (s.atPart_reached a _ reached)

theorem exec_roRead :
    exec (.roRead a tag channel index) s =
      .next (atRingPlace channel index (s.answer tag 0x0006 .badField) fun n i =>
        s.answer tag 0x0006 .done (.ringEntry ((s.channels.get n).ring.get i) (s.channels.get n).head)) :=
  congrArg Host.Outcome.next (s.atPart_reached a _ reached)

theorem exec_roHead :
    exec (.roHead a tag channel index) s =
      .next (atRingPlace channel index (s.answer tag 0x0007 .badField) fun n i =>
        if (s.channels.get n).state = .bypass then
          (s.withChannel n { s.channels.get n with head := i }).answer tag 0x0007 .done
        else s.answer tag 0x0007 .state) :=
  congrArg Host.Outcome.next (s.atPart_reached a _ reached)

end

/-! ### RO_WRITE: the fields carried and the entry they make (R33, R34) -/

/-- R33: every field of an RO_WRITE after channel and index is good. -/
def RingFieldsGood (flags segue : Byte) (itemA second : BitVec 16) : Prop :=
  segue.toNat ≤ 2 ∧ itemA.toNat ≤ 1023 ∧
    (if flags.getLsbD 3 then second.toNat ≤ 127 ∧ itemA ≠ 0 else second.toNat ≤ 1023 ∧ (itemA ≠ 0 ∨ second ≠ 0))

/-- R34: an item as written, with result NONE. -/
def carriedItem (cart : BitVec 16) : Item :=
  { cart := Fin.ofNat 1024 cart.toNat, result := .none, provisional := false, aired := 0, held := false }

/-- R34: the entry of exactly the fields carried. -/
def carriedEntry (breakNo : BreakNo) (flags segue : Byte) (itemA second : BitVec 16) : Entry :=
  { owner := .channel, breakNo := breakNo, first := flags.getLsbD 0, last := flags.getLsbD 1,
    endOfRing := flags.getLsbD 2, chained := flags.getLsbD 3, droppable := flags.getLsbD 4,
    segue := if segue = 0 then .cut else if segue = 1 then .overlap else .fade,
    itemA := carriedItem itemA, itemB := if flags.getLsbD 3 then carriedItem 0 else carriedItem second,
    chainTo := if flags.getLsbD 3 then some (Fin.ofNat 128 second.toNat) else none, start := none }

theorem writtenEntry_good (breakNo : BreakNo) {flags segue : Byte} {itemA second : BitVec 16}
    (good : RingFieldsGood flags segue itemA second) :
    writtenEntry breakNo flags segue itemA second = some (carriedEntry breakNo flags segue itemA second) := by
  obtain ⟨hsegue, hA, hsecond⟩ := good
  have hA : itemA.toNat < 1024 := Nat.lt_succ_of_le hA
  unfold writtenEntry carriedEntry
  rw [segueOf_coded segue hsegue, field_eq_ofNat hA]
  cases hchain : flags.getLsbD 3
  case true =>
    obtain ⟨hnext, hpresent⟩ := (if_pos hchain).mp hsecond
    have hcart : ¬ Fin.ofNat 1024 itemA.toNat = 0 := mt (ofNat_toNat_eq_zero_iff itemA hA).mp hpresent
    simp only [field_eq_ofNat (Nat.lt_succ_of_le hnext), if_neg hcart, if_true]
    rfl
  case false =>
    obtain ⟨hB, hpresent⟩ := (if_neg (Bool.eq_false_iff.mp hchain)).mp hsecond
    have hB : second.toNat < 1024 := Nat.lt_succ_of_le hB
    have hcarts : ¬ (Fin.ofNat 1024 itemA.toNat = 0 ∧ Fin.ofNat 1024 second.toNat = 0) := by
      rw [ofNat_toNat_eq_zero_iff itemA hA, ofNat_toNat_eq_zero_iff second hB]
      tauto
    simp only [field_eq_ofNat hB, if_neg hcarts, Bool.false_eq_true, if_false]
    rfl

theorem writtenEntry_bad (breakNo : BreakNo) {flags segue : Byte} {itemA second : BitVec 16}
    (bad : ¬ RingFieldsGood flags segue itemA second) : writtenEntry breakNo flags segue itemA second = none := by
  unfold writtenEntry
  by_cases hsegue : segue.toNat ≤ 2
  swap
  · rw [segueOf_uncoded segue hsegue]
  by_cases hA : itemA.toNat < 1024
  swap
  · rw [field_outside hA, segueOf_coded segue hsegue]
  rw [segueOf_coded segue hsegue, field_eq_ofNat hA]
  cases hchain : flags.getLsbD 3
  case true =>
    by_cases hnext : second.toNat < 128
    · have habsent : itemA = 0 := by
        by_contra hpresent
        exact bad ⟨hsegue, Nat.le_of_lt_succ hA, (if_pos hchain).mpr ⟨Nat.le_of_lt_succ hnext, hpresent⟩⟩
      simp [field_eq_ofNat hnext, habsent]
    · simp [field_outside hnext]
  case false =>
    by_cases hB : second.toNat < 1024
    · have habsent : itemA = 0 ∧ second = 0 := by
        by_contra hpresent
        exact bad ⟨hsegue, Nat.le_of_lt_succ hA,
          (if_neg (Bool.eq_false_iff.mp hchain)).mpr ⟨Nat.le_of_lt_succ hB, by tauto⟩⟩
      obtain ⟨rfl, rfl⟩ := habsent
      rfl
    · simp [field_outside hB]

/-- Settles O34: the place of the entry is judged first, then its owner, then the fields it would carry. -/
theorem roWriteRequest : Obligations.RoWriteRequest := by
  unfold Obligations.RoWriteRequest
  intro s a tag channel index breakNo flags segue itemA second reached
  dsimp only
  rw [exec_roWrite reached]
  refine ⟨fun outside => by rw [atRingPlace_outside _ _ _ _ outside], fun n i hn hi => ?_⟩
  rw [atRingPlace_inside hn hi]
  refine ⟨fun owned => by rw [if_pos owned], fun free bad => ?_, fun free good => ?_⟩
  · rw [if_neg (by simp [free]), writtenEntry_bad breakNo bad]
    rfl
  · rw [if_neg (by simp [free]), writtenEntry_good breakNo good]
    rfl

/-! ### RO_REVOKE: entries in use (R25) and revoked items (R35) -/

/-- R25: an item of the entry is planned, in a split or on a deck, or the entry is in the break. -/
def Channel.EntryInUse (c : Channel) (i : Fin 128) : Prop :=
  (∃ p, c.plan = some p ∧ ∃ y ∈ p.items, y.ref.index = i) ∨ (∃ p, c.split = some p ∧ ∃ y ∈ p.items, y.ref.index = i) ∨
    (∃ b, c.brk = some b ∧ i ∈ b.entries) ∨
    (∃ k r, (k = c.deckA ∨ k = c.deckB) ∧ k.item = some (.ring r) ∧ r.index = i)

theorem Deck.ringItem_eq_some_iff (k : Deck) (r : ItemRef) : k.ringItem = some r ↔ k.item = some (.ring r) := by
  unfold Deck.ringItem
  cases k.item with
  | none => simp
  | some item => cases item <;> simp

/-- Item A or item B of the entry is on a deck. -/
theorem Desk.onDeck_parts_iff (d : Desk) (i : Fin 128) :
    d.onDeck ⟨i, .a⟩ = true ∨ d.onDeck ⟨i, .b⟩ = true ↔
      ∃ k r, (k = d.ch.deckA ∨ k = d.ch.deckB) ∧ k.item = some (.ring r) ∧ r.index = i := by
  simp only [Desk.onDeck, Bool.or_eq_true, beq_iff_eq, Deck.ringItem_eq_some_iff]
  constructor
  · rintro ((h | h) | (h | h))
    · exact ⟨_, _, .inl rfl, h, rfl⟩
    · exact ⟨_, _, .inr rfl, h, rfl⟩
    · exact ⟨_, _, .inl rfl, h, rfl⟩
    · exact ⟨_, _, .inr rfl, h, rfl⟩
  · rintro ⟨k, ⟨_, part⟩, rfl | rfl, h, rfl⟩
    · cases part
      · exact .inl (.inl h)
      · exact .inr (.inl h)
    · cases part
      · exact .inl (.inr h)
      · exact .inr (.inr h)

theorem Desk.inUse_iff (d : Desk) (i : Fin 128) : d.inUse i = true ↔ d.ch.EntryInUse i := by
  unfold Desk.inUse Channel.EntryInUse
  rw [Bool.or_assoc, Bool.or_eq_true, Bool.or_eq_true, Bool.or_eq_true, Bool.or_eq_true,
    d.onDeck_parts_iff i, or_assoc, or_assoc]
  refine or_congr ?_ (or_congr ?_ (or_congr ?_ Iff.rfl))
  · cases d.ch.plan <;> simp
  · cases d.ch.split <;> simp
  · cases d.ch.brk <;> simp

theorem revokedItem_eq (m : Item) :
    revokedItem m = if m.cart ≠ 0 ∧ m.result = .none then { m with result := .revoked, provisional := false } else m := by
  simp [revokedItem, Item.present]

section
variable {s : State} {a : Address} (reached : s.reached a) (tag : BitVec 16) {channel index : Byte}
  {n : Fin 4} {i : Fin 128} (hn : channel.toNat = n.val) (hi : index.toNat = i.val)
include reached hn hi

theorem exec_roRevoke_loader (owner : ((s.channels.get n).ring.get i).owner = .loader) :
    exec (.roRevoke a tag channel index) s = .next (s.answer tag 0x0005 .state) := by
  rw [exec_roRevoke reached, atRingPlace_inside hn hi, if_pos owner]

theorem exec_roRevoke_inUse (owner : ((s.channels.get n).ring.get i).owner = .channel)
    (inUse : (s.channels.get n).EntryInUse i) :
    exec (.roRevoke a tag channel index) s = .next (s.answer tag 0x0005 .held) := by
  rw [exec_roRevoke reached, atRingPlace_inside hn hi, if_neg (by simp [owner]),
    if_pos (((s.desk n).inUse_iff i).mpr inUse)]

theorem exec_roRevoke_waiting (owner : ((s.channels.get n).ring.get i).owner = .channel)
    (waiting : ¬ (s.channels.get n).EntryInUse i) :
    exec (.roRevoke a tag channel index) s =
      .next ((s.setRing n i (revokedEntry ((s.channels.get n).ring.get i))).answer tag 0x0005 .done) := by
  rw [exec_roRevoke reached, atRingPlace_inside hn hi, if_neg (by simp [owner]),
    if_neg (mt ((s.desk n).inUse_iff i).mp waiting)]

end

/-- Settles O35: RO_REVOKE by owner and use of the entry, RO_READ everywhere, RO_HEAD by the channel's state. -/
theorem ringRequests : Obligations.RingRequests := by
  unfold Obligations.RingRequests
  constructor
  · intro s a tag channel index reached
    refine ⟨fun outside => ?_, fun n i hn hi => ⟨exec_roRevoke_loader reached tag hn hi,
      exec_roRevoke_inUse reached tag hn hi, fun owner waiting => ?_⟩⟩
    · rw [exec_roRevoke reached, atRingPlace_outside _ _ _ _ outside]
    · rw [exec_roRevoke_waiting reached tag hn hi owner waiting, revokedEntry, revokedItem_eq, revokedItem_eq]
      rfl
  · intro s a tag channel index reached
    rw [exec_roRead reached, exec_roHead reached]
    refine ⟨fun outside => ?_, fun n i hn hi => ?_⟩
    · simp only [atRingPlace_outside _ _ _ _ outside, and_self]
    · rw [atRingPlace_inside hn hi, atRingPlace_inside hn hi]
      exact ⟨rfl, fun serving => by rw [if_neg serving], fun bypass => by rw [if_pos bypass]⟩

end Sys2Proof.Machine

/-! Proofs about the as-run log: one append (R119 to R121) and the requests LOG_READ, LOG_SEEK and LOG_RELEASE (R127 to R131). -/

namespace Sys2Proof.Machine

/-! ### One append (R119 to R121) -/

theorem Log.append_belowLimit (l : Log) (r : Record) (hlimit : l.write < 0xFFFFFFFF) :
    l.append r = (if l.write - l.release < 512 then l else l.overwriteOldest).store r :=
  if_pos hlimit

theorem Log.append_free {l : Log} (r : Record) (hlimit : l.write < 0xFFFFFFFF) (hfree : l.write - l.release < 512) :
    l.append r = l.store r := by
  rw [l.append_belowLimit r hlimit, if_pos hfree]

theorem Log.append_full {l : Log} (r : Record) (hlimit : l.write < 0xFFFFFFFF) (hfull : 512 ≤ l.write - l.release) :
    l.append r = l.overwriteOldest.store r := by
  rw [l.append_belowLimit r hlimit, if_neg (Nat.not_lt.mpr hfull)]

theorem Log.append_exhausted {l : Log} (r : Record) (hlimit : 0xFFFFFFFF ≤ l.write) :
    l.append r = { l with overrun := true, overruns := satInc l.overruns } :=
  if_neg (Nat.not_lt.mpr hlimit)

/-- Settles O16: below the limit the append is a store, on a full ring after the oldest record gave up its slot. -/
theorem oneAppend : Obligations.OneAppend := by
  unfold Obligations.OneAppend
  intro l r
  exact ⟨Log.append_free r, Log.append_full r, Log.append_exhausted r⟩

/-! ### Reading back (R129) -/

theorem Log.readBack_retained {l : Log} {q : BitVec 32} {r : Record} (hrelease : l.release ≤ q.toNat)
    (hwrite : q.toNat < l.write) (hslot : l.slots.get (Fin.ofNat 512 q.toNat) = some r) : l.readBack q = r := by
  have hslot : l.slots[q.toNat % 512] = some r := hslot
  rw [Log.readBack, if_pos ⟨hrelease, hwrite⟩, hslot, Option.getD_some]

theorem Log.readBack_notRetained {l : Log} {q : BitVec 32} (h : q.toNat < l.release ∨ l.write ≤ q.toNat) :
    l.readBack q = { sequence := q, kind := .none, position := 0 } :=
  if_neg (by omega)

/-! ### The log requests (R127, R128, R130, R131) -/

theorem readModeOf_unknown {mode : Byte} (h : 4 ≤ mode.toNat) : readModeOf mode = none := by
  have h0 : mode ≠ 0 := by rintro rfl; exact absurd h (by decide)
  have h1 : mode ≠ 1 := by rintro rfl; exact absurd h (by decide)
  have h2 : mode ≠ 2 := by rintro rfl; exact absurd h (by decide)
  have h3 : mode ≠ 3 := by rintro rfl; exact absurd h (by decide)
  simp only [readModeOf, if_neg h0, if_neg h1, if_neg h2, if_neg h3]

/-- R127, R128: the part after a LOG_READ of a known mode and a good count. -/
def State.logReadDone (s : State) (tag : BitVec 16) (m : ReadMode) (n : Nat) (offset : BitVec 32) : State :=
  let after := cursorAfter m s.log.cursor n
  ({ s with log := { s.log with cursor := after } } : State).answer tag 0x000F .done
    (.logRead after s.log.points ((readNumbers m s.log.cursor offset n).map s.log.readBack))

section
variable {s : State} {a : Address} (reached : s.reached a) (tag : BitVec 16)
include reached

theorem exec_logRead (mode count : Byte) (offset : BitVec 32) :
    exec (.logRead a tag mode count offset) s =
      .next ((readModeOf mode).elim (s.answer tag 0x000F .badField) fun m =>
        if inRange 1 4 count.toNat then s.logReadDone tag m count.toNat offset
        else s.answer tag 0x000F .badField) := by
  refine congrArg Host.Outcome.next ((s.atPart_reached a _ reached).trans ?_)
  cases readModeOf mode <;> rfl

theorem exec_logRead_badField {mode count : Byte} (offset : BitVec 32)
    (bad : 4 ≤ mode.toNat ∨ count.toNat < 1 ∨ 4 < count.toNat) :
    exec (.logRead a tag mode count offset) s = .next (s.answer tag 0x000F .badField) := by
  rw [exec_logRead reached]
  obtain hmode | hcount := bad
  · rw [readModeOf_unknown hmode, Option.elim_none]
  · have hcount : ¬ inRange 1 4 count.toNat = true := by rw [inRange_iff]; omega
    cases readModeOf mode with
    | none => rfl
    | some m => rw [Option.elim_some, if_neg hcount]

theorem exec_logRead_done {mode count : Byte} {m : ReadMode} (offset : BitVec 32) (hmode : readModeOf mode = some m)
    (hleast : 1 ≤ count.toNat) (hmost : count.toNat ≤ 4) :
    exec (.logRead a tag mode count offset) s = .next (s.logReadDone tag m count.toNat offset) := by
  rw [exec_logRead reached, hmode, Option.elim_some, if_pos (inRange_iff.mpr ⟨hleast, hmost⟩)]

theorem exec_logSeek (q : BitVec 32) :
    exec (.logSeek a tag q) s =
      .next (({ s with log := { s.log with cursor := q } } : State).answer tag 0x0010 .done (.logSeek q s.log.points)) :=
  congrArg Host.Outcome.next (s.atPart_reached a _ reached)

theorem exec_logRelease (q : BitVec 32) :
    exec (.logRelease a tag q) s =
      .next (if s.log.release ≤ q.toNat ∧ q.toNat ≤ s.log.send then
          ({ s with log := { s.log with release := q.toNat } } : State).answer tag 0x0011 .done
            (.logRelease { s.log.points with release := q.toNat })
        else s.answer tag 0x0011 .range) :=
  congrArg Host.Outcome.next (s.atPart_reached a _ reached)

end

/-- R128: the records read, one for each number below the count, are those of the mode. -/
theorem State.logReadDone_eq (s : State) (tag : BitVec 16) (m : ReadMode) (n : Nat) (offset : BitVec 32)
    {after : BitVec 32} {number : Nat → BitVec 32} (hafter : cursorAfter m s.log.cursor n = after)
    (hnumber : readNumbers m s.log.cursor offset n = (List.range n).map number) :
    s.logReadDone tag m n offset =
      ({ s with log := { s.log with cursor := after } } : State).answer tag 0x000F .done
        (.logRead after s.log.points ((List.range n).map fun i => s.log.readBack (number i))) := by
  rw [State.logReadDone, hafter, hnumber, List.map_map]
  rfl

/-- Settles O17: LOG_READ by mode and count, what is read back, and the two requests that set a point or the cursor. -/
theorem logRequests : Obligations.LogRequests := by
  unfold Obligations.LogRequests
  refine ⟨⟨fun s a tag mode count offset reached => ?_, fun _ _ _ => Log.readBack_retained,
    fun _ _ => Log.readBack_notRetained⟩, fun s a tag q reached => ?_⟩
  · refine ⟨exec_logRead_badField reached tag offset, fun hleast hmost => ⟨?_, ?_, ?_, ?_⟩⟩
    all_goals
      rintro rfl
      rw [exec_logRead_done reached tag offset rfl hleast hmost]
      exact congrArg Host.Outcome.next (s.logReadDone_eq tag _ _ offset rfl rfl)
  · refine ⟨exec_logSeek reached tag q, fun hrelease hsend => ?_, fun outside => ?_⟩
    · rw [exec_logRelease reached, if_pos ⟨hrelease, hsend⟩]
      rfl
    · rw [exec_logRelease reached, if_neg (by omega)]

end Sys2Proof.Machine

/-! Proofs about loading carts: the request CART_OPEN, its judgement (R157) and the open itself (R158). -/

namespace Sys2Proof.Machine

/-! ### The fields of CART_OPEN (R157, step 1) -/

theorem cartField_inside {x : BitVec 16} {c : Fin 1024} (present : x ≠ 0) (h : x.toNat = c.val) : cartField x = some c := by
  have hc : c ≠ 0 := by
    rintro rfl
    exact present (BitVec.eq_of_toNat_eq h)
  rw [cartField, field_eq_some c h, Option.filter_some, if_pos (decide_eq_true hc)]

theorem cartField_outside {x : BitVec 16} (h : x = 0 ∨ 1024 ≤ x.toNat) : cartField x = none := by
  obtain rfl | hx := h
  · rfl
  · rw [cartField, field_outside (Nat.not_lt.mpr hx), Option.filter_none]

/-- R157: the sizes that a CART_OPEN may carry beside its cart and bank. -/
abbrev OpenSizesGood (first count length segueOut : Nat) : Prop :=
  (1 ≤ count ∧ count ≤ 1024) ∧ first + count ≤ 1024 ∧ (1 ≤ length ∧ length ≤ (63 * count - 1) * 8) ∧ segueOut < length

/-- R157: a CART_OPEN that is refused BAD_FIELD. -/
def BadOpenFields (cart : BitVec 16) (bank : Byte) (first count length segueOut : Nat) : Prop :=
  (cart = 0 ∨ 1024 ≤ cart.toNat) ∨ 4 ≤ bank.toNat ∨ ¬ OpenSizesGood first count length segueOut

theorem not_openSizesGood_iff (first count length segueOut : Nat) :
    ¬ OpenSizesGood first count length segueOut ↔ count < 1 ∨ 1024 < count ∨ 1024 < first + count ∨ length < 1 ∨
      (63 * count - 1) * 8 < length ∨ length ≤ segueOut := by
  unfold OpenSizesGood
  omega

/-- What an accepted CART_OPEN carries for cart c in bank b. -/
def carriedOpen (c : Fin 1024) (b : Fin 4) (first count length segueOut : Nat) : OpenFields :=
  { cart := c, run := { bank := b, first := first, count := count }, size := { length := length, segueOut := segueOut } }

theorem openFields_placed {cart : BitVec 16} {bank : Byte} {c : Fin 1024} {b : Fin 4} (present : cart ≠ 0)
    (hc : cart.toNat = c.val) (hb : bank.toNat = b.val) (first count : BitVec 16) (length segueOut : BitVec 32) :
    openFields cart bank first count length segueOut =
      if OpenSizesGood first.toNat count.toNat length.toNat segueOut.toNat then
        some (carriedOpen c b first.toNat count.toNat length.toNat segueOut.toNat)
      else none := by
  rw [openFields, cartField_inside present hc, field_eq_some b hb]
  refine if_congr ?_ rfl rfl
  simp only [Bool.and_eq_true, decide_eq_true_eq, inRange_iff, and_assoc]
  rfl

theorem openFields_good {cart : BitVec 16} {bank : Byte} {first count : BitVec 16} {length segueOut : BitVec 32}
    {c : Fin 1024} {b : Fin 4}
    (good : ¬ BadOpenFields cart bank first.toNat count.toNat length.toNat segueOut.toNat)
    (hc : cart.toNat = c.val) (hb : bank.toNat = b.val) :
    openFields cart bank first count length segueOut =
      some (carriedOpen c b first.toNat count.toNat length.toNat segueOut.toNat) := by
  unfold BadOpenFields at good
  push Not at good
  obtain ⟨⟨present, -⟩, -, sizes⟩ := good
  rw [openFields_placed present hc hb, if_pos sizes]

theorem openFields_bad {cart : BitVec 16} {bank : Byte} {first count : BitVec 16} {length segueOut : BitVec 32}
    (bad : BadOpenFields cart bank first.toNat count.toNat length.toNat segueOut.toNat) :
    openFields cart bank first count length segueOut = none := by
  by_cases hcart : cart = 0 ∨ 1024 ≤ cart.toNat
  · rw [openFields, cartField_outside hcart]
  by_cases hbank : 4 ≤ bank.toNat
  · rw [openFields, field_outside (Nat.not_lt.mpr hbank)]
    cases cartField cart <;> rfl
  have sizes := (bad.resolve_left hcart).resolve_left hbank
  push Not at hcart hbank
  rw [openFields_placed (c := ⟨cart.toNat, hcart.2⟩) (b := ⟨bank.toNat, hbank⟩) hcart.1 rfl rfl, if_neg sizes]

/-! ### The judgement of a well-formed CART_OPEN (R157, steps 2 to 5) -/

/-- All units of a range are in a state where as many of them are as the range has. -/
theorem Store.unitsIn_length_eq_iff (t : Store) (first count : Nat) (x : UnitState) :
    (t.unitsIn first count x).length = count ↔ ∀ i, i < count → UnitMap.at t.map (first + i) = some x := by
  have all := List.length_filter_eq_length_iff (l := (List.range count).map (first + ·))
    (p := fun u => decide (UnitMap.at t.map u = some x))
  rw [List.length_map, List.length_range] at all
  rw [Store.unitsIn, all]
  simp

/-- A download of another cart than c is active. -/
theorem Store.otherDownload_iff (t : Store) (c : Fin 1024) :
    t.download.any (fun d => decide (d.cart ≠ c)) = true ↔ ∃ d, t.download = some d ∧ d.cart ≠ c := by
  cases t.download <;> simp

/-- R157 from its second step on, for good fields. -/
def State.judgeOpen (s : State) (tag : BitVec 16) (f : OpenFields) : State :=
  if s.store.scan.done then
    if s.store.download.any (fun d => decide (d.cart ≠ f.cart)) then s.answer tag 0x0016 .busy
    else if (s.store.catalog.get f.cart).state ≠ .empty then s.answer tag 0x0016 .state
    else if (s.store.unitsIn f.run.start f.run.count .erased).length = f.run.count then
      (s.setStore (s.store.openCart f)).answer tag 0x0016 .done
    else s.answer tag 0x0016 .notErased
  else s.answer tag 0x0016 .scanning

theorem exec_cartOpen {s : State} {a : Address} (reached : s.reached a) (tag cart : BitVec 16) (bank : Byte)
    (first count : BitVec 16) (length segueOut : BitVec 32) :
    exec (.cartOpen a tag cart bank first count length segueOut) s =
      .next ((openFields cart bank first count length segueOut).elim (s.answer tag 0x0016 .badField) (s.judgeOpen tag)) := by
  refine congrArg Host.Outcome.next ((s.atPart_reached a _ reached).trans ?_)
  cases openFields cart bank first count length segueOut <;> rfl

section
variable {s : State} (tag : BitVec 16) (f : OpenFields)

theorem State.judgeOpen_scanning (scanning : s.store.scan.done = false) :
    s.judgeOpen tag f = s.answer tag 0x0016 .scanning := by
  rw [State.judgeOpen, if_neg (by simp [scanning])]

section
variable (scanned : s.store.scan.done = true)
include scanned

theorem State.judgeOpen_busy {d : Download} (active : s.store.download = some d) (other : d.cart ≠ f.cart) :
    s.judgeOpen tag f = s.answer tag 0x0016 .busy := by
  rw [State.judgeOpen, if_pos scanned, if_pos ((s.store.otherDownload_iff f.cart).mpr ⟨d, active, other⟩)]

variable (own : ∀ d, s.store.download = some d → d.cart = f.cart)
include own

/-- With no download of another cart the catalog entry is judged, and then the units. -/
theorem State.judgeOpen_own :
    s.judgeOpen tag f =
      if (s.store.catalog.get f.cart).state ≠ .empty then s.answer tag 0x0016 .state
      else if (s.store.unitsIn f.run.start f.run.count .erased).length = f.run.count then
        (s.setStore (s.store.openCart f)).answer tag 0x0016 .done
      else s.answer tag 0x0016 .notErased := by
  have free : ¬ s.store.download.any (fun d => decide (d.cart ≠ f.cart)) = true := by
    rw [s.store.otherDownload_iff f.cart]
    exact fun ⟨d, active, other⟩ => other (own d active)
  rw [State.judgeOpen, if_pos scanned, if_neg free]

theorem State.judgeOpen_state (present : (s.store.catalog.get f.cart).state ≠ .empty) :
    s.judgeOpen tag f = s.answer tag 0x0016 .state := by
  rw [s.judgeOpen_own tag f scanned own, if_pos present]

variable (absent : (s.store.catalog.get f.cart).state = .empty)
include absent

theorem State.judgeOpen_notErased
    (unready : ¬ ∀ i, i < f.run.count → UnitMap.at s.store.map (f.run.start + i) = some .erased) :
    s.judgeOpen tag f = s.answer tag 0x0016 .notErased := by
  rw [s.judgeOpen_own tag f scanned own, if_neg (not_not_intro absent),
    if_neg (mt (s.store.unitsIn_length_eq_iff _ _ _).mp unready)]

theorem State.judgeOpen_done
    (erased : ∀ i, i < f.run.count → UnitMap.at s.store.map (f.run.start + i) = some .erased) :
    s.judgeOpen tag f = (s.setStore (s.store.openCart f)).answer tag 0x0016 .done := by
  rw [s.judgeOpen_own tag f scanned own, if_neg (not_not_intro absent),
    if_pos ((s.store.unitsIn_length_eq_iff _ _ _).mpr erased)]

end
end

/-! ### CART_OPEN as a request -/

section
variable {s : State} {a : Address} (reached : s.reached a) (tag : BitVec 16) {cart : BitVec 16} {bank : Byte}
  {first count : BitVec 16} {length segueOut : BitVec 32}
include reached

theorem exec_cartOpen_bad (bad : BadOpenFields cart bank first.toNat count.toNat length.toNat segueOut.toNat) :
    exec (.cartOpen a tag cart bank first count length segueOut) s = .next (s.answer tag 0x0016 .badField) := by
  rw [exec_cartOpen reached, openFields_bad bad, Option.elim_none]

variable (good : ¬ BadOpenFields cart bank first.toNat count.toNat length.toNat segueOut.toNat)
include good

theorem exec_cartOpen_good {c : Fin 1024} {b : Fin 4} (hc : cart.toNat = c.val) (hb : bank.toNat = b.val) :
    exec (.cartOpen a tag cart bank first count length segueOut) s =
      .next (s.judgeOpen tag (carriedOpen c b first.toNat count.toNat length.toNat segueOut.toNat)) := by
  rw [exec_cartOpen reached, openFields_good good hc hb, Option.elim_some]

theorem exec_cartOpen_scanning (scanning : s.store.scan.done = false) :
    exec (.cartOpen a tag cart bank first count length segueOut) s = .next (s.answer tag 0x0016 .scanning) := by
  have hcart : cart.toNat < 1024 := not_le.mp fun h => good (.inl (.inr h))
  have hbank : bank.toNat < 4 := not_le.mp fun h => good (.inr (.inl h))
  rw [exec_cartOpen_good reached tag good (c := ⟨_, hcart⟩) (b := ⟨_, hbank⟩) rfl rfl,
    State.judgeOpen_scanning tag _ scanning]

end

/-- Settles O52: the fields are judged first, then the scan, the download, the catalog entry and the units of the run. -/
theorem cartOpenRequest : Obligations.CartOpenRequest := by
  unfold Obligations.CartOpenRequest
  intro s a tag cart first count bank length segueOut reached
  extract_lets request bad start erased
  have bad_iff : bad ↔ BadOpenFields cart bank first.toNat count.toNat length.toNat segueOut.toNat := by
    rw [BadOpenFields, not_openSizesGood_iff, or_assoc]
  rw [bad_iff]
  refine ⟨exec_cartOpen_bad reached tag, exec_cartOpen_scanning reached tag, fun good scanned c b hc hb => ?_⟩
  have judged : exec request s = _ := exec_cartOpen_good reached tag good hc hb
  have start_eq : start = unitNumber b first.toNat := congrArg (· * 1024 + first.toNat) hb
  have erased_iff : erased ↔ ∀ i, i < count.toNat → UnitMap.at s.store.map (unitNumber b first.toNat + i) = some .erased := by
    rw [← start_eq]
  rw [judged]
  refine ⟨fun d active other => ?_, fun own => ⟨fun present => ?_, fun absent unready => ?_, fun absent ready => ?_⟩⟩
  · rw [State.judgeOpen_busy tag _ scanned active other]
  · rw [State.judgeOpen_state tag _ scanned own present]
  · rw [State.judgeOpen_notErased tag _ scanned own absent (mt erased_iff.mpr unready)]
  · rw [State.judgeOpen_done tag _ scanned own absent (erased_iff.mp ready)]
    refine ⟨UnitMap.markRun s.store.map start .claimed count.toNat, Staging.empty, Staging.empty, rfl, rfl, rfl, rfl,
      fun u hu => UnitMap.at_markRun _ _ _ _ _ hu, ?_⟩
    rw [start_eq]
    rfl

end Sys2Proof.Machine

/-! Proofs about Link Intake: the resolution of addresses (R190, R194) and the filter requests (R191, R192). -/

namespace Sys2Proof.Machine

/-! ### Resolution of an address (R190) -/

/-- R190: a target combined with the target of a matching entry. -/
def Target.join (x : Target) (e : FilterEntry) : Target :=
  { part := x.part || e.part, outputs := x.outputs ||| e.outputs }

theorem Target.join_part_iff (x : Target) (e : FilterEntry) : (x.join e).part = true ↔ x.part = true ∨ e.part = true := by
  simp [join]

theorem Target.join_hasOutput_iff (x : Target) (e : FilterEntry) (n : Fin 4) :
    (x.join e).hasOutput n = true ↔ x.hasOutput n = true ∨ e.outputs.getLsbD n.val = true := by
  simp [join, hasOutput]

/-- R190: one place of the filter table looked at for address a. -/
def Target.look (a : Address) (x : Target) : Option FilterEntry → Target
  | some e => if e.address = a then x.join e else x
  | none => x

theorem Intake.resolve_table (t : Intake) {a : Address} (h : a ≠ Config.broadcast) :
    t.resolve a = t.filter.toList.foldl (Target.look a) { part := false, outputs := 0 } :=
  if_neg h

/-- Where a join has a thing exactly when the target has it or the entry brings it, the places of a list leave the thing in
the target exactly when it was there or a matching entry of the list brings it. -/
theorem Target.foldl_look_iff (a : Address) (has : Target → Prop) (brings : FilterEntry → Prop)
    (join_iff : ∀ x e, has (Target.join x e) ↔ has x ∨ brings e) (l : List (Option FilterEntry)) (x : Target) :
    has (l.foldl (Target.look a) x) ↔ has x ∨ ∃ e, some e ∈ l ∧ e.address = a ∧ brings e := by
  induction l generalizing x with
  | nil => simp
  | cons place rest ih =>
    rw [List.foldl_cons, ih]
    cases place with
    | none => simp [look]
    | some e =>
      by_cases h : e.address = a
      · simp [look, h, join_iff, or_assoc, or_and_right, exists_or]
      · simp [look, h, or_and_right, exists_or]

theorem mem_toList_iff_get {α : Type} {n : Nat} (v : Vector α n) (x : α) : x ∈ v.toList ↔ ∃ i, v.get i = x := by
  rw [Vector.mem_toList_iff, Vector.mem_iff_getElem]
  exact ⟨fun ⟨i, hi, h⟩ => ⟨⟨i, hi⟩, h⟩, fun ⟨i, h⟩ => ⟨i.val, i.isLt, h⟩⟩

/-- R190: an address other than the broadcast address resolves to what the matching entries bring. -/
theorem Intake.resolve_iff (t : Intake) {a : Address} (h : a ≠ Config.broadcast) (has : Target → Prop)
    (brings : FilterEntry → Prop) (join_iff : ∀ x e, has (Target.join x e) ↔ has x ∨ brings e)
    (nothing : ¬ has { part := false, outputs := 0 }) :
    has (t.resolve a) ↔ ∃ i e, t.filter.get i = some e ∧ e.address = a ∧ brings e := by
  rw [t.resolve_table h, Target.foldl_look_iff a has brings join_iff, or_iff_right nothing]
  simp only [mem_toList_iff_get]
  exact ⟨fun ⟨e, ⟨i, hi⟩, he⟩ => ⟨i, e, hi, he⟩, fun ⟨i, e, hi, he⟩ => ⟨e, ⟨i, hi⟩, he⟩⟩

theorem Intake.resolve_part_iff (t : Intake) {a : Address} (h : a ≠ Config.broadcast) :
    (t.resolve a).part = true ↔ ∃ i e, t.filter.get i = some e ∧ e.address = a ∧ e.part = true :=
  t.resolve_iff h (·.part = true) (·.part = true) Target.join_part_iff Bool.false_ne_true

theorem Intake.resolve_hasOutput_iff (t : Intake) {a : Address} (h : a ≠ Config.broadcast) (n : Fin 4) :
    (t.resolve a).hasOutput n = true ↔
      ∃ i e, t.filter.get i = some e ∧ e.address = a ∧ e.outputs.getLsbD n.val = true :=
  t.resolve_iff h (·.hasOutput n = true) (·.outputs.getLsbD n.val = true) (fun x e => x.join_hasOutput_iff e n)
    (by simp [Target.hasOutput])

/-! ### Frames that lack what their kind needs (R194) -/

/-- Every request and segment acts through its address on the part. -/
theorem exec_of_partAddress {c : Instr} {a : Address} (h : partAddress c = some a) (s : State) :
    ∃ act, exec c s = .next (s.atPart a act) := by
  unfold partAddress at h
  split at h
  case h_31 => cases h
  all_goals
    obtain rfl := Option.some.inj h
    exact ⟨_, rfl⟩

theorem exec_part_missed {c : Instr} {a : Address} {s : State} (h : partAddress c = some a) (missed : ¬ s.reached a) :
    exec c s = .next s := by
  obtain ⟨act, acts⟩ := exec_of_partAddress h s
  rw [acts, s.atPart_missed a act (Bool.eq_false_iff.mpr missed)]

theorem Target.hasOutput_of_empty {x : Target} (h : x.outputs = 0) (n : Fin 4) : x.hasOutput n = false := by
  simp [hasOutput, h]

theorem State.onOutputs_missed (s : State) {address : Address} (rule : Env → Desk → Desk)
    (h : (s.intake.resolve address).outputs = 0) : s.onOutputs address rule = s := by
  unfold State.onOutputs
  simp only [Target.hasOutput_of_empty h, Bool.false_eq_true, if_false, List.foldl_fixed]

theorem exec_cue_missed {c : Instr} {a : Address} {s : State} (h : cueAddress c = some a)
    (missed : (s.intake.resolve a).outputs = 0) : exec c s = .next s := by
  unfold cueAddress at h
  split at h
  case h_1 address breakNo start length =>
    obtain rfl := Option.some.inj h
    change execSplitAnnounce address breakNo start length s = .next s
    rw [execSplitAnnounce, s.onOutputs_missed _ missed, if_pos missed, ite_self]
  case h_5 => cases h
  all_goals
    obtain rfl := Option.some.inj h
    exact congrArg Host.Outcome.next (s.onOutputs_missed _ missed)

/-- Settles O9: the broadcast address, the combination of matching entries, and the frames discarded for their target. -/
theorem addressResolution : Obligations.AddressResolution := by
  unfold Obligations.AddressResolution
  exact ⟨Intake.resolve_broadcast, fun t _ other => ⟨t.resolve_part_iff other, t.resolve_hasOutput_iff other⟩,
    fun _ _ _ => exec_part_missed, fun _ _ _ => exec_cue_missed⟩

/-! ### The fields of FILTER_SET (R191, step 1) -/

theorem switch_coded {b : Byte} (h : b.toNat < 2) : switch b = some (decide (b = 1)) := by
  obtain rfl | rfl : b = 0 ∨ b = 1 := by bv_omega
  · rfl
  · rfl

theorem switch_uncoded {b : Byte} (h : 2 ≤ b.toNat) : switch b = none := by
  have h0 : b ≠ 0 := by rintro rfl; exact absurd h (by decide)
  have h1 : b ≠ 1 := by rintro rfl; exact absurd h (by decide)
  rw [switch, if_neg h0, if_neg h1]

/-- R191: the address and target of a FILTER_SET that no entry may hold. -/
def BadFilterTarget (x : Address) (part outputs : Byte) : Prop :=
  x = Config.broadcast ∨ 2 ≤ part.toNat ∨ (part = 0 ∧ outputs.setWidth 4 = (0 : BitVec 4))

/-- R191: the entry of the address and target carried. -/
def carriedFilter (x : Address) (part outputs : Byte) : FilterEntry :=
  { address := x, part := decide (part = 1), outputs := outputs.setWidth 4 }

theorem filterEntryOf_bad {x : Address} {part outputs : Byte} (bad : BadFilterTarget x part outputs) :
    filterEntryOf part outputs x = none := by
  by_cases coded : part.toNat < 2
  · have refused : x = Config.broadcast ∨ (decide (part = 1) = false ∧ outputs.setWidth 4 = (0 : BitVec 4)) := by
      obtain hx | hpart | ⟨rfl, hempty⟩ := bad
      · exact .inl hx
      · omega
      · exact .inr ⟨rfl, hempty⟩
    rw [filterEntryOf, switch_coded coded]
    exact if_pos refused
  · rw [filterEntryOf, switch_uncoded (Nat.not_lt.mp coded)]

theorem filterEntryOf_good {x : Address} {part outputs : Byte} (good : ¬ BadFilterTarget x part outputs) :
    filterEntryOf part outputs x = some (carriedFilter x part outputs) := by
  unfold BadFilterTarget at good
  push Not at good
  obtain ⟨hx, coded, hempty⟩ := good
  have accepted : ¬ (x = Config.broadcast ∨ (decide (part = 1) = false ∧ outputs.setWidth 4 = (0 : BitVec 4))) := by
    rintro (h | ⟨h, empty⟩)
    · exact hx h
    · have : part ≠ 1 := of_decide_eq_false h
      exact hempty (by bv_omega) empty
  rw [filterEntryOf, switch_coded coded]
  exact if_neg accepted

/-! ### FILTER_SET and FILTER_CLEAR as requests (R191, R192) -/

section
variable {s : State} {a : Address} (reached : s.reached a) (tag : BitVec 16)
include reached

theorem exec_filterSet (entry part outputs : Byte) (x : Address) :
    exec (.filterSet a tag entry part outputs x) s =
      .next ((field 16 entry.toNat).elim (s.answer tag 0x0018 .badField) fun i =>
        (filterEntryOf part outputs x).elim (s.answer tag 0x0018 .badField) fun e =>
          if i = 0 then s.answer tag 0x0018 .state
          else (s.setFilter i (some e)).answer tag 0x0018 .done (.filter i e)) := by
  refine congrArg Host.Outcome.next ((s.atPart_reached a _ reached).trans ?_)
  cases field 16 entry.toNat <;> cases filterEntryOf part outputs x <;> rfl

theorem exec_filterSet_bad {entry part outputs : Byte} {x : Address}
    (bad : 16 ≤ entry.toNat ∨ BadFilterTarget x part outputs) :
    exec (.filterSet a tag entry part outputs x) s = .next (s.answer tag 0x0018 .badField) := by
  rw [exec_filterSet reached]
  obtain hentry | htarget := bad
  · rw [field_outside (Nat.not_lt.mpr hentry), Option.elim_none]
  · rw [filterEntryOf_bad htarget]
    cases field 16 entry.toNat <;> rfl

theorem exec_filterSet_good {entry part outputs : Byte} {x : Address} (good : ¬ BadFilterTarget x part outputs) {i : Fin 16}
    (hi : entry.toNat = i.val) :
    exec (.filterSet a tag entry part outputs x) s =
      .next (if i = 0 then s.answer tag 0x0018 .state
        else (s.setFilter i (some (carriedFilter x part outputs))).answer tag 0x0018 .done
          (.filter i (carriedFilter x part outputs))) := by
  rw [exec_filterSet reached, field_eq_some i hi, filterEntryOf_good good, Option.elim_some, Option.elim_some]

theorem exec_filterClear (entry : Byte) :
    exec (.filterClear a tag entry) s =
      .next ((field 16 entry.toNat).elim (s.answer tag 0x0019 .badField) fun i =>
        if i = 0 then s.answer tag 0x0019 .state else (s.setFilter i none).answer tag 0x0019 .done) := by
  refine congrArg Host.Outcome.next ((s.atPart_reached a _ reached).trans ?_)
  cases field 16 entry.toNat <;> rfl

theorem exec_filterClear_outside {entry : Byte} (h : 16 ≤ entry.toNat) :
    exec (.filterClear a tag entry) s = .next (s.answer tag 0x0019 .badField) := by
  rw [exec_filterClear reached, field_outside (Nat.not_lt.mpr h), Option.elim_none]

theorem exec_filterClear_inside {entry : Byte} {i : Fin 16} (hi : entry.toNat = i.val) :
    exec (.filterClear a tag entry) s =
      .next (if i = 0 then s.answer tag 0x0019 .state else (s.setFilter i none).answer tag 0x0019 .done) := by
  rw [exec_filterClear reached, field_eq_some i hi, Option.elim_some]

end

/-- Settles O11: both requests by entry number, FILTER_SET after its fields, with entry 0 refused. -/
theorem filterRequests : Obligations.FilterRequests := by
  unfold Obligations.FilterRequests
  intro s a x tag entry part outputs reached
  refine ⟨exec_filterSet_bad reached tag, ?_, fun good i hi other => ?_,
    exec_filterClear_outside reached tag, ?_, fun i hi other => ?_⟩
  · rintro good rfl
    rw [exec_filterSet_good (entry := 0) (i := 0) reached tag (mt .inr good) rfl, if_pos rfl]
  · rw [exec_filterSet_good reached tag (mt .inr good) hi, if_neg other]
    rfl
  · rintro rfl
    rw [exec_filterClear_inside (entry := 0) (i := 0) reached tag rfl, if_pos rfl]
  · rw [exec_filterClear_inside reached tag hi, if_neg other]
    rfl

end Sys2Proof.Machine

/-! What a rule on a desk keeps: the shape of the channel's contexts and the lawful hold counts. -/

namespace Sys2Proof.Machine

/-! ### The relations -/

/-- The hold counts beside a catalog: at most 255, and none on a cart that is not READY (R140, R141). -/
def HoldsLawful (catalog : Vector CatalogEntry 1024) (holds : Vector Nat 1024) : Prop :=
  ∀ c, holds.get c ≤ 255 ∧ (holds.get c ≠ 0 → (catalog.get c).state = .ready)

/-- A split in phase FILL whose first choice is still to be made (R86). -/
def Channel.choosing (c : Channel) : Bool := c.split.any (fun x => decide (x.phase = .fill) && x.wantFill)

/-- A rule that leaves the channel in its state with the same contexts in hand, and the hold counts lawful. -/
structure Quiet (e : Env) (d d' : Desk) : Prop where
  state : d'.ch.state = d.ch.state
  plan : d'.ch.plan.isSome = d.ch.plan.isSome
  held : d'.ch.held.isSome = d.ch.held.isSome
  pending : d'.ch.pending.isSome = d.ch.pending.isSome
  split : d'.ch.split.isSome = d.ch.split.isSome
  brk : d'.ch.brk.isSome = d.ch.brk.isSome
  window : d'.ch.window.isSome = d.ch.window.isSome
  choosing : d'.ch.choosing = true → d.ch.choosing = true
  holds : HoldsLawful e.catalog d.holds → HoldsLawful e.catalog d'.holds

/-- A quiet rule that also leaves the fill wait as it is. -/
structure Still (e : Env) (d d' : Desk) : Prop extends Quiet e d d' where
  wait : d'.ch.fill.wait = d.ch.fill.wait

theorem Quiet.refl (e : Env) (d : Desk) : Quiet e d d := ⟨rfl, rfl, rfl, rfl, rfl, rfl, rfl, id, id⟩

theorem Quiet.trans {e : Env} {a b c : Desk} (h : Quiet e a b) (k : Quiet e b c) : Quiet e a c :=
  ⟨k.state.trans h.state, k.plan.trans h.plan, k.held.trans h.held, k.pending.trans h.pending, k.split.trans h.split,
    k.brk.trans h.brk, k.window.trans h.window, h.choosing ∘ k.choosing, k.holds ∘ h.holds⟩

section None

variable {e : Env} {d d' : Desk} (q : Quiet e d d')
include q

theorem Quiet.plan_none (h : d.ch.plan = none) : d'.ch.plan = none := by
  rw [← Option.not_isSome_iff_eq_none, q.plan]; simp [h]

theorem Quiet.held_none (h : d.ch.held = none) : d'.ch.held = none := by
  rw [← Option.not_isSome_iff_eq_none, q.held]; simp [h]

theorem Quiet.pending_none (h : d.ch.pending = none) : d'.ch.pending = none := by
  rw [← Option.not_isSome_iff_eq_none, q.pending]; simp [h]

theorem Quiet.split_none (h : d.ch.split = none) : d'.ch.split = none := by
  rw [← Option.not_isSome_iff_eq_none, q.split]; simp [h]

theorem Quiet.brk_none (h : d.ch.brk = none) : d'.ch.brk = none := by
  rw [← Option.not_isSome_iff_eq_none, q.brk]; simp [h]

theorem Quiet.window_none (h : d.ch.window = none) : d'.ch.window = none := by
  rw [← Option.not_isSome_iff_eq_none, q.window]; simp [h]

end None

theorem Still.refl (e : Env) (d : Desk) : Still e d d := ⟨Quiet.refl e d, rfl⟩

theorem Still.trans {e : Env} {a b c : Desk} (h : Still e a b) (k : Still e b c) : Still e a c :=
  ⟨h.toQuiet.trans k.toQuiet, k.wait.trans h.wait⟩

theorem Still.foldl {e : Env} {α : Type} {f : Desk → α → Desk} (step : ∀ d x, Still e d (f d x)) (l : List α) (d : Desk) :
    Still e d (l.foldl f d) := by
  induction l generalizing d with
  | nil => exact Still.refl e d
  | cons x l ih => exact (step d x).trans (ih (f d x))

theorem Quiet.foldl {e : Env} {α : Type} {f : Desk → α → Desk} (step : ∀ d x, Quiet e d (f d x)) (l : List α) (d : Desk) :
    Quiet e d (l.foldl f d) := by
  induction l generalizing d with
  | nil => exact Quiet.refl e d
  | cons x l ih => exact (step d x).trans (ih (f d x))

theorem Quiet.ite {e : Env} {d a b : Desk} {p : Prop} [Decidable p] (yes : p → Quiet e d a) (no : ¬ p → Quiet e d b) :
    Quiet e d (if p then a else b) := by
  split
  · next h => exact yes h
  · next h => exact no h

theorem Still.ite {e : Env} {d a b : Desk} {p : Prop} [Decidable p] (yes : p → Still e d a) (no : ¬ p → Still e d b) :
    Still e d (if p then a else b) := by
  split
  · next h => exact yes h
  · next h => exact no h

/-! ### Hold counts (R141, R51) -/

theorem HoldsLawful.release {catalog : Vector CatalogEntry 1024} {holds : Vector Nat 1024} (h : HoldsLawful catalog holds)
    (cart : Fin 1024) : HoldsLawful catalog (put holds cart (holds.get cart - 1)) := by
  intro c
  rw [get_put]
  split
  · next same =>
    subst same
    obtain ⟨bound, ready⟩ := h cart
    exact ⟨by omega, fun left => ready (by omega)⟩
  · exact h c

theorem HoldsLawful.take {catalog : Vector CatalogEntry 1024} {holds : Vector Nat 1024} (h : HoldsLawful catalog holds)
    {cart : Fin 1024} (granted : grantable catalog holds cart = true) :
    HoldsLawful catalog (put holds cart (holds.get cart + 1)) := by
  simp only [grantable, Bool.and_eq_true, decide_eq_true_eq] at granted
  obtain ⟨ready, room⟩ := granted
  intro c
  rw [get_put]
  split
  · next same =>
    subst same
    exact ⟨by omega, fun _ => ready⟩
  · exact h c

namespace Desk

variable (e : Env) (d : Desk)

/-! ### Leaves -/

theorem setDeck_still (k : DeckId) (x : Deck) : Still e d (d.setDeck k x) := by
  cases k <;> exact ⟨⟨rfl, rfl, rfl, rfl, rfl, rfl, rfl, id, id⟩, rfl⟩

theorem setEntry_still (i : Fin 128) (x : Entry) : Still e d (d.setEntry i x) :=
  ⟨⟨rfl, rfl, rfl, rfl, rfl, rfl, rfl, id, id⟩, rfl⟩

theorem setItem_still (r : ItemRef) (x : Item) : Still e d (d.setItem r x) := setEntry_still e d _ _

theorem record_still (r : Record) : Still e d (d.record e r) := ⟨⟨rfl, rfl, rfl, rfl, rfl, rfl, rfl, id, id⟩, rfl⟩

theorem releaseHold_still (cart : Fin 1024) : Still e d (d.releaseHold cart) :=
  ⟨⟨rfl, rfl, rfl, rfl, rfl, rfl, rfl, id, fun h => h.release cart⟩, rfl⟩

theorem takeHold_still {cart : Fin 1024} (granted : grantable e.catalog d.holds cart = true) :
    Still e d (d.takeHold cart) :=
  ⟨⟨rfl, rfl, rfl, rfl, rfl, rfl, rfl, id, fun h => h.take granted⟩, rfl⟩

theorem setHead_still (i : Fin 128) : Still e d { d with ch := { d.ch with head := i } } :=
  ⟨⟨rfl, rfl, rfl, rfl, rfl, rfl, rfl, id, id⟩, rfl⟩

theorem setLastRing_still (r : Option ItemRef) : Still e d { d with ch := { d.ch with lastRing := r } } :=
  ⟨⟨rfl, rfl, rfl, rfl, rfl, rfl, rfl, id, id⟩, rfl⟩

theorem setTimer_still (t : Option Timer) : Still e d { d with ch := { d.ch with timer := t } } :=
  ⟨⟨rfl, rfl, rfl, rfl, rfl, rfl, rfl, id, id⟩, rfl⟩

theorem noFillWait_quiet : Quiet e d d.noFillWait := ⟨rfl, rfl, rfl, rfl, rfl, rfl, rfl, id, id⟩

theorem fillUnwanted_quiet : Quiet e d d.fillUnwanted := Quiet.ite (fun _ => noFillWait_quiet e d) (fun _ => Quiet.refl e d)

/-- The split context replaced by one that owes no first choice. -/
theorem setSplit_still {x y : Split} (had : d.ch.split = some x) (calm : y.phase ≠ .fill ∨ y.wantFill = false) :
    Still e d (d.setSplit y) := by
  refine ⟨⟨rfl, rfl, rfl, rfl, by simp [setSplit, had], rfl, rfl, ?_, id⟩, rfl⟩
  rcases calm with phase | want
  · simp [setSplit, Channel.choosing, phase]
  · simp [setSplit, Channel.choosing, want]

theorem setPlan_still {p q : Plan} (had : d.ch.plan = some p) : Still e d (d.setPlan q) :=
  ⟨⟨rfl, by simp [setPlan, had], rfl, rfl, rfl, rfl, rfl, id, id⟩, rfl⟩

theorem setBreak_still {b c : BreakCtx} (had : d.ch.brk = some b) : Still e d (d.setBreak c) :=
  ⟨⟨rfl, rfl, rfl, rfl, rfl, by simp [setBreak, had], rfl, id, id⟩, rfl⟩

/-- The break context changed where there is one. -/
theorem mapBreak_still (f : BreakCtx → BreakCtx) : Still e d { d with ch := { d.ch with brk := d.ch.brk.map f } } :=
  ⟨⟨rfl, rfl, rfl, rfl, rfl, by simp, rfl, id, id⟩, rfl⟩

/-- The split context changed where there is one, in neither its phase nor the choice it owes. -/
theorem mapSplit_still (f : Split → Split) (phase : ∀ x, (f x).phase = x.phase) (want : ∀ x, (f x).wantFill = x.wantFill) :
    Still e d { d with ch := { d.ch with split := d.ch.split.map f } } := by
  refine ⟨⟨rfl, rfl, rfl, rfl, by simp, rfl, rfl, ?_, id⟩, rfl⟩
  simp only [Channel.choosing, Option.any_map]
  simp [phase, want]

theorem mapHeld_still (f : HeldWindow → HeldWindow) : Still e d { d with ch := { d.ch with held := d.ch.held.map f } } :=
  ⟨⟨rfl, rfl, by simp, rfl, rfl, rfl, rfl, id, id⟩, rfl⟩

theorem noFillCalled_still : Still e d d.noFillCalled :=
  ⟨⟨rfl, by simp [noFillCalled], by simp [noFillCalled], rfl, rfl, rfl, rfl, id, id⟩, rfl⟩

theorem setStage_still (x : WindowStage) : Still e d (d.setStage x) := mapHeld_still e d _

/-! ### Holds and write-back -/

theorem claim_still (r : ItemRef) : Still e d (d.claim e r) := by
  rcases d.claim_cases e r with ⟨granted, eq⟩ | ⟨_, eq⟩
  · rw [eq]
    exact (takeHold_still e d granted).trans (setItem_still e _ r _)
  · rw [eq]
    exact Still.refl e d

theorem unhold_still (r : ItemRef) : Still e d (d.unhold r) :=
  Still.ite (fun _ => (releaseHold_still e d _).trans (setItem_still e _ r _)) (fun _ => Still.refl e d)

theorem returnEntry_still (i : Fin 128) : Still e d (d.returnEntry i) :=
  (setEntry_still e d i _).trans ((mapBreak_still e _ (BreakCtx.without i)).trans (setLastRing_still e _ _))

theorem settle_still (r : ItemRef) (result : Result) (rec? : Option (BreakNo × FrameNo × Nat)) :
    Still e d (d.settle e r result rec?) := by
  unfold settle
  extract_lets _ written released recorded _ passed
  have still_released : Still e d released := (setItem_still e d r _).trans (unhold_still e written r)
  have still_recorded : Still e released recorded := by
    cases rec? with
    | none => exact Still.refl e released
    | some triple => exact record_still e released _
  have still_passed : Still e recorded passed := mapSplit_still e recorded (Split.without r) (fun _ => rfl) (fun _ => rfl)
  refine (still_released.trans (still_recorded.trans still_passed)).trans ?_
  split
  · exact returnEntry_still e passed _
  · exact Still.refl e passed

theorem finishUnsounded_still (result : Result) (r : ItemRef) : Still e d (d.finishUnsounded e result r) :=
  settle_still e d r result _

theorem finishFill_still (k : Deck) (slot : Fin 16) (result : Result) : Still e d (d.finishFill e k slot result) :=
  (releaseHold_still e d k.cart).trans (record_still e _ _)

theorem finishOnDeck_still (k : Deck) (result : Result) (r : ItemRef) : Still e d (d.finishOnDeck e k result r) := by
  unfold finishOnDeck
  exact settle_still e d r result _

theorem endDeck_still (id : DeckId) (result : Result) : Still e d (d.endDeck e id result) := by
  unfold endDeck
  extract_lets k ended
  refine Still.trans (b := ended) ?_ (setDeck_still e ended id _)
  unfold ended
  split
  · exact finishOnDeck_still e d _ result _
  · exact finishFill_still e d _ _ result
  · exact Still.refl e d

theorem endSounding_still : Still e d (d.endSounding e) := by
  refine Still.foldl (fun d id => ?_) _ d
  split
  · exact endDeck_still e d id _
  · exact Still.refl e d

theorem cutFill_still : Still e d (d.cutFill e) := by
  refine Still.foldl (fun d id => ?_) _ d
  split
  · exact endDeck_still e d id _
  · exact Still.refl e d

theorem setCursor_still (slot : Fin 16) :
    Still e d { d with ch := { d.ch with fill := { d.ch.fill with cursor := slot } } } :=
  ⟨⟨rfl, rfl, rfl, rfl, rfl, rfl, rfl, id, id⟩, rfl⟩

theorem giveUp_still (id : DeckId) : Still e d (d.giveUp id) := by
  unfold giveUp
  extract_lets k freed _ _
  split
  · exact Still.refl e d
  · next slot _ =>
    have still_freed : Still e d freed := (releaseHold_still e d _).trans (setDeck_still e _ id _)
    split
    · exact still_freed
    · refine still_freed.trans ((setCursor_still e freed slot).trans ?_)
      split
      · exact mapSplit_still e _ (Split.passAt slot) (fun _ => rfl) (fun _ => rfl)
      · exact Still.refl e _

theorem giveUpCandidate_still : Still e d d.giveUpCandidate := by
  unfold giveUpCandidate
  split
  · exact giveUp_still e d _
  · exact Still.refl e d

theorem takeDeck_still {id : DeckId} {t : Desk} (h : d.takeDeck = some (id, t)) : Still e d t := by
  unfold takeDeck at h
  split at h
  · cases h; exact Still.refl e d
  · split at h
    · split at h
      · cases h; exact giveUp_still e d _
      · cases h
    · cases h

theorem load_still (k : DeckId) (item : DeckItem) (cart : Fin 1024) (mode : StartMode) :
    Still e d (d.load e k item cart mode) :=
  (setDeck_still e d k _).trans ⟨⟨rfl, rfl, rfl, rfl, rfl, rfl, rfl, id, id⟩, rfl⟩

theorem mediaFault_still (id : DeckId) : Still e d (d.mediaFault e id) := by
  unfold mediaFault
  dsimp only
  split
  · exact Still.ite (fun _ => (setItem_still e d _ _).trans (setDeck_still e _ id _)) (fun _ => endDeck_still e d id _)
  · exact endDeck_still e d id _

theorem setRamp_still (id : DeckId) (r : Ramp) : Still e d (d.setRamp id r) := setDeck_still e d id _

theorem closeDeck_still (g : Nat) (id : DeckId) : Still e d (d.closeDeck g id) :=
  Still.ite (fun _ => setDeck_still e d id _) (fun _ => Still.refl e d)

theorem closeAll_still (g : Nat) : Still e d (d.closeAll g) :=
  (closeDeck_still e d g .a).trans (closeDeck_still e _ g .b)

/-! ### Rings -/

theorem gather_still {number : BreakNo} {entries : List (Fin 128)} {t : Desk} (h : d.gather e = some (number, entries, t)) :
    Still e d t := by
  unfold gather at h
  split at h
  · simp only [Option.some.injEq, Prod.mk.injEq] at h
    obtain ⟨_, _, rfl⟩ := h
    split
    · exact (setHead_still e d _).trans (record_still e _ _)
    · exact setHead_still e d _
  · cases h

theorem takeSingly_still {i : Fin 128} {t : Desk} (h : d.takeSingly = some (i, t)) : Still e d t := by
  unfold takeSingly at h
  split at h
  · cases h; exact setHead_still e d _
  · cases h

end Desk

end Sys2Proof.Machine

/-! The loader's, break's, window's and composer's rules are quiet: they leave the channel in its state with the same contexts. -/

namespace Sys2Proof.Machine

namespace Desk

variable (e : Env) (d : Desk)

/-! ### Fill (R101 to R105) -/

theorem markChosen_quiet (s : Fin 16) : Quiet e d (d.markChosen s) := by
  refine ⟨rfl, rfl, rfl, rfl, ?_, rfl, rfl, ?_, id⟩
  · simp only [markChosen]
    split
    · exact Option.isSome_map
    · rfl
  · simp only [markChosen, Channel.choosing]
    split
    · rw [Option.any_map]
      exact id
    · exact id

/-- A slot that the scan finds is one whose hold claim is granted (R101). -/
theorem grantable_of_slotGranted {s : Fin 16} (h : d.slotGranted e s = true) :
    grantable e.catalog d.holds (d.ch.fill.slots.get s) = true := by
  simp only [slotGranted, Bool.and_eq_true] at h
  exact h.2

theorem setWait_quiet (w : Bool) : Quiet e d { d with ch := { d.ch with fill := { d.ch.fill with wait := w } } } :=
  ⟨rfl, rfl, rfl, rfl, rfl, rfl, rfl, id, id⟩

theorem chooseFill_quiet (mode : StartMode) : Quiet e d (d.chooseFill e mode) := by
  unfold chooseFill
  split
  · split
    · next s found =>
      have granted := d.grantable_of_slotGranted e (List.find?_some found)
      exact (takeHold_still e d granted).toQuiet.trans ((markChosen_quiet e _ s).trans (load_still e _ _ _ _ mode).toQuiet)
    · exact setWait_quiet e d true
  · exact Quiet.refl e d

theorem chooseCalled_quiet : Quiet e d (d.chooseCalled e) := by
  rcases d.chooseCalled_cases e with eq | eq | eq <;> rw [eq]
  · exact Quiet.refl e d
  · exact chooseFill_quiet e d .named
  · exact (chooseFill_quiet e d .named).trans (noFillCalled_still e _).toQuiet

/-! ### Loading (R53, R59, R64, R67, R84) -/

theorem loadPlanned_still (items : List PlanItem) : Still e d (d.loadPlanned e items) := by
  unfold loadPlanned
  split
  · split
    · next taken => exact (takeDeck_still e d taken).trans (load_still e _ _ _ _ _)
    · exact Still.refl e d
  · exact Still.refl e d

theorem loadPlannedAll_still (items : List PlanItem) : Still e d (d.loadPlannedAll e items) :=
  (loadPlanned_still e d items).trans (loadPlanned_still e _ items)

theorem servicePlan_quiet (p : Plan) : Quiet e d (d.servicePlan e p) := by
  unfold servicePlan
  split
  · split
    · exact chooseCalled_quiet e d
    · exact Quiet.refl e d
  · exact (loadPlannedAll_still e d p.items).toQuiet

theorem serviceSplit_quiet (opening : Bool) {x : Split} (had : d.ch.split = some x) :
    Quiet e d (d.serviceSplit e opening x) := by
  unfold serviceSplit
  split
  · extract_lets loaded
    have quiet_loaded := (loadPlannedAll_still e d x.items).toQuiet
    split
    · exact quiet_loaded.trans (chooseFill_quiet e loaded .named)
    · exact quiet_loaded
  · split
    · exact Quiet.refl e d
    · split
      · exact (setSplit_still e d had (.inr rfl)).toQuiet.trans (chooseFill_quiet e _ .following)
      · exact chooseFill_quiet e d _
  · exact Quiet.refl e d
  · exact Quiet.refl e d

theorem loadBreakItem_still : Still e d (d.loadBreakItem e) := by
  unfold loadBreakItem
  split
  · next taken => exact (takeDeck_still e d taken).trans (load_still e _ _ _ _ _)
  · exact Still.refl e d

theorem serviceBreak_still : Still e d (d.serviceBreak e) :=
  (loadBreakItem_still e d).trans (loadBreakItem_still e _)

theorem nextWindowItem_still {r : ItemRef} {t : Desk} (h : d.nextWindowItem = some (r, t)) : Still e d t := by
  unfold nextWindowItem at h
  split at h
  · cases h; exact Still.refl e d
  · split at h
    · next single => cases h; exact takeSingly_still e d single
    · cases h

theorem loadWindowItem_still (fuel : Nat) : Still e d (d.loadWindowItem e fuel).1 := by
  induction fuel generalizing d with
  | zero => exact Still.refl e d
  | succ fuel ih =>
    unfold loadWindowItem
    split
    · split
      · exact Still.refl e d
      · next r t next =>
        extract_lets _ _ claimed
        have still_claimed : Still e d claimed :=
          (nextWindowItem_still e d next).trans ((setLastRing_still e t (some r)).trans (claim_still e _ r))
        split
        · split
          · next taken => exact still_claimed.trans ((takeDeck_still e claimed taken).trans (load_still e _ _ _ _ _))
          · exact still_claimed
        · exact still_claimed.trans ((finishUnsounded_still e claimed .notReady r).trans (ih _))
    · exact Still.refl e d

theorem localNext_quiet (opening : Bool) : Quiet e d (d.localNext e opening) := by
  unfold localNext
  split
  · exact Quiet.refl e d
  · have quiet_loaded := (loadWindowItem_still e d ringFuel).toQuiet
    generalize d.loadWindowItem e ringFuel = loaded at quiet_loaded ⊢
    obtain ⟨t, done⟩ := loaded
    dsimp only at quiet_loaded ⊢
    split
    · exact quiet_loaded.trans (noFillWait_quiet e t)
    · split
      · exact quiet_loaded
      · exact quiet_loaded.trans (chooseFill_quiet e t _)

theorem serviceLocal_quiet (opening : Bool) : Quiet e d (d.serviceLocal e opening) := by
  unfold serviceLocal
  split
  · split
    · exact Quiet.refl e d
    · exact (localNext_quiet e d opening).trans (localNext_quiet e _ opening)
  · exact Quiet.refl e d

theorem lookAtHead_quiet : Quiet e d (d.lookAtHead e) := by
  unfold lookAtHead
  split
  · split
    · exact (giveUpCandidate_still e d).toQuiet.trans (localNext_quiet e _ false)
    · exact Quiet.refl e d
  · exact Quiet.refl e d

theorem prepareNoRing_quiet : Quiet e d (d.prepareNoRing e) := by
  unfold prepareNoRing
  split
  · exact (setStage_still e d .nothing).toQuiet
  · exact (setStage_still e d .call).toQuiet.trans ((noFillWait_quiet e _).trans (chooseCalled_quiet e _))

theorem prepareRing_quiet {otherwise : Desk → Desk} (quiet : ∀ t, Quiet e t (otherwise t)) :
    Quiet e d (d.prepareRing e otherwise) := by
  unfold prepareRing
  split
  · exact Quiet.refl e d
  · have quiet_loaded := (loadWindowItem_still e d ringFuel).toQuiet
    generalize d.loadWindowItem e ringFuel = loaded at quiet_loaded ⊢
    obtain ⟨t, done⟩ := loaded
    dsimp only at quiet_loaded ⊢
    split
    · exact quiet_loaded.trans (noFillWait_quiet e t)
    · split
      · exact quiet_loaded
      · exact quiet_loaded.trans (quiet t)

theorem prepareWindow_quiet : Quiet e d (d.prepareWindow e) := by
  unfold prepareWindow
  split
  · exact (setStage_still e d .ring).toQuiet.trans (prepareRing_quiet e _ (prepareNoRing_quiet e))
  · exact prepareNoRing_quiet e d

theorem serviceFallback_quiet (opening : Bool) : Quiet e d (d.serviceFallback e opening) := by
  unfold serviceFallback
  split
  · exact chooseFill_quiet e d _
  · exact Quiet.refl e d

theorem serviceHeld_quiet (opening : Bool) (h : HeldWindow) : Quiet e d (d.serviceHeld e opening h) := by
  unfold serviceHeld
  split
  · exact prepareRing_quiet e d (fun t => (setStage_still e t .fill).toQuiet)
  · exact chooseCalled_quiet e d
  · exact Quiet.refl e d
  · exact serviceFallback_quiet e d opening
  · exact serviceFallback_quiet e d opening

theorem serviceAs_quiet (opening : Bool) : Quiet e d (d.serviceAs opening e) := by
  unfold serviceAs
  have waiting : Quiet e d (match d.ch.plan, d.ch.held with
      | some p, _ => if p.primed then d.servicePlan e p else d.serviceFallback e opening
      | none, some h => d.serviceHeld e opening h
      | none, none => d.serviceFallback e opening) := by
    split
    · split
      · exact servicePlan_quiet e d _
      · exact serviceFallback_quiet e d opening
    · exact serviceHeld_quiet e d opening _
    · exact serviceFallback_quiet e d opening
  split
  · exact Quiet.refl e d
  · exact waiting
  · exact waiting
  · split
    · next had => exact serviceSplit_quiet e d opening had
    · exact Quiet.refl e d
  · split
    · split
      · exact (serviceBreak_still e d).toQuiet
      · exact Quiet.refl e d
    · exact Quiet.refl e d
  · exact serviceLocal_quiet e d opening

theorem service_quiet : Quiet e d (d.service e) := serviceAs_quiet e d false

theorem faultDeck_quiet (k : DeckId) : Quiet e d (d.faultDeck e k) := by
  unfold faultDeck
  extract_lets _ faulted
  have quiet_faulted := (mediaFault_still e d k).toQuiet
  split
  · exact quiet_faulted.trans (lookAtHead_quiet e faulted)
  · exact quiet_faulted

theorem retryFill_quiet : Quiet e d (d.retryFill e) := by
  unfold retryFill
  split
  · exact (noFillWait_quiet e d).trans (serviceAs_quiet e _ true)
  · exact Quiet.refl e d

/-! ### Breaks -/

theorem cutWaiting_still (result : Result) (refs : List ItemRef) : Still e d (d.cutWaiting e result refs) := by
  refine Still.foldl (fun d r => ?_) refs d
  split
  · split
    · exact Still.refl e d
    · exact endDeck_still e d .a result
  · split
    · split
      · exact Still.refl e d
      · exact endDeck_still e d .b result
    · exact finishUnsounded_still e d result r

theorem passItems_still (refs : List ItemRef) : Still e d (d.passItems e refs) :=
  Still.foldl (fun d r => finishUnsounded_still e d .notReady r) refs d

theorem passReached_still : Still e d (d.passReached e) := passItems_still e d _

theorem passBefore_still (r : ItemRef) : Still e d (d.passBefore e r) := passItems_still e d _

theorem placeGuard_still : Still e d d.placeGuard := mapBreak_still e d _

theorem takeHard_still : Still e d (d.takeHard e) := by
  unfold takeHard
  split
  · exact Still.refl e d
  · extract_lets cut f closed _ _
    have still_cut := cutWaiting_still e d .cutOff d.breakItems
    split
    · exact still_cut.trans ((closeAll_still e cut f).trans (mapBreak_still e closed _))
    · exact still_cut.trans (mapBreak_still e cut _)

theorem breakCloses_still : Still e d (d.breakCloses e) := by
  unfold breakCloses
  split
  · exact Still.refl e d
  · next had =>
    split
    · dsimp only
      split
      · exact (setBreak_still e d had).trans ((closeAll_still e _ _).trans (cutWaiting_still e _ .cutOff _))
      · exact Still.refl e d
    · exact Still.refl e d

/-! ### Windows -/

theorem windowPrimes_quiet : Quiet e d (d.windowPrimes e) := by
  unfold windowPrimes
  split
  · split
    · exact prepareWindow_quiet e d
    · exact Quiet.refl e d
  · exact Quiet.refl e d

theorem returnPrepared_still (k : DeckId) : Still e d (d.returnPrepared k) := by
  unfold returnPrepared
  dsimp only
  split
  · exact (unhold_still e d _).trans ((setDeck_still e _ k _).trans (setHead_still e _ _))
  · exact Still.refl e d

theorem candidateFollows_still : Still e d d.candidateFollows := by
  unfold candidateFollows
  split
  · exact setDeck_still e d _ _
  · exact Still.refl e d

/-- The window context replaced where there is one. -/
theorem setWindow_still {w x : WindowCtx} (had : d.ch.window = some w) :
    Still e d { d with ch := { d.ch with window := some x } } :=
  ⟨⟨rfl, rfl, rfl, rfl, rfl, rfl, by simp [had], id, id⟩, rfl⟩

theorem windowCloses_quiet : Quiet e d (d.windowCloses e) := by
  unfold windowCloses
  split
  · next had =>
    split
    · dsimp only
      split
      · exact (setWindow_still e d had).toQuiet.trans ((closeAll_still e _ _).toQuiet.trans
          ((cutWaiting_still e _ .cutOff _).toQuiet.trans
            ((giveUpCandidate_still e _).toQuiet.trans (noFillWait_quiet e _))))
      · exact Quiet.refl e d
    · exact Quiet.refl e d
  · exact Quiet.refl e d

/-! ### Splits and plans -/

theorem planPrimes_quiet : Quiet e d (d.planPrimes e) := by
  unfold planPrimes
  split
  · next had =>
    split
    · unfold primePlan
      extract_lets primed planned cleared
      have quiet_planned : Quiet e d planned := (setPlan_still e d had).toQuiet.trans (noFillWait_quiet e _)
      have quiet_cleared : Quiet e planned cleared := by
        unfold cleared
        split
        · exact (giveUpCandidate_still e planned).toQuiet
        · exact Quiet.refl e planned
      exact quiet_planned.trans (quiet_cleared.trans (servicePlan_quiet e cleared primed))
    · exact Quiet.refl e d
  · exact Quiet.refl e d

theorem markProvisional_still (x : PlanItem) : Still e d (d.markProvisional x) := by
  unfold markProvisional
  split
  · exact Still.refl e d
  · exact setItem_still e d _ _
  · exact setItem_still e d _ _

theorem skipBreak_still (number : BreakNo) (entries : List (Fin 128)) : Still e d (d.skipBreak e number entries) :=
  Still.foldl (fun d r => settle_still e d r .skipped _) _ d

theorem settleProvisional_still (number : BreakNo) (x : PlanItem) : Still e d (d.settleProvisional e number x) := by
  unfold settleProvisional
  split
  · exact settle_still e d _ _ _
  · exact Still.refl e d

theorem splitCloses_quiet : Quiet e d (d.splitCloses e) := by
  unfold splitCloses
  split
  · next had =>
    split
    · extract_lets g result closing
      have quiet_closing : Quiet e d closing := (setSplit_still e d had (.inr rfl)).toQuiet
      exact quiet_closing.trans ((closeAll_still e closing g).toQuiet.trans
        ((cutWaiting_still e _ result _).toQuiet.trans ((giveUpCandidate_still e _).toQuiet.trans (noFillWait_quiet e _))))
    · exact Quiet.refl e d
  · exact Quiet.refl e d

theorem cancelSplit_quiet {x : Split} (had : d.ch.split = some x) (k : FrameNo) : Quiet e d (d.cancelSplit e x k) := by
  unfold cancelSplit
  extract_lets soonest rejoin earlier _
  split
  · exact Quiet.refl e d
  · split
    · refine ⟨rfl, rfl, rfl, rfl, by simp [had], rfl, rfl, ?_, id⟩
      simp [Channel.choosing, had]
    · exact Quiet.refl e d

theorem refade_still : Still e d d.refade := by
  unfold refade
  split
  · next x had =>
    split
    · exact Still.refl e d
    · refine ⟨⟨rfl, rfl, rfl, rfl, by simp [setSplit, had], rfl, rfl, ?_, id⟩, rfl⟩
      simp [setSplit, Channel.choosing, had]
  · exact Still.refl e d

theorem changeSettings_still (x : Settings) : Still e d (d.changeSettings x) := by
  have still_set : Still e d { d with ch := { d.ch with settings := x } } :=
    ⟨⟨rfl, rfl, rfl, rfl, rfl, rfl, rfl, id, id⟩, rfl⟩
  exact still_set.trans ((refade_still e _).trans (placeGuard_still e _))

theorem movePoints_still (delta : FrameNo) : Still e d (d.movePoints delta) := by
  refine ⟨⟨rfl, rfl, rfl, rfl, by simp [movePoints], by simp [movePoints], by simp [movePoints], ?_, id⟩, rfl⟩
  simp only [Channel.choosing, movePoints, Option.any_map]
  exact id

/-! ### Fill requests -/

theorem setSlot_quiet (slot : Fin 16) (cart : Fin 1024) : Quiet e d (d.setSlot slot cart e) := by
  have quiet_set : Quiet e d { d with ch := { d.ch with fill := { d.ch.fill with slots := put d.ch.fill.slots slot cart } } } :=
    ⟨rfl, rfl, rfl, rfl, rfl, rfl, rfl, id, id⟩
  exact quiet_set.trans (retryFill_quiet e _)

theorem setRange_quiet (start stop : Fin 16) : Quiet e d (d.setRange start stop e) := by
  unfold setRange
  extract_lets inPass split _ _ ch
  have quiet_ch : Quiet e d { d with ch := ch } := by
    refine ⟨rfl, rfl, rfl, rfl, ?_, rfl, rfl, ?_, id⟩
    · change split.isSome = d.ch.split.isSome
      unfold split
      by_cases onePass : d.ch.settings.fillMode = .onePass <;> simp [onePass]
    · change split.any _ = true → d.ch.split.any _ = true
      unfold split
      cases d.ch.split with
      | none => simp
      | some x =>
        by_cases onePass : d.ch.settings.fillMode = .onePass <;> by_cases pass : inPass x = true <;>
          simp [onePass, pass, Split.passAt]
  exact quiet_ch.trans ((retryFill_quiet e _).trans (service_quiet e _))

/-! ### Starts, emission and abandoned items -/

theorem segueFade_still (r : ItemRef) (other : DeckId) : Still e d (d.segueFade r other) := by
  unfold segueFade
  dsimp only
  split
  · exact setDeck_still e d other _
  · exact Still.refl e d

theorem breakBegins_still : Still e d (d.breakBegins e) := by
  unfold breakBegins
  split
  · next b had =>
    split
    · extract_lets cut started
      have still_cut : Still e d cut := (cutFill_still e d).trans (giveUpCandidate_still e _)
      have brk_cut := still_cut.brk
      rw [had] at brk_cut
      obtain ⟨c, hc⟩ := Option.isSome_iff_exists.mp brk_cut
      have still_started : Still e cut started := (setBreak_still e cut hc).trans (placeGuard_still e _)
      exact still_cut.trans (still_started.trans (record_still e started _))
    · exact Still.refl e d
  · exact Still.refl e d

theorem markStart_still (i : Fin 128) : Still e d (d.markStart e i) := by
  unfold markStart
  split
  · exact setEntry_still e d i _
  · exact Still.refl e d

theorem callFill_still (k : DeckId) : Still e d (d.callFill e k) := by
  unfold callFill
  split
  · next had =>
    dsimp only
    split
    · next calls =>
      simp only [Bool.and_eq_true, decide_eq_true_eq] at calls
      obtain ⟨⟨phase, _⟩, _⟩ := calls
      exact setSplit_still e d had (.inl (by simp [phase]))
    · exact Still.refl e d
  · exact Still.refl e d

theorem play_still (k : DeckId) : Still e d (d.play e k) :=
  (setDeck_still e d k _).trans ⟨⟨rfl, rfl, rfl, rfl, rfl, rfl, rfl, id, id⟩, rfl⟩

theorem begin_still (k : DeckId) : Still e d (d.begin e k) := by
  unfold Desk.begin
  split
  · exact (((passBefore_still e d _).trans (breakBegins_still e _)).trans (segueFade_still e _ _ _)).trans
      (((play_still e _ k).trans (markStart_still e _ _)).trans (callFill_still e _ k))
  · exact play_still e d k

theorem starts_still : Still e d (d.starts e) := by
  refine (passReached_still e d).trans (Still.foldl (fun d k => ?_) _ _)
  refine Still.trans ?_ (passReached_still e _)
  unfold startDeck
  split
  · exact begin_still e d k
  · exact Still.refl e d

theorem releases_quiet : Quiet e d (d.releases e) := by
  refine Quiet.foldl (fun d k => ?_) _ d
  unfold releaseDeck
  extract_lets deck ended
  split
  · have quiet_ended := (endDeck_still e d k (d.naturalResult deck)).toQuiet
    split
    · exact quiet_ended.trans (lookAtHead_quiet e ended)
    · exact quiet_ended
  · exact Quiet.refl e d

theorem emit_still : Still e d d.emit := by
  have still_deck : ∀ (d : Desk) (k : DeckId), Still e d (d.emitDeck k) := by
    intro d k
    refine Still.trans ?_ (setDeck_still e _ k _)
    unfold countAired
    split
    · exact setItem_still e d _ _
    · exact Still.refl e d
  exact (still_deck d .a).trans ((still_deck _ .b).trans (mapBreak_still e _ _))

theorem abandon_quiet (ids : List DeckId) : Quiet e d (d.abandon e ids) := by
  unfold abandon
  split
  · exact Quiet.refl e d
  · exact (Quiet.foldl (fun d k => faultDeck_quiet e d k) _ d).trans (service_quiet e _)

theorem readEnds_quiet (k : DeckId) (page : Nat) (load : BitVec 32) (allowance : Bool) (contents : Option FlashPage) :
    Quiet e d (d.readEnds k page load allowance contents e) := by
  unfold readEnds
  dsimp only
  split
  · split
    · exact (setDeck_still e d k _).toQuiet
    · unfold readFailed
      dsimp only
      split
      · exact (setDeck_still e d k _).toQuiet
      · exact (setDeck_still e d k _).toQuiet.trans ((faultDeck_quiet e _ k).trans (service_quiet e _))
  · split
    · exact (setDeck_still e d k _).toQuiet
    · exact Quiet.refl e d

end Desk

end Sys2Proof.Machine

/-! What every channel rule keeps: the contexts agree with the channel's state (`ContextLaw`), and the hold counts are lawful. -/

namespace Sys2Proof.Machine

/-! ### The law of the contexts -/

/-- The law of the contexts, carried to a channel in the same state with the same contexts in hand. -/
theorem ContextLaw.transport {c c' : Channel} (h : ContextLaw c) (state : c'.state = c.state) (plan : c'.plan.isSome = c.plan.isSome)
    (held : c'.held.isSome = c.held.isSome) (pending : c'.pending.isSome = c.pending.isSome)
    (split : c'.split.isSome = c.split.isSome) (brk : c'.brk.isSome = c.brk.isSome)
    (window : c'.window.isSome = c.window.isSome) (settled : c'.choosing = false) : ContextLaw c' where
  split := by rw [split, state]; exact h.split
  brk := by rw [brk, state]; exact h.brk
  window := by rw [window, state]; exact h.window
  plan := by rw [plan, state]; exact h.plan
  held := by rw [held, state]; exact h.held
  single := by
    have single := h.single
    simp only [← Option.not_isSome_iff_eq_none, plan, held] at single ⊢
    exact single
  pending := by rw [pending, plan, state]; exact h.pending
  filling := settled

/-- A quiet rule keeps the law of the contexts. -/
theorem ContextLaw.quiet {e : Env} {d d' : Desk} (q : Quiet e d d') (h : ContextLaw d.ch) : ContextLaw d'.ch :=
  h.transport q.state q.plan q.held q.pending q.split q.brk q.window
    (Bool.eq_false_iff.mpr (fun chooses => Bool.eq_false_iff.mp h.filling (q.choosing chooses)))

/-- The contexts of the channel, all but a break's, are absent. -/
structure Channel.Lone (c : Channel) : Prop where
  plan : c.plan = none
  held : c.held = none
  pending : c.pending = none
  split : c.split = none
  window : c.window = none

theorem Channel.Lone.quiet {e : Env} {d d' : Desk} (q : Quiet e d d') (h : d.ch.Lone) : d'.ch.Lone :=
  ⟨q.plan_none h.plan, q.held_none h.held, q.pending_none h.pending, q.split_none h.split, q.window_none h.window⟩

/-- No context but a break's, in BREAK. -/
theorem Channel.Lone.inBreak {c : Channel} (h : c.Lone) (brk : c.brk.isSome = true) (state : c.state = .brk) : ContextLaw c := by
  constructor <;> simp [h.plan, h.held, h.pending, h.split, h.window, brk, state]

/-- No context but perhaps a pending announce. -/
structure Channel.Vacant (c : Channel) : Prop where
  plan : c.plan = none
  held : c.held = none
  split : c.split = none
  brk : c.brk = none
  window : c.window = none

/-- No context at all, in a state that needs none. -/
theorem Channel.Vacant.atRest {c : Channel} (h : c.Vacant) (pending : c.pending = none)
    (state : c.state = .bypass ∨ c.state = .pass ∨ c.state = .fallback) : ContextLaw c := by
  rcases state with state | state | state <;> constructor <;>
    simp [h.plan, h.held, pending, h.split, h.window, h.brk, state]

theorem Channel.Lone.atRest {c : Channel} (h : c.Lone) (brk : c.brk = none)
    (state : c.state = .bypass ∨ c.state = .pass ∨ c.state = .fallback) : ContextLaw c :=
  Channel.Vacant.atRest ⟨h.plan, h.held, h.split, brk, h.window⟩ h.pending state

/-- A window's context alone, in LOCAL. -/
theorem Channel.inWindow {c : Channel} (plan : c.plan = none) (held : c.held = none) (pending : c.pending = none)
    (split : c.split = none) (brk : c.brk = none) (window : c.window.isSome = true) (state : c.state = .loc) : ContextLaw c := by
  constructor <;> simp [plan, held, pending, split, brk, window, state]

/-- A split's context, and perhaps a pending announce, in SPLIT. -/
theorem Channel.inSplit {c : Channel} (plan : c.plan = none) (held : c.held = none) (brk : c.brk = none)
    (window : c.window = none) (split : c.split.isSome = true) (state : c.state = .split) (settled : c.choosing = false) :
    ContextLaw c := by
  constructor
  case filling => exact settled
  all_goals simp [plan, held, brk, window, split, state]

section Absent

variable {c : Channel} (h : ContextLaw c)
include h

theorem ContextLaw.no_split (state : c.state ≠ .split) : c.split = none := by
  rw [← Option.not_isSome_iff_eq_none, h.split]
  exact state

theorem ContextLaw.no_brk (state : c.state ≠ .brk) : c.brk = none := by
  rw [← Option.not_isSome_iff_eq_none, h.brk]
  exact state

theorem ContextLaw.no_window (state : c.state ≠ .loc) : c.window = none := by
  rw [← Option.not_isSome_iff_eq_none, h.window]
  exact state

theorem ContextLaw.no_plan (state : c.state ≠ .pass ∧ c.state ≠ .fallback) : c.plan = none := by
  rw [← Option.not_isSome_iff_eq_none]
  intro armed
  rcases h.plan armed with pass | fallback
  · exact state.1 pass
  · exact state.2 fallback

theorem ContextLaw.no_held (state : c.state ≠ .pass ∧ c.state ≠ .fallback) : c.held = none := by
  rw [← Option.not_isSome_iff_eq_none]
  intro holds
  rcases h.held holds with pass | fallback
  · exact state.1 pass
  · exact state.2 fallback

theorem ContextLaw.no_pending (plan : c.plan = none) (state : c.state ≠ .split) : c.pending = none := by
  rw [← Option.not_isSome_iff_eq_none]
  intro waits
  rcases h.pending waits with armed | split
  · simp [plan] at armed
  · exact state split

/-- A channel out of SPLIT and LOCAL that is not committed has no context but perhaps a break's. -/
theorem ContextLaw.lone (plan : c.plan = none) (held : c.held = none) (state : c.state ≠ .split ∧ c.state ≠ .loc) : c.Lone where
  plan := plan
  held := held
  pending := h.no_pending plan state.1
  split := h.no_split state.1
  window := h.no_window state.2

theorem ContextLaw.brk_lone (state : c.state = .brk) : c.Lone :=
  h.lone (h.no_plan (by simp [state])) (h.no_held (by simp [state])) (by simp [state])

end Absent

/-- The two states in which a plan may be armed or a window held. -/
def Channel.Open (c : Channel) : Prop := c.state = .pass ∨ c.state = .fallback

theorem Channel.Open.quiet {e : Env} {d d' : Desk} (q : Quiet e d d') (h : d.ch.Open) : d'.ch.Open := by
  unfold Channel.Open
  rw [q.state]
  exact h

/-- What a rule keeps: the law of the contexts, and the lawful hold counts. -/
structure Lawful (e : Env) (d d' : Desk) : Prop where
  contexts : ContextLaw d.ch → ContextLaw d'.ch
  holds : HoldsLawful e.catalog d.holds → HoldsLawful e.catalog d'.holds

theorem Quiet.lawful {e : Env} {d d' : Desk} (q : Quiet e d d') : Lawful e d d' := ⟨ContextLaw.quiet q, q.holds⟩

theorem Lawful.refl (e : Env) (d : Desk) : Lawful e d d := ⟨id, id⟩

theorem Lawful.trans {e : Env} {a b c : Desk} (h : Lawful e a b) (k : Lawful e b c) : Lawful e a c :=
  ⟨k.contexts ∘ h.contexts, k.holds ∘ h.holds⟩

/-- The hold counts after a rule are lawful where those before it were. -/
def HoldsKept (e : Env) (d d' : Desk) : Prop := HoldsLawful e.catalog d.holds → HoldsLawful e.catalog d'.holds

namespace Desk

variable (e : Env) (d : Desk)

/-! ### Breaks and triggers (R55, R59 to R62, R69) -/

/-- R69: the end of an insert state leaves no context but perhaps a pending announce. -/
theorem leaveInsert_vacant (plan : d.ch.plan = none) (held : d.ch.held = none) :
    (d.leaveInsert e).ch.Vacant ∧ (d.leaveInsert e).ch.Open := by
  unfold leaveInsert
  extract_lets _ bare
  split
  · have q := (giveUpCandidate_still e bare).toQuiet
    exact ⟨⟨q.plan_none plan, q.held_none held, q.split_none rfl, q.brk_none rfl, q.window_none rfl⟩, .inl rfl⟩
  · exact ⟨⟨plan, held, rfl, rfl, rfl⟩, .inr rfl⟩

theorem leaveInsert_pending (pending : d.ch.pending = none) : (d.leaveInsert e).ch.pending = none := by
  unfold leaveInsert
  extract_lets _ bare
  split
  · exact (giveUpCandidate_still e bare).toQuiet.pending_none pending
  · exact pending

theorem leaveInsert_holds : HoldsKept e d (d.leaveInsert e) := by
  unfold leaveInsert
  extract_lets _ bare
  split
  · exact (giveUpCandidate_still e bare).holds
  · exact id

/-- A channel with nothing armed, held or pending leaves its insert state lawfully. -/
theorem leaveInsert_rest (plan : d.ch.plan = none) (held : d.ch.held = none) (pending : d.ch.pending = none) :
    ContextLaw (d.leaveInsert e).ch := by
  obtain ⟨left, state⟩ := d.leaveInsert_vacant e plan held
  exact left.atRest (d.leaveInsert_pending e pending) (.inr state)

theorem leaveInsert_contexts (lone : d.ch.Lone) : ContextLaw (d.leaveInsert e).ch :=
  leaveInsert_rest e d lone.plan lone.held lone.pending

theorem airBreak_quiet (b : BreakCtx) : Quiet e ((d.setBreak b).setState .brk) (d.airBreak e b) :=
  ((passReached_still e _).trans (serviceBreak_still e _)).toQuiet

/-- A break set on a channel without other contexts begins to be aired lawfully. -/
theorem airBreak_contexts (b : BreakCtx) (lone : d.ch.Lone) : ContextLaw (d.airBreak e b).ch := by
  have begun : ContextLaw ((d.setBreak b).setState .brk).ch :=
    Channel.Lone.inBreak ⟨lone.plan, lone.held, lone.pending, lone.split, lone.window⟩ rfl rfl
  exact begun.quiet (airBreak_quiet e d b)

theorem airBreak_holds (b : BreakCtx) : HoldsKept e d (d.airBreak e b) := (airBreak_quiet e d b).holds

theorem emptyBreak_holds (number : BreakNo) (entries : List (Fin 128)) : HoldsKept e d (d.emptyBreak e number entries) := by
  unfold emptyBreak
  extract_lets set passed written _
  have q : Quiet e set written :=
    ((passItems_still e set (set.openItems entries)).trans ((record_still e _ _).trans (record_still e _ _))).toQuiet
  exact q.holds

/-- A break without a playable item leaves the channel as it is, with no break. -/
theorem emptyBreak_lone (number : BreakNo) (entries : List (Fin 128)) (lone : d.ch.Lone) :
    (d.emptyBreak e number entries).ch.Lone ∧ (d.emptyBreak e number entries).ch.brk = none ∧
      (d.emptyBreak e number entries).ch.state = d.ch.state := by
  unfold emptyBreak
  extract_lets set passed written _
  have q : Quiet e set written :=
    ((passItems_still e set (set.openItems entries)).trans ((record_still e _ _).trans (record_still e _ _))).toQuiet
  have lone_set : set.ch.Lone := ⟨lone.plan, lone.held, lone.pending, lone.split, lone.window⟩
  have lone_written := lone_set.quiet q
  exact ⟨⟨lone_written.plan, lone_written.held, lone_written.pending, lone_written.split, lone_written.window⟩, rfl, q.state⟩

/-- The claims of a break's items. -/
theorem claims_still (refs : List ItemRef) : Still e d (refs.foldl (fun d r => d.claim e r) d) :=
  Still.foldl (fun d r => claim_still e d r) refs d

theorem startBreak_holds (number : BreakNo) (entries : List (Fin 128)) : HoldsKept e d (d.startBreak e number entries) := by
  unfold startBreak
  extract_lets refs claimed before said
  have claims := (claims_still e d refs).holds
  split
  · have records : HoldsKept e claimed said := by
      unfold said
      split
      · exact (record_still e claimed _).holds
      · exact id
    exact (airBreak_holds e said _) ∘ records ∘ claims
  · exact (emptyBreak_holds e claimed number entries) ∘ claims

theorem startBreak_contexts (number : BreakNo) (entries : List (Fin 128)) (lone : d.ch.Lone) (state : d.ch.Open) :
    ContextLaw (d.startBreak e number entries).ch := by
  unfold startBreak
  extract_lets refs claimed before said
  have q : Quiet e d claimed := (claims_still e d refs).toQuiet
  split
  · have q' : Quiet e claimed said := by
      unfold said
      split
      · exact (record_still e claimed _).toQuiet
      · exact Quiet.refl e claimed
    exact said.airBreak_contexts e _ (lone.quiet (q.trans q'))
  · obtain ⟨lone', brk', state'⟩ := claimed.emptyBreak_lone e number entries (lone.quiet q)
    refine lone'.atRest brk' (.inr ?_)
    rw [state']
    exact state.quiet q

theorem restartBreak_holds : HoldsKept e d (d.restartBreak e) := by
  unfold restartBreak
  split
  · exact (leaveInsert_holds e _) ∘ (record_still e d _).holds
  · next number entries t gathered =>
    extract_lets refs claimed
    have claims := ((gather_still e d gathered).trans (claims_still e t refs)).holds
    split
    · exact (airBreak_holds e claimed _) ∘ claims
    · exact (leaveInsert_holds e _) ∘ (emptyBreak_holds e claimed number entries) ∘ claims

theorem restartBreak_contexts (lone : d.ch.Lone) : ContextLaw (d.restartBreak e).ch := by
  unfold restartBreak
  split
  · exact leaveInsert_contexts e _ (lone.quiet (record_still e d _).toQuiet)
  · next number entries t gathered =>
    extract_lets refs claimed
    have q : Quiet e d claimed := ((gather_still e d gathered).trans (claims_still e t refs)).toQuiet
    split
    · exact claimed.airBreak_contexts e _ (lone.quiet q)
    · exact leaveInsert_contexts e _ (claimed.emptyBreak_lone e number entries (lone.quiet q)).1

/-- What a trigger does: nothing but a record, or the start of a gathered break on an uncommitted channel. -/
theorem trigger_cases : d.trigger e = d ∨ (∃ r, d.trigger e = d.record e r) ∨
    (d.ch.Open ∧ d.committed = false ∧ ∃ number entries t, d.gather e = some (number, entries, t) ∧
      d.trigger e = t.startBreak e number entries) := by
  unfold trigger
  have waits : d.ch.Open → ∀ busy empty : Record,
      let judged := if d.committed then d.record e busy
        else match d.gather e with
          | some (number, entries, d) => d.startBreak e number entries
          | none => d.record e empty
      (∃ r, judged = d.record e r) ∨
      (d.ch.Open ∧ d.committed = false ∧ ∃ number entries t, d.gather e = some (number, entries, t) ∧
        judged = t.startBreak e number entries) := by
    intro state busy empty
    cases committed : d.committed with
    | true => exact .inl ⟨busy, rfl⟩
    | false =>
      cases gathered : d.gather e with
      | none => exact .inl ⟨empty, rfl⟩
      | some g => exact .inr ⟨state, rfl, g.1, g.2.1, g.2.2, rfl, rfl⟩
  extract_lets busy
  cases state : d.ch.state with
  | bypass => exact .inl rfl
  | pass => exact .inr (waits (.inl state) _ _)
  | fallback => exact .inr (waits (.inr state) _ _)
  | split => exact .inr (.inl ⟨_, rfl⟩)
  | brk => exact .inr (.inl ⟨_, rfl⟩)
  | loc => exact .inr (.inl ⟨_, rfl⟩)

theorem trigger_lawful : Lawful e d (d.trigger e) := by
  rcases d.trigger_cases e with eq | ⟨r, eq⟩ | ⟨state, free, number, entries, t, gathered, eq⟩ <;> rw [eq]
  · exact Lawful.refl e d
  · exact (record_still e d r).toQuiet.lawful
  · have q := (gather_still e d gathered).toQuiet
    simp only [committed, Bool.or_eq_false_iff, Option.isSome_eq_false_iff, Option.isNone_iff_eq_none] at free
    obtain ⟨plan, held⟩ := free
    refine ⟨fun h => ?_, (startBreak_holds e t number entries) ∘ q.holds⟩
    have apart : d.ch.state ≠ .split ∧ d.ch.state ≠ .loc := by
      rcases state with h | h <;> simp [h]
    exact t.startBreak_contexts e number entries ((h.lone plan held apart).quiet q) (state.quiet q)

theorem endNormal_holds (b : BreakCtx) : HoldsKept e d (d.endNormal e b) := by
  unfold endNormal
  extract_lets started
  have starts : HoldsKept e d started := by
    unfold started
    split
    · exact id
    · exact (record_still e d _).holds
  exact (leaveInsert_holds e _) ∘ (record_still e started _).holds ∘ starts

theorem endNormal_contexts (b : BreakCtx) (lone : d.ch.Lone) : ContextLaw (d.endNormal e b).ch := by
  unfold endNormal
  extract_lets started
  have q : Quiet e d started := by
    unfold started
    split
    · exact Quiet.refl e d
    · exact (record_still e d _).toQuiet
  exact leaveInsert_contexts e _ (lone.quiet (q.trans (record_still e started _).toQuiet))

theorem endsNormally_lawful (b : BreakCtx) (lone : ContextLaw d.ch → d.ch.Lone) : Lawful e d (d.endsNormally e b) := by
  unfold endsNormally
  extract_lets passed
  have q : Quiet e d passed := by
    unfold passed
    split
    · exact (passReached_still e d).toQuiet
    · exact Quiet.refl e d
  split
  · split
    · exact ⟨fun h => passed.endNormal_contexts e _ ((lone h).quiet q), (endNormal_holds e passed _) ∘ q.holds⟩
    · exact Lawful.refl e d
  · exact Lawful.refl e d

theorem breakEnds_lawful : Lawful e d (d.breakEnds e) := by
  unfold breakEnds
  split
  · exact Lawful.refl e d
  · next b had =>
    have lone : ContextLaw d.ch → d.ch.Lone := fun h => h.brk_lone (h.brk.mp (by simp [had]))
    split
    · split
      · have q : Quiet e d ((d.endSounding e).breakEnded e b.breakNo .endTake e.pos (BitVec.ofNat 32 b.ran)) :=
          ((endSounding_still e d).trans (record_still e _ _)).toQuiet
        exact ⟨fun h => restartBreak_contexts e _ ((lone h).quiet q), (restartBreak_holds e _) ∘ q.holds⟩
      · exact Lawful.refl e d
    · split
      · next p _ =>
        split
        · have q : Quiet e d ((d.endSounding e).breakEnded e b.breakNo .endGuard p (p - b.start.getD p)) :=
            ((endSounding_still e d).trans (record_still e _ _)).toQuiet
          exact ⟨fun h => leaveInsert_contexts e _ ((lone h).quiet q), (leaveInsert_holds e _) ∘ q.holds⟩
        · exact endsNormally_lawful e d b lone
      · exact endsNormally_lawful e d b lone
    · exact endsNormally_lawful e d b lone

/-! ### Plans, announces and splits (R71 to R94) -/

theorem armPlan_quiet (p : Plan) : Quiet e (d.setPlan p) (d.armPlan e p) := planPrimes_quiet e _

/-- A plan armed in PASS or FALLBACK without a held window. -/
theorem armPlan_contexts (p : Plan) (h : ContextLaw d.ch) (state : d.ch.Open) (held : d.ch.held = none) :
    ContextLaw (d.armPlan e p).ch := by
  have armed : ContextLaw (d.setPlan p).ch :=
    { split := h.split, brk := h.brk, window := h.window, plan := fun _ => state, held := h.held, single := .inr held,
      pending := fun _ => .inl rfl, filling := h.filling }
  exact armed.quiet (armPlan_quiet e d p)

/-- A channel that may arm a plan, and lawfully does. -/
structure MayArm (d : Desk) : Prop where
  law : ContextLaw d.ch
  state : d.ch.Open
  held : d.ch.held = none

end Desk

theorem Desk.MayArm.quiet {e : Env} {d d' : Desk} (q : Quiet e d d') (h : d.MayArm) : d'.MayArm where
  law := h.law.quiet q
  state := h.state.quiet q
  held := by
    rw [← Option.not_isSome_iff_eq_none, q.held]
    simp [h.held]

namespace Desk

variable (e : Env) (d : Desk)

theorem planBreak_holds (a : Announce) (entries : List (Fin 128)) : HoldsKept e d (d.planBreak e a entries) := by
  unfold planBreak
  extract_lets refs claimed own droppable f items marked
  exact (armPlan_quiet e marked _).holds ∘
    ((claims_still e d refs).trans (Still.foldl (markProvisional_still e) items claimed)).holds

theorem planBreak_contexts (a : Announce) (entries : List (Fin 128)) (h : d.MayArm) :
    ContextLaw (d.planBreak e a entries).ch := by
  unfold planBreak
  extract_lets refs claimed own droppable f items marked
  have q : Quiet e d marked := ((claims_still e d refs).trans (Still.foldl (markProvisional_still e) items claimed)).toQuiet
  have may := h.quiet q
  exact marked.armPlan_contexts e _ may.law may.state may.held

theorem unplanned_holds (a : Announce) : HoldsKept e d (d.unplanned e a) := by
  unfold unplanned
  extract_lets policy _ recorded _
  have records : HoldsKept e d recorded := (record_still e d _).holds
  clear_value policy
  cases policy with
  | passNetwork => exact records
  | fill => exact (armPlan_quiet e recorded _).holds ∘ records

theorem unplanned_contexts (a : Announce) (h : d.MayArm) : ContextLaw (d.unplanned e a).ch := by
  unfold unplanned
  extract_lets policy _ recorded _
  have may : recorded.MayArm := h.quiet (record_still e d _).toQuiet
  clear_value policy
  cases policy with
  | passNetwork => exact may.law.quiet (e := e) (d := recorded) ⟨rfl, rfl, rfl, rfl, rfl, rfl, rfl, id, id⟩
  | fill => exact recorded.armPlan_contexts e _ may.law may.state may.held

theorem matchHead_holds (a : Announce) (fuel : Nat) : HoldsKept e d (d.matchHead e a fuel) := by
  induction fuel generalizing d with
  | zero => exact unplanned_holds e d a
  | succ fuel ih =>
    unfold matchHead
    split
    · split
      · split
        · next gathered => exact (planBreak_holds e _ a _) ∘ (gather_still e d gathered).holds
        · exact id
      · split
        · split
          · next gathered =>
            exact (ih _) ∘ (skipBreak_still e _ _ _).holds ∘ (gather_still e d gathered).holds
          · exact id
        · exact unplanned_holds e d a
    · exact unplanned_holds e d a

theorem matchHead_contexts (a : Announce) (fuel : Nat) (h : d.MayArm) : ContextLaw (d.matchHead e a fuel).ch := by
  induction fuel generalizing d with
  | zero => exact unplanned_contexts e d a h
  | succ fuel ih =>
    unfold matchHead
    split
    · split
      · split
        · next gathered => exact planBreak_contexts e _ a _ (h.quiet (gather_still e d gathered).toQuiet)
        · exact h.law
      · split
        · split
          · next gathered =>
            exact ih _ (h.quiet ((gather_still e d gathered).trans (skipBreak_still e _ _ _)).toQuiet)
          · exact h.law
        · exact unplanned_contexts e d a h
    · exact unplanned_contexts e d a h

theorem judgeTiming_holds (a : Announce) : HoldsKept e d (d.judgeTiming e a) := by
  unfold judgeTiming
  extract_lets stop early start
  split
  · exact (record_still e d _).holds
  · split
    · exact (record_still e d _).holds
    · exact matchHead_holds e d _ 129

theorem judgeTiming_contexts (a : Announce) (h : d.MayArm) : ContextLaw (d.judgeTiming e a).ch := by
  unfold judgeTiming
  extract_lets stop early start
  split
  · exact h.law.quiet (record_still e d _).toQuiet
  · split
    · exact h.law.quiet (record_still e d _).toQuiet
    · exact matchHead_contexts e d _ 129 h

theorem judgeFresh_holds (a : Announce) : HoldsKept e d (d.judgeFresh e a) := by
  unfold judgeFresh
  split
  · exact id
  · split
    · exact (record_still e d _).holds
    · split
      · split
        · exact id
        · exact (record_still e d _).holds
      · exact judgeTiming_holds e d a

/-- R71: an announce judged on a channel in service. -/
theorem judgeFresh_contexts (a : Announce) (h : ContextLaw d.ch) (inService : d.ch.state ≠ .bypass) :
    ContextLaw (d.judgeFresh e a).ch := by
  unfold judgeFresh
  split
  · exact h
  · split
    · exact h.quiet (record_still e d _).toQuiet
    · next elsewhere =>
      simp only [Bool.or_eq_true, decide_eq_true_eq, not_or, Option.not_isSome_iff_eq_none] at elsewhere
      obtain ⟨⟨notLoc, notBrk⟩, held⟩ := elsewhere
      split
      · next stop inHand =>
        split
        · have waits : d.ch.plan.isSome = true ∨ d.ch.state = .split := by
            rw [← h.split]
            unfold stopInHand at inHand
            split at inHand
            · next had => exact .inr (by simp [had])
            · next had => exact .inl (by simp [had])
            · cases inHand
          exact { split := h.split, brk := h.brk, window := h.window, plan := h.plan, held := h.held, single := h.single,
                  pending := fun _ => waits, filling := h.filling }
        · exact h.quiet (record_still e d _).toQuiet
      · next none_inHand =>
        have notSplit : d.ch.state ≠ .split := by
          rw [ne_eq, ← h.split, Option.not_isSome_iff_eq_none]
          unfold stopInHand at none_inHand
          split at none_inHand
          · cases none_inHand
          · cases none_inHand
          · assumption
        refine judgeTiming_contexts e d a ⟨h, ?_, held⟩
        unfold Channel.Open
        cases state : d.ch.state <;> simp_all

theorem judgeAnnounce_lawful (a : Announce) : Lawful e d (d.judgeAnnounce e a) := by
  unfold judgeAnnounce
  split
  · exact Lawful.refl e d
  · next inService =>
    split
    · exact ⟨fun h => judgeFresh_contexts e d a h inService, judgeFresh_holds e d a⟩
    · exact (record_still e d _).toQuiet.lawful

theorem processPending_holds : HoldsKept e d (d.processPending e) := by
  unfold processPending
  split
  · exact fun h => judgeFresh_holds e _ _ h
  · exact id

/-- R73: a pending announce taken out of its slot, where the channel is lawful without it. -/
theorem processPending_contexts (h : ContextLaw { d.ch with pending := none }) (inService : d.ch.state ≠ .bypass) :
    ContextLaw (d.processPending e).ch := by
  unfold processPending
  split
  · exact judgeFresh_contexts e _ _ h inService
  · next absent =>
    have same : ({ d.ch with pending := none } : Channel) = d.ch := by rw [← absent]
    rw [same] at h
    exact h

theorem cancelPlan_lawful {p : Plan} (had : d.ch.plan = some p) (k : FrameNo) : Lawful e d (d.cancelPlan e p k) := by
  unfold cancelPlan
  extract_lets freed cut _ dropped
  have q : Quiet e d cut := by
    refine Quiet.trans ?_ (cutWaiting_still e freed .cancelled _).toQuiet
    unfold freed
    split
    · exact (giveUpCandidate_still e d).toQuiet.trans (fillUnwanted_quiet e _)
    · exact Quiet.refl e d
  refine ⟨fun h => ?_, ?_⟩
  · have law := h.quiet q
    have state : cut.ch.Open := by
      refine law.plan ?_
      rw [q.plan, had]
      rfl
    have apart : cut.ch.state ≠ .split ∧ cut.ch.state ≠ .bypass := by
      rcases state with s | s <;> simp [s]
    have bare : ContextLaw { (dropped.splitCancelled e p.breakNo k).ch with pending := none } :=
      { split := law.split, brk := law.brk, window := law.window, plan := fun _ => state, held := law.held, single := .inl rfl,
        pending := fun waits => absurd waits (by simp), filling := law.filling }
    exact (processPending_contexts e _ bare apart.2).quiet (service_quiet e _)
  · exact (service_quiet e _).holds ∘ (processPending_holds e _) ∘ q.holds

theorem dropPending_contexts (h : ContextLaw d.ch) : ContextLaw { d.ch with pending := none } :=
  { split := h.split, brk := h.brk, window := h.window, plan := h.plan, held := h.held, single := h.single,
    pending := fun waits => absurd waits (by simp), filling := h.filling }

theorem judgeCancel_lawful (c : BreakNo) (k : FrameNo) : Lawful e d (d.judgeCancel e c k) := by
  unfold judgeCancel
  split
  · exact Lawful.refl e d
  · split
    · next found => exact cancelPlan_lawful e d (Option.eq_some_of_filter_eq_some found) k
    · next found => exact (cancelSplit_quiet e d (Option.eq_some_of_filter_eq_some found) k).lawful
    · exact ⟨fun h => dropPending_contexts d h, id⟩
    · exact (record_still e d _).toQuiet.lawful

end Desk

end Sys2Proof.Machine

/-! The rules of windows, requests, resync and the output period are lawful (`Lawful`). -/

namespace Sys2Proof.Machine

namespace Desk

variable (e : Env) (d : Desk)

/-! ### Windows (R63 to R66) -/

/-- The held window dropped. -/
theorem dropHeld_contexts (h : ContextLaw d.ch) : ContextLaw { d.ch with held := none, lastRing := none } :=
  { split := h.split, brk := h.brk, window := h.window, plan := h.plan, held := fun has => absurd has (by simp),
    single := .inr rfl, pending := h.pending, filling := h.filling }

theorem discardWindow_lawful : Lawful e d d.discardWindow := by
  unfold discardWindow
  split
  · exact Lawful.refl e d
  · extract_lets returned _
    have q : Quiet e d returned := by
      unfold returned
      split
      · exact ((returnPrepared_still e d .a).trans ((returnPrepared_still e _ .b).trans (giveUpCandidate_still e _))).toQuiet.trans
          (fillUnwanted_quiet e _)
      · exact Quiet.refl e d
    exact ⟨fun h => dropHeld_contexts returned (h.quiet q), q.holds⟩

theorem judgeWindowOpen_lawful (opens : FrameNo) (closes : Option FrameNo) : Lawful e d (d.judgeWindowOpen e opens closes) := by
  unfold judgeWindowOpen
  extract_lets repeated short _ held
  have ignored : ∀ r, Lawful e d (d.record e r) := fun r => (record_still e d r).toQuiet.lawful
  split
  · exact Lawful.refl e d
  split
  · exact Lawful.refl e d
  split
  · exact ignored _
  next mayHold =>
  split
  · exact ignored _
  split
  · exact ignored _
  simp only [Bool.or_eq_true, Bool.not_eq_true', not_or, committed, Option.not_isSome_iff_eq_none,
    Bool.or_eq_false_iff, decide_eq_false_iff_not, Classical.not_and_iff_not_or_not, not_not] at mayHold
  obtain ⟨state, plan, _⟩ := mayHold
  refine ⟨fun h => ContextLaw.quiet (windowPrimes_quiet e held) ?_, (windowPrimes_quiet e held).holds⟩
  exact { split := h.split, brk := h.brk, window := h.window, plan := h.plan, held := fun _ => state, single := .inl plan,
          pending := h.pending, filling := h.filling }

theorem judgeWindowClose_lawful (closes : FrameNo) : Lawful e d (d.judgeWindowClose e closes) := by
  unfold judgeWindowClose
  split
  · exact Lawful.refl e d
  · next had =>
    split
    · split
      · exact Lawful.refl e d
      · exact (record_still e d _).toQuiet.lawful
    · exact (setWindow_still e d had).toQuiet.lawful
  · next w had _ _ =>
    split
    · have q : Quiet e d { d with ch := { d.ch with held := some { w with closes := some closes } } } :=
        ⟨rfl, rfl, by simp [had], rfl, rfl, rfl, rfl, id, id⟩
      exact q.lawful
    · exact (discardWindow_lawful e d).trans ((record_still e _ _).toQuiet.trans (service_quiet e _)).lawful
  · exact (record_still e d _).toQuiet.lawful

theorem windowOpens_lawful : Lawful e d (d.windowOpens e) := by
  unfold windowOpens
  split
  · next w had =>
    split
    · next opens =>
      extract_lets before _ taken opened told
      simp only [opensNow, Bool.and_eq_true, Bool.or_eq_true, decide_eq_true_eq] at opens
      obtain ⟨_, state⟩ := opens
      have q : Quiet e opened told := by
        unfold told
        split
        · exact (record_still e opened _).toQuiet
        · exact Quiet.refl e opened
      have law : Lawful e d opened := by
        refine ⟨fun h => ?_, id⟩
        have apart : d.ch.state ≠ .split ∧ d.ch.state ≠ .brk := by
          rcases state with s | s <;> simp [s]
        have plan : d.ch.plan = none := h.single.resolve_right (by simp [had])
        exact Channel.inWindow (c := opened.ch) plan rfl (h.no_pending plan apart.1) (h.no_split apart.1)
          (h.no_brk apart.2) rfl rfl
      refine (law.trans q.lawful).trans ?_
      split
      · exact ((cutFill_still e told).trans (giveUpCandidate_still e _)).toQuiet.lawful
      · exact (candidateFollows_still e told).toQuiet.lawful
    · exact Lawful.refl e d
  · exact Lawful.refl e d

theorem windowEnds_lawful : Lawful e d (d.windowEnds e) := by
  unfold windowEnds
  split
  · next c ends =>
    split
    · have q : Quiet e d ((d.endSounding e).record e (note .windowEnd c)) :=
        ((endSounding_still e d).trans (record_still e _ _)).toQuiet
      refine ⟨fun h => ?_, (leaveInsert_holds e _) ∘ q.holds⟩
      have state : d.ch.state = .loc := by
        rw [← h.window]
        obtain ⟨w, had, _⟩ := Option.bind_eq_some_iff.mp ends
        rw [had]
        rfl
      have plan := h.no_plan (by simp [state])
      exact leaveInsert_rest e _ (q.plan_none plan) (q.held_none (h.no_held (by simp [state])))
        (q.pending_none (h.no_pending plan (by simp [state])))
    · exact Lawful.refl e d
  · exact Lawful.refl e d

/-! ### Requests -/

theorem toService_lawful (state : d.ch.state = .bypass) : Lawful e d (d.toService e) := by
  refine ⟨fun h => ContextLaw.quiet (service_quiet e _) ?_, (service_quiet e (d.setState .pass)).holds⟩
  have lone := h.lone (h.no_plan (by simp [state])) (h.no_held (by simp [state])) (by simp [state])
  exact Channel.Lone.atRest (c := (d.setState .pass).ch)
    ⟨lone.plan, lone.held, lone.pending, lone.split, lone.window⟩ (h.no_brk (by simp [state])) (.inr (.inl rfl))

theorem setBypass_lawful (may : d.mayBypass = true) : Lawful e d (d.setState .bypass) := by
  simp only [mayBypass, committed, Bool.and_eq_true, decide_eq_true_eq, Bool.not_eq_true', Bool.or_eq_false_iff,
    Option.isSome_eq_false_iff, Option.isNone_iff_eq_none] at may
  obtain ⟨⟨state, plan, held⟩, _⟩ := may
  refine ⟨fun h => ?_, id⟩
  have lone := h.lone plan held (by simp [state])
  exact Channel.Lone.atRest (c := (d.setState .bypass).ch)
    ⟨lone.plan, lone.held, lone.pending, lone.split, lone.window⟩ (h.no_brk (by simp [state])) (.inl rfl)

theorem clearDeck_still (sounding : Bool) (k : DeckId) : Still e d (d.clearDeck e sounding k) := by
  unfold clearDeck
  dsimp only
  split
  · exact endDeck_still e d k _
  · split
    · exact endDeck_still e d k _
    · exact Still.refl e d

theorem clearWaiting_still : Still e d (d.clearWaiting e) := by
  refine Still.foldl (fun d i => ?_) _ d
  split
  · exact Still.foldl (fun d r => settle_still e d r .cleared none) _ d
  · exact Still.refl e d

theorem clear_lawful : Lawful e d (d.clear e) := by
  unfold clear
  extract_lets stopped freed settled cleared _
  have still_stopped : Still e d stopped := Still.foldl (f := clearDeck e true) (fun d k => clearDeck_still e d true k) _ d
  have still_freed : Still e stopped freed := Still.foldl (f := clearDeck e false) (fun d k => clearDeck_still e d false k) _ stopped
  have still_settled : Still e freed settled :=
    Still.foldl (f := finishUnsounded e .cleared) (fun d r => finishUnsounded_still e d .cleared r) _ freed
  have still : Still e d cleared := ((still_stopped.trans still_freed).trans still_settled).trans (clearWaiting_still e settled)
  clear_value cleared
  exact ⟨fun _ => Channel.Vacant.atRest ⟨rfl, rfl, rfl, rfl, rfl⟩ rfl (.inl rfl), still.holds⟩

/-! ### Resync (R14) -/

theorem unplanItem_still (x : PlanItem) : Still e d (d.unplanItem x) := (unhold_still e d x.ref).trans (setItem_still e _ _ _)

theorem idlePlanned_still (p : Plan) (k : DeckId) : Still e d (idlePlanned p d k) := by
  unfold idlePlanned
  split
  · split
    · exact setDeck_still e d k _
    · exact Still.refl e d
  · exact Still.refl e d

/-- An abandoned plan and an abandoned announce leave no pending announce, and the rest in agreement. -/
theorem abandonPlans_lawful : Lawful e d ((d.abandonPlan e).abandonPending e) := by
  have planless : (ContextLaw d.ch → ContextLaw { (d.abandonPlan e).ch with pending := none }) ∧ HoldsKept e d (d.abandonPlan e) := by
    unfold abandonPlan
    split
    · exact ⟨fun h => dropPending_contexts d h, id⟩
    · next p _ =>
      extract_lets freed idled unplanned head _ _
      have q : Quiet e d unplanned := by
        have q_freed : Quiet e d freed := by
          unfold freed
          split
          · exact (giveUpCandidate_still e d).toQuiet.trans (fillUnwanted_quiet e _)
          · exact Quiet.refl e d
        exact q_freed.trans ((Still.foldl (fun d k => idlePlanned_still e d p k) _ freed).trans
          (Still.foldl (fun d x => unplanItem_still e d x) _ idled)).toQuiet
      refine ⟨fun h => ?_, q.holds⟩
      have law := h.quiet q
      exact { split := law.split, brk := law.brk, window := law.window, plan := fun has => absurd has Bool.false_ne_true,
              held := law.held, single := .inl rfl, pending := fun has => absurd has Bool.false_ne_true, filling := law.filling }
  obtain ⟨contexts, holds⟩ := planless
  unfold abandonPending
  split
  · next absent =>
    have same : ({ (d.abandonPlan e).ch with pending := none } : Channel) = (d.abandonPlan e).ch := by rw [← absent]
    rw [same] at contexts
    exact ⟨contexts, holds⟩
  · exact ⟨contexts, holds⟩

theorem abandonWindow_lawful : Lawful e d (d.abandonWindow e) := by
  unfold abandonWindow
  split
  · exact Lawful.refl e d
  · exact (discardWindow_lawful e d).trans (record_still e _ _).toQuiet.lawful

theorem timerOff_still : Still e d (d.timerOff e) := by
  unfold timerOff
  split
  · exact (setTimer_still e d none).trans (record_still e _ _)
  · exact Still.refl e d

theorem renumber_lawful (delta : FrameNo) : Lawful e d (d.renumber delta e) :=
  ((abandonPlans_lawful e d).trans (abandonWindow_lawful e _)).trans
    (((movePoints_still e _ delta).trans (timerOff_still e _)).toQuiet.trans (service_quiet e _)).lawful

theorem timerExpires_lawful : Lawful e d (d.timerExpires e) := by
  unfold timerExpires
  split
  · next t _ =>
    have set := (setTimer_still e d (rearmed e.pos t)).toQuiet.lawful
    dsimp only
    split
    · exact set.trans (trigger_lawful e _)
    · exact set
  · exact Lawful.refl e d

/-! ### The output period (log 5) -/

theorem endSplit_lawful {x : Split} (had : d.ch.split = some x) (reason : Reason) (position : FrameNo) (n : BitVec 32) :
    Lawful e d (d.endSplit e x reason position n) := by
  unfold endSplit
  have q : Quiet e d ((d.endSounding e).breakEnded e x.breakNo reason position n) :=
    ((endSounding_still e d).trans (record_still e _ _)).toQuiet
  refine ⟨fun h => ?_, (processPending_holds e _) ∘ (leaveInsert_holds e _) ∘ q.holds⟩
  have state : d.ch.state = .split := by
    rw [← h.split, had]
    rfl
  obtain ⟨left, rest⟩ := leaveInsert_vacant e ((d.endSounding e).breakEnded e x.breakNo reason position n)
    (q.plan_none (h.no_plan (by simp [state]))) (q.held_none (h.no_held (by simp [state])))
  refine processPending_contexts e _ (Channel.Vacant.atRest ⟨left.plan, left.held, left.split, left.brk, left.window⟩ rfl (.inr rest)) ?_
  rcases rest with s | s <;> simp [s]

theorem splitEnds_lawful : Lawful e d (d.splitEnds e) := by
  unfold splitEnds
  split
  · next had =>
    split
    · exact endSplit_lawful e d had _ _ _
    · split
      · exact endSplit_lawful e d had _ _ _
      · exact Lawful.refl e d
  · exact Lawful.refl e d

theorem splitStarts_lawful : Lawful e d (d.splitStarts e) := by
  unfold splitStarts
  split
  · next p had =>
    split
    · next starts =>
      simp only [Bool.and_eq_true, Bool.or_eq_true, decide_eq_true_eq] at starts
      obtain ⟨_, state⟩ := starts
      unfold startSplit
      extract_lets told cut freed items _ written split _ entered
      have q : Quiet e d written := by
        have q_told : Quiet e d told := by
          unfold told
          split
          · exact (record_still e d _).toQuiet
          · exact Quiet.refl e d
        have q_freed : Quiet e cut freed := by
          unfold freed
          split
          · exact Quiet.refl e cut
          · exact (giveUpCandidate_still e cut).toQuiet
        exact (q_told.trans (cutFill_still e told).toQuiet).trans (q_freed.trans (record_still e freed _).toQuiet)
      have law : Lawful e written (entered.setState .split) := by
        refine ⟨fun h => ?_, id⟩
        have open' : written.ch.Open := Channel.Open.quiet q state
        have apart : written.ch.state ≠ .brk ∧ written.ch.state ≠ .loc := by
          rcases open' with s | s <;> simp [s]
        have held : written.ch.held = none := by
          refine h.single.resolve_left (fun absent => ?_)
          have armed := q.plan
          simp [absent, had] at armed
        exact Channel.inSplit (c := (entered.setState .split).ch) rfl held (h.no_brk apart.1) (h.no_window apart.2) rfl rfl rfl
      exact (q.lawful.trans law).trans (Still.foldl (fun d x => settleProvisional_still e d p.breakNo x) p.items _).toQuiet.lawful
    · exact Lawful.refl e d
  · exact Lawful.refl e d

/-- A change between PASS and FALLBACK. -/
theorem setState_lawful {x : ChannelState} (from' : d.ch.Open) (dest : x = .pass ∨ x = .fallback) : Lawful e d (d.setState x) := by
  refine ⟨fun h => ?_, id⟩
  have apart : d.ch.state ≠ .split ∧ d.ch.state ≠ .brk ∧ d.ch.state ≠ .loc := by
    rcases from' with s | s <;> simp [s]
  obtain ⟨out_split, out_brk, out_loc⟩ := apart
  have split := h.no_split out_split
  have brk := h.no_brk out_brk
  have window := h.no_window out_loc
  exact { split := by rcases dest with s | s <;> simp [setState, s, split]
          brk := by rcases dest with s | s <;> simp [setState, s, brk]
          window := by rcases dest with s | s <;> simp [setState, s, window]
          plan := fun _ => dest, held := fun _ => dest, single := h.single
          pending := fun has => .inl ((h.pending has).resolve_right out_split)
          filling := h.filling }

theorem exitFade_still (f : Nat) (k : DeckId) : Still e d (d.exitFade f k) := by
  unfold exitFade
  dsimp only
  split
  · exact setRamp_still e d k _
  · exact Still.refl e d

theorem feedTest_lawful : Lawful e d (d.feedTest e) := by
  unfold feedTest
  split
  · next state =>
    split
    · exact (setState_lawful e d (.inl state) (.inr rfl)).trans (record_still e _ _).toQuiet.lawful
    · exact Lawful.refl e d
  · next state =>
    split
    · unfold leaveFallback
      extract_lets called faded
      have q : Still e (d.setState .pass) faded :=
        (noFillCalled_still e _).trans (Still.foldl (fun t k => exitFade_still e t _ k) _ called)
      exact (setState_lawful e d (.inr state) (.inl rfl)).trans
        (q.trans ((giveUpCandidate_still e faded).trans (record_still e _ _))).toQuiet.lawful
    · exact Lawful.refl e d
  · exact Lawful.refl e d

theorem periodEnds_lawful : Lawful e d (d.periodEnds e) :=
  (((releases_quiet e d).lawful.trans (breakEnds_lawful e _)).trans (splitEnds_lawful e _)).trans (windowEnds_lawful e _)

theorem periodOpens_lawful : Lawful e d (d.periodOpens e) :=
  ((splitStarts_lawful e d).trans (windowOpens_lawful e _)).trans (feedTest_lawful e _)

theorem periodFades_quiet : Quiet e d (d.periodFades e) :=
  ((planPrimes_quiet e d).trans (windowPrimes_quiet e _)).trans
    ((splitCloses_quiet e _).trans ((breakCloses_still e _).toQuiet.trans (windowCloses_quiet e _)))

end Desk

end Sys2Proof.Machine

/-! The output period of a channel is lawful (log 5): between the exhaustion of a split and the loading at the end of the period
the split may owe its first choice of fill. -/

namespace Sys2Proof.Machine

/-- The channel with the choice that its split owes taken as made. -/
def Channel.owed (c : Channel) : Channel :=
  { c with split := c.split.map (fun x => ({ x with wantFill := false } : Split)) }

@[simp] theorem Channel.owed_choosing (c : Channel) : c.owed.choosing = false := by
  cases h : c.split <;> simp [Channel.owed, Channel.choosing, h]

/-- The law within an output period: the split may owe its first choice of fill (R86), but not behind a fill wait. -/
structure Channel.Midway (c : Channel) : Prop where
  owed : ContextLaw c.owed
  choice : c.choosing = true → c.fill.wait = false

theorem ContextLaw.midway {c : Channel} (h : ContextLaw c) : c.Midway where
  owed := h.transport rfl rfl rfl rfl (by simp [Channel.owed]) rfl rfl c.owed_choosing
  choice := fun chooses => absurd chooses (Bool.eq_false_iff.mp h.filling)

theorem Channel.Midway.law {c : Channel} (h : c.Midway) (settled : c.choosing = false) : ContextLaw c :=
  h.owed.transport rfl rfl rfl rfl (by simp [Channel.owed]) rfl rfl settled

theorem Channel.Midway.still {e : Env} {d d' : Desk} (q : Still e d d') (h : d.ch.Midway) : d'.ch.Midway where
  owed := h.owed.transport q.state q.plan q.held q.pending (by simp [Channel.owed, q.split]) q.brk q.window
    d'.ch.owed_choosing
  choice := fun chooses => q.wait.trans (h.choice (q.choosing chooses))

/-- A split that owes its first choice stands in SPLIT. -/
theorem Channel.Midway.choosing_state {c : Channel} (h : c.Midway) (chooses : c.choosing = true) : c.state = .split := by
  refine h.owed.split.mp ?_
  unfold Channel.choosing at chooses
  obtain ⟨x, had, _⟩ := Option.any_eq_true _ _ |>.mp chooses
  simp [Channel.owed, had]

namespace Desk

variable (e : Env) (d : Desk)

theorem splitExhausted_midway (h : ContextLaw d.ch) : (d.splitExhausted e).ch.Midway := by
  unfold splitExhausted
  split
  · next x had =>
    split
    · split
      · split
        · have q := (setSplit_still e d had (y := { x with phase := .fill, wantFill := false }) (.inr rfl)).trans
            (candidateFollows_still e _)
          exact (h.quiet q.toQuiet).midway
        · refine ⟨h.transport rfl rfl rfl rfl ?_ rfl rfl (Channel.owed_choosing _), fun _ => rfl⟩
          rw [had]
          rfl
      · have q := (setSplit_still e d had (y := { x with phase := .pad, wantFill := false }) (.inr rfl)).trans
          (giveUpCandidate_still e _)
        exact (h.quiet (q.toQuiet.trans (noFillWait_quiet e _))).midway
    · exact h.midway
  · exact h.midway

theorem splitExhausted_holds : HoldsKept e d (d.splitExhausted e) := by
  unfold splitExhausted
  split
  · split
    · split
      · split
        · exact fun h => (candidateFollows_still e _).holds h
        · exact id
      · exact fun h => (giveUpCandidate_still e _).holds h
    · exact id
  · exact id

theorem timerExpires_midway (h : d.ch.Midway) : (d.timerExpires e).ch.Midway := by
  cases chooses : d.ch.choosing with
  | false => exact ((timerExpires_lawful e d).contexts (h.law chooses)).midway
  | true =>
    have state := h.choosing_state chooses
    have busy : ∀ t : Desk, t.ch.state = .split → ∃ r, t.trigger e = t.record e r := by
      intro t split
      simp only [trigger, split]
      exact ⟨_, rfl⟩
    unfold timerExpires
    split
    · next timer _ =>
      have set := h.still (setTimer_still e d (rearmed e.pos timer))
      dsimp only
      split
      · obtain ⟨r, eq⟩ := busy { d with ch := { d.ch with timer := rearmed e.pos timer } } state
        rw [eq]
        exact set.still (record_still e _ r)
      · exact set
    · exact h

/-- What is loaded at the end of the period makes the choice that a split owes. -/
theorem serviceAs_contexts (opening : Bool) (h : d.ch.Midway) : ContextLaw (d.serviceAs opening e).ch := by
  cases chooses : d.ch.choosing with
  | false => exact (h.law chooses).quiet (serviceAs_quiet e d opening)
  | true =>
    have state := h.choosing_state chooses
    have wait := h.choice chooses
    obtain ⟨x, had, owes⟩ := Option.any_eq_true _ _ |>.mp chooses
    simp only [Bool.and_eq_true, decide_eq_true_eq] at owes
    obtain ⟨phase, want⟩ := owes
    have served : d.serviceAs opening e = (d.setSplit { x with wantFill := false }).chooseFill e .following := by
      simp [serviceAs, state, had, serviceSplit, phase, want, wait]
    rw [served]
    have made : ContextLaw (d.setSplit { x with wantFill := false }).ch := by
      have eq : (d.setSplit { x with wantFill := false }).ch = d.ch.owed := by simp [setSplit, Channel.owed, had]
      rw [eq]
      exact h.owed
    exact made.quiet (chooseFill_quiet e _ .following)

theorem period_lawful : Lawful e d (d.period e) := by
  unfold period
  extract_lets ends retry
  have opened : Lawful e d ((ends.periodOpens e).periodFades e) :=
    ((periodEnds_lawful e d).trans (periodOpens_lawful e ends)).trans (periodFades_quiet e _).lawful
  have timed : ∀ t, HoldsKept e t (((t.splitExhausted e).starts e).timerExpires e) := fun t =>
    (timerExpires_lawful e _).holds ∘ (starts_still e _).holds ∘ (splitExhausted_holds e t)
  refine ⟨fun h => ?_, (serviceAs_quiet e _ retry).holds ∘ (timed _) ∘ opened.holds⟩
  exact serviceAs_contexts e _ retry
    (timerExpires_midway e _ ((splitExhausted_midway e _ (opened.contexts h)).still (starts_still e _)))

theorem emitAbandon_lawful : Lawful e d (d.emit.abandonDecks e) :=
  ((emit_still e d).toQuiet.trans (abandon_quiet e _ _)).lawful

end Desk

end Sys2Proof.Machine

/-! What a step keeps: the relation `Keeps` between a state and its next, and one lemma for each change of a block. -/

namespace Sys2Proof.Machine

/-! ### Each law reads its own blocks -/

theorem LogLaw.of_eq {s t : State} (log : t.log = s.log) (ret : t.ret.inFlight = s.ret.inFlight) (h : LogLaw s) : LogLaw t := by
  obtain ⟨ordered, size, numbered, placed, inFlight⟩ := h
  constructor <;> rw [log] <;> first | assumption | skip
  rw [ret]
  exact inFlight

theorem ReturnLaw.of_eq {s t : State} (ret : t.ret = s.ret) (h : ReturnLaw s) : ReturnLaw t := by
  obtain ⟨queue, answer, carrier⟩ := h
  constructor <;> rw [ret] <;> assumption

theorem FlashLaw.of_eq {s t : State} (flash : t.flash = s.flash) (h : FlashLaw s) : FlashLaw t := by
  unfold FlashLaw
  rw [flash]
  exact h

/-- The laws of the Feed Monitor and of the delay line together: each lock changes both blocks. -/
def FeedLaws (s : State) : Prop := FeedLaw s ∧ DelayLineLaw s

theorem FeedLaws.of_eq {s t : State} (time : t.time = s.time) (feed : t.feed = s.feed) (h : FeedLaws s) : FeedLaws t := by
  obtain ⟨⟨last, idle, lossWait, unlocked, broken⟩, ⟨position, locked, slots, delay⟩⟩ := h
  constructor
  · constructor <;> rw [feed] <;> assumption
  · constructor <;> rw [time] <;> first | assumption | skip
    rw [feed]
    exact locked

theorem PortLaw.of_eq {s t : State} (arbiter : t.arbiter = s.arbiter) (h : PortLaw s) : PortLaw t := by
  obtain ⟨held, reads⟩ := h
  constructor <;> rw [arbiter] <;> assumption

theorem FilterLaw.of_eq {s t : State} (filter : t.intake.filter = s.intake.filter) (h : FilterLaw s) : FilterLaw t := by
  obtain ⟨fixed, others⟩ := h
  constructor <;> rw [filter] <;> assumption

theorem HoldLaw.of_eq {s t : State} (store : t.store = s.store) (h : HoldLaw s) : HoldLaw t := by
  obtain ⟨held, scanning, scanned, loading⟩ := h
  constructor <;> rw [store] <;> assumption

theorem OutputLaw.of_eq {s t : State} (outputs : t.outputs = s.outputs) (h : OutputLaw s) : OutputLaw t := by
  unfold OutputLaw
  rw [outputs]
  exact h

def ChannelLaws (s : State) : Prop := ∀ n, ContextLaw (s.channels.get n)

theorem ChannelLaws.of_eq {s t : State} (channels : t.channels = s.channels) (h : ChannelLaws s) : ChannelLaws t := by
  unfold ChannelLaws
  rw [channels]
  exact h

def WatchLaws (s : State) : Prop := ∀ i, WatchLaw (s.watches.get i)

theorem WatchLaws.of_eq {s t : State} (watches : t.watches = s.watches) (h : WatchLaws s) : WatchLaws t := by
  unfold WatchLaws
  rw [watches]
  exact h

/-! ### The relation -/

/-- The next state has the commands still waiting, and each law that the state before has. -/
structure Keeps (s t : State) : Prop where
  pending : t.pending = s.pending
  log : LogLaw s → LogLaw t
  ret : ReturnLaw s → ReturnLaw t
  flash : FlashLaw s → FlashLaw t
  feed : FeedLaws s → FeedLaws t
  watches : WatchLaws s → WatchLaws t
  port : PortLaw s → PortLaw t
  filter : FilterLaw s → FilterLaw t
  holds : HoldLaw s → HoldLaw t
  channels : ChannelLaws s → ChannelLaws t
  outputs : OutputLaw s → OutputLaw t

theorem Keeps.refl (s : State) : Keeps s s := ⟨rfl, id, id, id, id, id, id, id, id, id, id⟩

theorem Keeps.trans {s t u : State} (h : Keeps s t) (k : Keeps t u) : Keeps s u :=
  ⟨k.pending.trans h.pending, k.log ∘ h.log, k.ret ∘ h.ret, k.flash ∘ h.flash, k.feed ∘ h.feed, k.watches ∘ h.watches,
    k.port ∘ h.port, k.filter ∘ h.filter, k.holds ∘ h.holds, k.channels ∘ h.channels, k.outputs ∘ h.outputs⟩

theorem Keeps.ite {s a b : State} {p : Prop} [Decidable p] (yes : p → Keeps s a) (no : ¬ p → Keeps s b) :
    Keeps s (if p then a else b) := by
  split
  · next h => exact yes h
  · next h => exact no h

theorem Keeps.foldl {α : Type} {f : State → α → State} (step : ∀ s x, Keeps s (f s x)) (l : List α) (s : State) :
    Keeps s (l.foldl f s) := by
  induction l generalizing s with
  | nil => exact Keeps.refl s
  | cons x l ih => exact (step s x).trans (ih (f s x))

variable (s : State)

/-! ### One block changed -/

theorem keeps_time_feed {time : Timebase} {feed : Feed}
    (h : FeedLaws s → FeedLaws { s with time := time, feed := feed }) : Keeps s { s with time := time, feed := feed } :=
  ⟨rfl, .of_eq rfl rfl, .of_eq rfl, .of_eq rfl, h, .of_eq rfl, .of_eq rfl, .of_eq rfl, .of_eq rfl, .of_eq rfl, .of_eq rfl⟩

theorem keeps_setWatch (i : Fin 5) {w : Watch} (h : WatchLaw (s.watches.get i) → WatchLaw w) : Keeps s (s.setWatch i w) := by
  refine ⟨rfl, .of_eq rfl rfl, .of_eq rfl, .of_eq rfl, .of_eq rfl rfl, fun laws j => ?_, .of_eq rfl, .of_eq rfl, .of_eq rfl,
    .of_eq rfl, .of_eq rfl⟩
  rw [State.setWatch_watches, get_put]
  split
  · exact h (laws i)
  · exact laws j

theorem keeps_setStore {t : Store} (h : HoldLaw s → HoldLaw (s.setStore t)) : Keeps s (s.setStore t) :=
  ⟨rfl, .of_eq rfl rfl, .of_eq rfl, .of_eq rfl, .of_eq rfl rfl, .of_eq rfl, .of_eq rfl, .of_eq rfl, h, .of_eq rfl, .of_eq rfl⟩

theorem keeps_arbiter {x : Arbiter} (h : PortLaw s → PortLaw { s with arbiter := x }) : Keeps s { s with arbiter := x } :=
  ⟨rfl, .of_eq rfl rfl, .of_eq rfl, .of_eq rfl, .of_eq rfl rfl, .of_eq rfl, h, .of_eq rfl, .of_eq rfl, .of_eq rfl, .of_eq rfl⟩

theorem keeps_flash {m : Flash} {fresh : Nat} (h : Flash.wf s.flash = true → Flash.wf m = true) :
    Keeps s { s with flash := m, fresh := fresh } :=
  ⟨rfl, .of_eq rfl rfl, .of_eq rfl, h, .of_eq rfl rfl, .of_eq rfl, .of_eq rfl, .of_eq rfl, .of_eq rfl, .of_eq rfl, .of_eq rfl⟩

theorem keeps_lines {x : Lines} : Keeps s { s with lines := x } :=
  ⟨rfl, .of_eq rfl rfl, .of_eq rfl, .of_eq rfl, .of_eq rfl rfl, .of_eq rfl, .of_eq rfl, .of_eq rfl, .of_eq rfl, .of_eq rfl,
    .of_eq rfl⟩

theorem keeps_intake {x : Intake} (h : FilterLaw s → FilterLaw { s with intake := x }) : Keeps s { s with intake := x } :=
  ⟨rfl, .of_eq rfl rfl, .of_eq rfl, .of_eq rfl, .of_eq rfl rfl, .of_eq rfl, .of_eq rfl, h, .of_eq rfl, .of_eq rfl, .of_eq rfl⟩

theorem keeps_outputs {x : Vector Composer 4} (h : OutputLaw s → OutputLaw { s with outputs := x }) :
    Keeps s { s with outputs := x } :=
  ⟨rfl, .of_eq rfl rfl, .of_eq rfl, .of_eq rfl, .of_eq rfl rfl, .of_eq rfl, .of_eq rfl, .of_eq rfl, .of_eq rfl, .of_eq rfl, h⟩

/-- The return link and the log changed together. -/
theorem keeps_ret_log {ret : ReturnLink} {log : Log} (hl : LogLaw s → LogLaw { s with ret := ret, log := log })
    (hr : ReturnLaw s → ReturnLaw { s with ret := ret, log := log }) : Keeps s { s with ret := ret, log := log } :=
  ⟨rfl, hl, hr, .of_eq rfl, .of_eq rfl rfl, .of_eq rfl, .of_eq rfl, .of_eq rfl, .of_eq rfl, .of_eq rfl, .of_eq rfl⟩

/-- A channel replaced by one that the law of the contexts cannot tell from it. -/
theorem keeps_withChannel (n : Fin 4) {c : Channel} (h : ContextLaw (s.channels.get n) → ContextLaw c) :
    Keeps s (s.withChannel n c) := by
  refine ⟨rfl, .of_eq rfl rfl, .of_eq rfl, .of_eq rfl, .of_eq rfl rfl, .of_eq rfl, .of_eq rfl, .of_eq rfl, .of_eq rfl,
    fun laws m => ?_, .of_eq rfl⟩
  change ContextLaw ((put s.channels n c).get m)
  rw [get_put]
  split
  · exact h (laws n)
  · exact laws m

/-! ### Records and answers -/

theorem LogLaw.append {s : State} (h : LogLaw s) (r : Record) : LogLaw (s.append r) := by
  have points : s.log.pointsLaw := ⟨h.ordered.1, h.ordered.2, h.size⟩
  obtain ⟨order, sent, size⟩ := s.log.append_pointsLaw r points
  obtain ⟨release, write⟩ := h.numbered
  exact {
    ordered := ⟨order, sent⟩
    size := size
    numbered := ⟨release.trans (s.log.append_release r), s.log.append_write r write⟩
    placed := s.log.append_placedLaw r points h.placed
    inFlight := fun x flying => (h.inFlight x flying).trans_le (s.log.append_send r) }

theorem keeps_append (r : Record) : Keeps s (s.append r) :=
  ⟨rfl, fun h => h.append r, .of_eq rfl, .of_eq rfl, .of_eq rfl rfl, .of_eq rfl, .of_eq rfl, .of_eq rfl, .of_eq rfl,
    .of_eq rfl, .of_eq rfl⟩

theorem keeps_appendAll (rs : List Record) : Keeps s (s.appendAll rs) := by
  refine ⟨rfl, fun h => ?_, .of_eq rfl, .of_eq rfl, .of_eq rfl rfl, .of_eq rfl, .of_eq rfl, .of_eq rfl, .of_eq rfl,
    .of_eq rfl, .of_eq rfl⟩
  exact Log.appendAll_induct (fun l => LogLaw { s with log := l }) (fun _ r law => law.append r) s.log rs h

theorem keeps_answer (tag kind : BitVec 16) (code : ResultCode) (payload : Payload) :
    Keeps s (s.answer tag kind code payload) := by
  refine ⟨rfl, .of_eq rfl (by simp), fun h => ⟨?_, ?_, ?_⟩, .of_eq rfl, .of_eq rfl rfl, .of_eq rfl, .of_eq rfl, .of_eq rfl,
    .of_eq rfl, .of_eq rfl, .of_eq rfl⟩
  · exact ReturnLink.enqueue_length _ _ h.queue
  · intro flying
    rw [State.answer_ret, ReturnLink.enqueue_inFlight] at flying
    exact ReturnLink.enqueue_nonempty _ _ (h.answer flying)
  · intro lost
    rw [State.answer_ret, ReturnLink.enqueue_carrier] at lost
    rw [State.answer_ret, ReturnLink.enqueue_inFlight]
    exact h.carrier lost

/-! ### Channel rules -/

/-- A lawful rule taken on a channel. -/
theorem keeps_onChannel (n : Fin 4) {rule : Env → Desk → Desk} (h : Lawful (s.env n) (s.desk n) (rule (s.env n) (s.desk n))) :
    Keeps s (s.onChannel n rule) := by
  refine ⟨rfl, fun law => ?_, .of_eq rfl, .of_eq rfl, .of_eq rfl rfl, .of_eq rfl, .of_eq rfl, .of_eq rfl, fun law => ?_,
    fun laws m => ?_, .of_eq rfl⟩
  · exact ((keeps_appendAll s (rule (s.env n) (s.desk n)).out).log law).of_eq (s := s.appendAll (rule (s.env n) (s.desk n)).out) rfl rfl
  · exact { held := h.holds law.held, scanning := law.scanning, scanned := law.scanned, loading := law.loading }
  · by_cases same : n = m
    · subst same
      rw [State.onChannel_channel]
      exact h.contexts (laws n)
    · rw [State.onChannel_other s n m rule same]
      exact laws m

theorem keeps_onOutputs (address : Address) {rule : Env → Desk → Desk} (h : ∀ e d, Lawful e d (rule e d)) :
    Keeps s (s.onOutputs address rule) :=
  State.onOutputs_induct (Keeps s) address rule (fun t n k => k.trans (keeps_onChannel t n (h _ _))) s (Keeps.refl s)

theorem keeps_onChannels {rule : Env → Desk → Desk} (h : ∀ e d, Lawful e d (rule e d)) : Keeps s (s.onChannels rule) :=
  State.onChannels_induct (Keeps s) rule (fun t n k => k.trans (keeps_onChannel t n (h _ _))) s (Keeps.refl s)

theorem keeps_cartReady : Keeps s s.cartReady := keeps_onChannels s (fun e d => (Desk.retryFill_quiet e d).lawful)

theorem keeps_atPart (address : Address) {act : State → State} (h : Keeps s (act s)) : Keeps s (s.atPart address act) :=
  Keeps.ite (fun _ => h) (fun _ => Keeps.refl s)

/-! ### The part reset (R210, R211) -/

theorem get_replicate {α : Type} {n : Nat} (x : α) (i : Fin n) : (Vector.replicate n x).get i = x := by simp [Vector.get]

theorem logLaw_afterReset {s : State} {c : ResetCause} (log : s.log = Log.afterReset c) (ret : s.ret.inFlight = none) : LogLaw s where
  ordered := by rw [log]; exact ⟨le_rfl, Nat.le_succ 1⟩
  size := by rw [log]; change 2 - 1 ≤ 512; omega
  numbered := by rw [log]; exact ⟨le_rfl, by change 2 ≤ 0xFFFFFFFF; omega⟩
  placed := by
    intro n low high
    rw [log] at low high ⊢
    change 1 ≤ n at low
    change n < 2 at high
    have one : n = 1 := by omega
    subst one
    refine ⟨Record.restart c, ?_, rfl⟩
    change ((Vector.replicate 512 none).set 1 (some (Record.restart c)))[1] = _
    simp
  inFlight := by
    intro r flying
    rw [ret] at flying
    cases flying

theorem serialAddress_ne_broadcast : Config.serialAddress ≠ Config.broadcast := by
  intro same
  have bound := Config.serial.isLt
  have value := congrArg BitVec.toNat same
  simp only [Config.serialAddress, Config.broadcast, BitVec.toNat_ofNat] at value
  omega

theorem filterLaw_reset {s : State} (intake : s.intake = Intake.reset) : FilterLaw s where
  fixed := by rw [intake]; rfl
  others := by
    intro i e used
    rw [intake] at used
    change ((put (Vector.replicate 16 none) 0 _).get i) = some e at used
    rw [get_put, get_replicate] at used
    split at used
    · cases used
      exact ⟨serialAddress_ne_broadcast, .inl rfl⟩
    · cases used

theorem holdLaw_reset {s : State} (store : s.store = Store.reset) : HoldLaw s where
  held := by
    intro c
    rw [store]
    change (Vector.replicate 1024 0).get c ≤ 255 ∧ ((Vector.replicate 1024 0).get c ≠ 0 → _)
    rw [get_replicate]
    exact ⟨Nat.zero_le _, fun h => absurd rfl h⟩
  scanning := by
    intro _ c
    rw [store]
    change ((Vector.replicate 1024 CatalogEntry.empty).get c).state = _
    rw [get_replicate]
    rfl
  scanned := by
    intro done
    rw [store] at done
    cases done
  loading := by
    intro c
    rw [store]
    change ((Vector.replicate 1024 CatalogEntry.empty).get c).state = _ ↔ ∃ d, none = some d ∧ _
    rw [get_replicate]
    simp [CatalogEntry.empty]

/-- R211: the values after a part reset have every law, over a media store in canonical form. -/
theorem safe_afterReset (c : ResetCause) (pending : List Instr) {flash : Flash} (carrier : Bool) (lines : Lines) (fresh : Nat)
    (wf : Flash.wf flash = true) : Safe (State.afterReset c pending flash carrier lines fresh) where
  log := logLaw_afterReset rfl rfl
  ret := { queue := Nat.zero_le _, answer := fun flying => (by cases flying), carrier := fun _ => rfl }
  flash := wf
  time := { position := fun has => absurd has Bool.false_ne_true
            locked := ⟨fun has => absurd has Bool.false_ne_true, fun has => absurd rfl has⟩
            slots := by
              intro i x has
              change (Vector.replicate 512 none).get i = some x at has
              rw [get_replicate] at has
              cases has
            delay := ⟨by change 32 ≤ 250; omega, by change 250 ≤ 500; omega⟩ }
  feed := { last := ⟨fun has => absurd has Bool.false_ne_true, fun has => absurd rfl has⟩
            idle := Nat.zero_le _
            lossWait := ⟨by change 5 ≤ 25; omega, by change 25 ≤ 250; omega⟩
            unlocked := fun _ => rfl
            broken := fun has => (by rcases has with has | has <;> cases has) }
  watches i := by
    change WatchLaw ((Vector.replicate 5 Watch.reset).get i)
    rw [get_replicate]
    constructor <;> simp [Watch.reset]
  port := by
    refine ⟨fun t held => (by cases held), fun b busy => ?_⟩
    change (Vector.replicate 4 none).get b = _ at busy
    rw [get_replicate] at busy
    cases busy
  filter := filterLaw_reset rfl
  holds := holdLaw_reset rfl
  channels n := by
    change ContextLaw ((Vector.replicate 4 Channel.reset).get n)
    rw [get_replicate]
    exact Channel.Vacant.atRest ⟨rfl, rfl, rfl, rfl, rfl⟩ rfl (.inl rfl)
  outputs n o emitted := by
    change ((Vector.replicate 4 Composer.reset).get n).emitted = some o at emitted
    rw [get_replicate] at emitted
    cases emitted

/-- From any state to a safe one over another media store. -/
theorem Safe.keeps {s b : State} (h : Safe b) {m : Flash} (pending : b.pending = s.pending)
    (settled : FlashLaw s → Flash.wf m = true) : Keeps s { b with flash := m } :=
  ⟨pending, fun _ => .of_eq (s := b) rfl rfl h.log, fun _ => .of_eq (s := b) rfl h.ret, settled,
    fun _ => .of_eq (s := b) rfl rfl ⟨h.feed, h.time⟩, fun _ => .of_eq (s := b) rfl h.watches, fun _ => .of_eq (s := b) rfl h.port,
    fun _ => .of_eq (s := b) rfl h.filter, fun _ => .of_eq (s := b) rfl h.holds, fun _ => .of_eq (s := b) rfl h.channels,
    fun _ => .of_eq (s := b) rfl h.outputs⟩

/-- R169, R171: the operations of the four banks leave the media store in its canonical form. -/
theorem keeps_partReset (cause : ResetCause) : Keeps s (s.partReset cause) := by
  unfold State.partReset
  extract_lets ops flash
  have settled : FlashLaw s → Flash.wf flash = true := fun h =>
    Flash.settle_wf _ _ _ (Flash.settle_wf _ _ _ (Flash.settle_wf _ _ _ (Flash.settle_wf _ _ _ h)))
  exact (safe_afterReset cause s.pending (flash := []) s.ret.carrier _ _ rfl).keeps rfl settled

end Sys2Proof.Machine

/-! The feed, its delay line and the level watches keep every law (chapter 1), and so does an output period. -/

namespace Sys2Proof.Machine

variable (s : State)

/-! ### Watches (R20 to R22) -/

theorem WatchLaw.ended {w : Watch} (h : WatchLaw w) : WatchLaw w.ended :=
  { disabled := fun _ => ⟨rfl, rfl⟩, tripped := fun has => absurd has Bool.false_ne_true
    first := by simp [Watch.ended], settings := h.settings }

theorem WatchLaw.lengthen {w : Watch} (h : WatchLaw w) (enabled : w.enabled = true) (x : FrameNo) (depth : Nat) :
    WatchLaw (w.lengthen x depth) := by
  unfold Watch.lengthen
  split
  · next none_yet =>
    exact { disabled := fun off => absurd (off.symm.trans enabled) Bool.false_ne_true
            tripped := fun has => absurd none_yet (h.tripped has)
            first := by simp, settings := h.settings }
  · next run =>
    have more : satInc w.run ≠ 0 := by
      unfold satInc
      split <;> omega
    exact { disabled := fun off => absurd (off.symm.trans enabled) Bool.false_ne_true
            tripped := fun _ => more
            first := ⟨fun _ => more, fun _ => h.first.mpr run⟩, settings := h.settings }

theorem WatchLaw.trip {w : Watch} (h : WatchLaw w) (due : w.due = true) : WatchLaw { w with tripped := true } := by
  simp only [Watch.due, Bool.and_eq_true, decide_eq_true_eq] at due
  obtain ⟨⟨⟨enabled, _⟩, run⟩, _⟩ := due
  exact { disabled := fun off => absurd (off.symm.trans enabled) Bool.false_ne_true, tripped := fun _ => run, first := h.first
          settings := h.settings }

/-! ### The feed break record (R15) -/

/-- A feed state with the laws: broken in LOST and SILENT, with a newest frame once locked. -/
theorem FeedLaws.setFeed {s : State} (h : FeedLaws s) {feed : Feed} (last : feed.last = s.feed.last)
    (idle : feed.idle = s.feed.idle) (wait : feed.lossWait = s.feed.lossWait) (locks : s.feed.state ≠ .noLock)
    (state : feed.state ≠ .noLock)
    (broken : feed.state = .lost ∨ feed.state = .silent → ∃ b, feed.brk = some b ∧ b.resume = none) :
    FeedLaws { s with feed := feed } :=
  ⟨{ last := by change feed.last.isSome = true ↔ feed.state ≠ .noLock
                rw [last]
                exact ⟨fun _ => state, fun _ => h.1.last.mpr locks⟩
     idle := by change feed.idle ≤ 250; rw [idle]; exact h.1.idle
     lossWait := by change 5 ≤ feed.lossWait ∧ feed.lossWait ≤ 250; rw [wait]; exact h.1.lossWait
     unlocked := fun none_yet => absurd none_yet state
     broken := broken },
   { position := h.2.position
     locked := ⟨fun _ => state, fun _ => h.2.locked.mpr locks⟩
     slots := h.2.slots, delay := h.2.delay }⟩

theorem Feed.publishBreak_brk (f : Feed) (cause : BreakCause) (point : FrameNo) :
    ∃ b, (f.publishBreak cause point).brk = some b ∧ b.resume = none := by
  unfold Feed.publishBreak
  split
  · exact ⟨_, rfl, rfl⟩
  · exact ⟨_, rfl, rfl⟩

theorem Feed.publishBreak_same (f : Feed) (cause : BreakCause) (point : FrameNo) :
    (f.publishBreak cause point).last = f.last ∧ (f.publishBreak cause point).idle = f.idle ∧
      (f.publishBreak cause point).lossWait = f.lossWait ∧ (f.publishBreak cause point).state = f.state := by
  unfold Feed.publishBreak
  split <;> exact ⟨rfl, rfl, rfl, rfl⟩

/-- The feed goes LOST or SILENT with a break published. -/
theorem keeps_break (cause : BreakCause) (point : FrameNo) {x : FeedState} (locks : s.feed.state ≠ .noLock) (locked : x ≠ .noLock) :
    Keeps s { s with feed := { s.feed.publishBreak cause point with state := x } } := by
  obtain ⟨last, idle, wait, _⟩ := s.feed.publishBreak_same cause point
  exact keeps_time_feed s (fun h => h.setFeed last idle wait locks locked (fun _ => s.feed.publishBreak_brk cause point))

theorem keeps_tripWatch (i : Fin 5) (due : (s.watches.get i).due = true) : Keeps s (s.tripWatch i) := by
  unfold State.tripWatch
  extract_lets w first tripped _ silenced
  have trips : Keeps s tripped := keeps_setWatch s i (fun h => h.trip due)
  have silences : Keeps tripped silenced := by
    refine Keeps.ite (fun silent => ?_) (fun _ => Keeps.refl _)
    obtain ⟨_, _, state⟩ := silent
    exact (keeps_break tripped .silent first (x := .silent) (by simp [state]) (by simp)).trans (keeps_append _ _)
  exact (trips.trans silences).trans (keeps_append _ _)

theorem keeps_endSilence (r : FrameNo) (state : s.feed.state = .silent) : Keeps s (s.endSilence r) := by
  refine Keeps.trans (keeps_time_feed s (fun h => ?_)) (keeps_append _ _)
  exact h.setFeed rfl rfl rfl (by simp [state]) (by simp) (by simp)

theorem keeps_observe (i : Fin 5) (x : FrameNo) (depth : Nat) : Keeps s (s.observe i x depth) := by
  unfold State.observe
  extract_lets w counted cleared told
  split
  · next enabled =>
    split
    · have counts : Keeps s counted := keeps_setWatch s i (fun h => h.lengthen enabled x depth)
      split
      · next due => exact counts.trans (keeps_tripWatch counted i (by simpa [counted] using due))
      · exact counts
    · have clears : Keeps s cleared := keeps_setWatch s i WatchLaw.ended
      split
      · have tells : Keeps s told := clears.trans (keeps_append _ _)
        split
        · next silent =>
          obtain ⟨_, state⟩ := silent
          exact tells.trans (keeps_endSilence told x state)
        · exact tells
      · exact clears
  · exact Keeps.refl s

theorem keeps_endFeedRun (position : FrameNo) : Keeps s (s.endFeedRun position) := by
  have clears := keeps_setWatch s 0 (w := (s.watches.get 0).ended) WatchLaw.ended
  exact Keeps.ite (fun _ => clears.trans (keeps_append _ _)) (fun _ => clears)

/-! ### The delay line (R3, R4) -/

/-- A frame in its slot keeps each frame in the slot of its number. -/
theorem slots_put {line : Vector (Option Slot) 512} (h : ∀ (i : Fin 512) (x : Slot), line.get i = some x → x.number.toNat % 512 = i.val)
    (y : Slot) (i : Fin 512) (x : Slot)
    (has : (put line ⟨y.number.toNat % 512, Nat.mod_lt _ (by decide)⟩ (some y)).get i = some x) : x.number.toNat % 512 = i.val := by
  rw [get_put] at has
  split at has
  · next same =>
    cases has
    exact congrArg Fin.val same
  · exact h i x has

theorem keeps_storeFrame (n : FrameNo) (audio : Audio) (concealed : Bool) : Keeps s (s.storeFrame n audio concealed) := by
  refine keeps_time_feed s (fun h => ⟨?_, ?_⟩)
  · exact { last := h.1.last, idle := h.1.idle, lossWait := h.1.lossWait, unlocked := h.1.unlocked, broken := h.1.broken }
  · exact { position := h.2.position, locked := h.2.locked, slots := slots_put h.2.slots _, delay := h.2.delay }

/-- A locked feed that takes a frame as its newest. -/
theorem keeps_newest (n : FrameNo) {brk : Option FeedBreak} {x : FeedState} (locks : s.feed.state ≠ .noLock) (locked : x ≠ .noLock)
    (broken : FeedLaw s → x = .lost ∨ x = .silent → ∃ b, brk = some b ∧ b.resume = none) :
    Keeps s { s with feed := { s.feed with state := x, last := some n, idle := 0, brk := brk } } := by
  refine keeps_time_feed s (fun h => ⟨?_, ?_⟩)
  · exact { last := ⟨fun _ => locked, fun _ => rfl⟩, idle := Nat.zero_le _, lossWait := h.1.lossWait
            unlocked := fun none_yet => absurd none_yet locked, broken := broken h.1 }
  · exact { position := h.2.position, locked := ⟨fun _ => locked, fun _ => h.2.locked.mpr locks⟩, slots := h.2.slots, delay := h.2.delay }

theorem keeps_renumber (delta : FrameNo) : Keeps s (s.onChannels (Desk.renumber delta)) :=
  keeps_onChannels s (fun e d => Desk.renumber_lawful e d delta)

/-- R5: the first lock sets the coming position, the feed state and the newest frame at once. -/
theorem keeps_locked (n base : FrameNo) {brk : Option FeedBreak} :
    Keeps s { s with
      time := { s.time with nextPosition := some base }
      feed := { s.feed with state := .locked, last := some n, idle := 0, brk := brk } } := by
  refine keeps_time_feed s (fun h => ⟨?_, ?_⟩)
  · exact { last := ⟨fun _ => by simp, fun _ => rfl⟩, idle := Nat.zero_le _, lossWait := h.1.lossWait
            unlocked := fun none_yet => (by cases none_yet), broken := by simp }
  · exact { position := fun _ => rfl, locked := ⟨fun _ => by simp, fun _ => rfl⟩, slots := h.2.slots, delay := h.2.delay }

theorem Feed.publishBreak_eq (f : Feed) (cause : BreakCause) (point : FrameNo) :
    f.publishBreak cause point = { f with brk := (f.publishBreak cause point).brk } := by
  unfold Feed.publishBreak
  split <;> rfl

theorem keeps_lock (n : FrameNo) (audio : Audio) : Keeps s (s.lock n audio) := by
  unfold State.lock
  extract_lets base stored feed _ locked told observed
  have locks : Keeps stored locked := by
    have k := keeps_locked stored n base (brk := feed.brk)
    have eq : feed = { stored.feed with brk := feed.brk } := by
      unfold feed Feed.publishResume
      rw [Feed.publishBreak_eq]
    unfold locked
    rw [eq]
    exact k
  exact (((keeps_storeFrame s n audio false).trans locks).trans ((keeps_append _ _).trans (keeps_observe _ _ _ _))).trans
    (keeps_renumber observed base)

theorem keeps_resync (n : FrameNo) (audio : Audio) (locks : s.feed.state ≠ .noLock) : Keeps s (s.resync n audio) := by
  unfold State.resync
  extract_lets base delta _ emptied stored _ resynced _ told ended observed
  have empties : Keeps s emptied := by
    refine keeps_time_feed s (fun h => ⟨?_, ?_⟩)
    · exact { last := h.1.last, idle := h.1.idle, lossWait := h.1.lossWait, unlocked := h.1.unlocked, broken := h.1.broken }
    · refine { position := fun _ => rfl, locked := ⟨fun _ => locks, fun _ => rfl⟩, slots := ?_, delay := h.2.delay }
      intro i x has
      change (Vector.replicate 512 none).get i = some x at has
      rw [get_replicate] at has
      cases has
  have resyncs : Keeps stored resynced := keeps_newest stored n locks (by simp) (by simp)
  exact (((empties.trans (keeps_storeFrame emptied n audio false)).trans resyncs).trans
    (((keeps_append _ _).trans (keeps_endFeedRun _ n)).trans (keeps_observe _ 0 n _))).trans (keeps_renumber observed delta)

/-! ### A locked feed stays locked -/

theorem State.tripWatch_locks (i : Fin 5) (locks : s.feed.state ≠ .noLock) : (s.tripWatch i).feed.state ≠ .noLock := by
  unfold State.tripWatch
  dsimp only
  split
  · simp
  · exact locks

theorem State.observe_locks (i : Fin 5) (x : FrameNo) (depth : Nat) (locks : s.feed.state ≠ .noLock) :
    (s.observe i x depth).feed.state ≠ .noLock := by
  unfold State.observe
  dsimp only
  split
  · split
    · split
      · exact State.tripWatch_locks _ i locks
      · exact locks
    · split
      · split
        · simp [State.endSilence]
        · exact locks
      · exact locks
  · exact locks

/-! ### Programme frames (R5 to R13) -/

theorem keeps_conceal (x : FrameNo) (k : Nat) (locks : s.feed.state ≠ .noLock) :
    Keeps s (s.conceal x k) ∧ (s.conceal x k).feed.state ≠ .noLock := by
  induction k generalizing s x with
  | zero => exact ⟨Keeps.refl s, locks⟩
  | succ k ih =>
    obtain ⟨keeps, locked⟩ := ih ((s.storeFrame x Audio.silence true).observe 0 x 96) (x + 1) (State.observe_locks _ 0 x 96 locks)
    exact ⟨((keeps_storeFrame s x Audio.silence true).trans (keeps_observe _ 0 x 96)).trans keeps, locked⟩

theorem keeps_acceptFrame (n : FrameNo) (audio : Audio) (gap : Nat) (locks : s.feed.state ≠ .noLock) :
    Keeps s (s.acceptFrame n audio gap) := by
  unfold State.acceptFrame
  extract_lets concealed stored _ accepted
  obtain ⟨conceals, locked⟩ := keeps_conceal s (s.feed.newest + 1) gap locks
  have accepts : Keeps stored accepted := keeps_newest stored n locked locked (fun h => h.broken)
  exact ((conceals.trans (keeps_storeFrame concealed n audio false)).trans accepts).trans (keeps_observe accepted 0 n _)

theorem keeps_staleFrame (n : FrameNo) (audio : Audio) : Keeps s (s.staleFrame n audio) :=
  Keeps.ite (fun _ => keeps_storeFrame s n audio false) (fun _ => Keeps.refl s)

theorem keeps_restoreFeed (n : FrameNo) (audio : Audio) (locks : s.feed.state ≠ .noLock) : Keeps s (s.restoreFeed n audio) := by
  unfold State.restoreFeed
  extract_lets stored _ restored told
  have restores : Keeps stored restored := keeps_newest stored n (x := .locked) locks (by simp) (by simp)
  exact ((keeps_storeFrame s n audio false).trans restores).trans ((keeps_append restored _).trans (keeps_observe told 0 n _))

/-- A next state that keeps the laws. -/
def KeepsNext (s : State) (o : Host.Outcome State Fault Refusal) : Prop := ∃ t, o = .next t ∧ Keeps s t

theorem Keeps.next {s t : State} (h : Keeps s t) : KeepsNext s (.next t) := ⟨t, rfl, h⟩

theorem execProgrammeFrame_keeps (number : FrameNo) (audio : Audio) : KeepsNext s (execProgrammeFrame number audio s) := by
  have judges : s.feed.state ≠ .noLock → Keeps s (s.judgeFrame number audio) := fun locks =>
    Keeps.ite (fun _ => keeps_staleFrame s number audio) (fun _ => Keeps.ite
      (fun _ => Keeps.ite (fun _ => keeps_acceptFrame s number audio _ locks) (fun _ => keeps_resync s number audio locks))
      (fun _ => keeps_resync s number audio locks))
  unfold execProgrammeFrame
  refine Keeps.next ?_
  split
  · exact keeps_lock s number audio
  · next state => exact judges (by simp [state])
  · next state => exact judges (by simp [state])
  · next state =>
    have locks : s.feed.state ≠ .noLock := by simp [state]
    exact Keeps.ite (fun _ => keeps_staleFrame s number audio) (fun _ => Keeps.ite
      (fun _ => keeps_restoreFeed s number audio locks) (fun _ => keeps_resync s number audio locks))

/-! ### Loss and requests (R7, R11, R19, R22) -/

theorem keeps_loseFeed (due : s.lossDue = true) : Keeps s (s.loseFeed) := by
  simp only [State.lossDue, Bool.and_eq_true, Bool.or_eq_true, decide_eq_true_eq] at due
  obtain ⟨state, _⟩ := due
  have locks : s.feed.state ≠ .noLock := by rcases state with h | h <;> simp [h]
  unfold State.loseFeed
  extract_lets point _ lost
  have loses : Keeps s lost := keeps_break s .lost point (x := .lost) locks (by simp)
  exact loses.trans ((keeps_append lost _).trans (keeps_endFeedRun _ point))

theorem keeps_countIdle : Keeps s s.countIdle := by
  unfold State.countIdle
  split
  · exact Keeps.refl s
  · extract_lets _ counted
    have counts : Keeps s counted := by
      refine keeps_time_feed s (fun h => ⟨?_, ?_⟩)
      · exact { last := h.1.last, idle := Nat.min_le_right _ _, lossWait := h.1.lossWait, unlocked := h.1.unlocked
                broken := h.1.broken }
      · exact { position := h.2.position, locked := h.2.locked, slots := h.2.slots, delay := h.2.delay }
    split
    · next due => exact counts.trans (keeps_loseFeed counted due)
    · exact counts

theorem execFeedLost_keeps : KeepsNext s (execFeedLost s) :=
  (Keeps.ite (keeps_loseFeed s) (fun _ => Keeps.refl s)).next

theorem execWatchTrip_keeps (i : Fin 5) : KeepsNext s (execWatchTrip i s) :=
  (Keeps.ite (keeps_tripWatch s i) (fun _ => Keeps.refl s)).next

theorem execFeedSet_keeps (a : Address) (tag : BitVec 16) (wait : Byte) : KeepsNext s (execFeedSet a tag wait s) := by
  refine (keeps_atPart s a ?_).next
  split
  · next range =>
    refine Keeps.trans (keeps_time_feed s (fun h => ⟨?_, ?_⟩)) (keeps_answer _ _ _ _ _)
    · exact { last := h.1.last, idle := h.1.idle, lossWait := inRange_iff.mp range, unlocked := h.1.unlocked, broken := h.1.broken }
    · exact { position := h.2.position, locked := h.2.locked, slots := h.2.slots, delay := h.2.delay }
  · exact keeps_answer s _ _ _ _

theorem Timebase.emptyPast_slots (t : Timebase)
    (h : ∀ (i : Fin 512) (x : Slot), t.line.get i = some x → x.number.toNat % 512 = i.val) (i : Fin 512) (x : Slot)
    (has : t.emptyPast.line.get i = some x) : x.number.toNat % 512 = i.val := by
  unfold Timebase.emptyPast at has
  split at has
  · refine h i x ?_
    simp only [Vector.get_map] at has
    exact Option.eq_some_of_filter_eq_some has
  · exact h i x has

theorem Timebase.emptyPast_same (t : Timebase) :
    t.emptyPast.position = t.position ∧ t.emptyPast.nextPosition = t.nextPosition ∧ t.emptyPast.delay = t.delay := by
  unfold Timebase.emptyPast
  split <;> exact ⟨rfl, rfl, rfl⟩

theorem keeps_setDelay (delay : Nat) (range : 32 ≤ delay ∧ delay ≤ 500) : Keeps s (s.setDelay delay) := by
  unfold State.setDelay
  extract_lets _ time
  have same : FeedLaw s → FeedLaw { s with time := time } := fun h =>
    { last := h.last, idle := h.idle, lossWait := h.lossWait, unlocked := h.unlocked, broken := h.broken }
  split
  · next state =>
    have locks : s.feed.state ≠ .noLock := by rcases state with h | h <;> simp [h]
    refine keeps_time_feed s (fun h => ⟨?_, ?_⟩)
    · exact { last := h.1.last, idle := h.1.idle, lossWait := h.1.lossWait, unlocked := h.1.unlocked, broken := h.1.broken }
    · obtain ⟨position, next, kept⟩ :=
        Timebase.emptyPast_same { time with nextPosition := some (s.feed.newest - frames delay) }
      have set : (Timebase.emptyPast { time with nextPosition := some (s.feed.newest - frames delay) }).nextPosition.isSome = true := by
        rw [next]
        rfl
      exact { position := fun _ => set
              locked := ⟨fun _ => locks, fun _ => set⟩
              slots := Timebase.emptyPast_slots _ h.2.slots
              delay := by
                change 32 ≤ (Timebase.emptyPast _).delay ∧ (Timebase.emptyPast _).delay ≤ 500
                rw [kept]
                exact range }
  · refine keeps_time_feed s (fun h => ⟨same h.1, ?_⟩)
    exact { position := h.2.position, locked := h.2.locked, slots := h.2.slots, delay := range }

theorem execDelaySet_keeps (a : Address) (tag delay : BitVec 16) : KeepsNext s (execDelaySet a tag delay s) := by
  refine (keeps_atPart s a ?_).next
  split
  · next range =>
    exact Keeps.ite (fun _ => (keeps_setDelay s _ (inRange_iff.mp range)).trans (keeps_answer _ _ _ _ _))
      (fun _ => keeps_answer s _ _ _ _)
  · exact keeps_answer s _ _ _ _

theorem keeps_changeWatch (i : Fin 5) (threshold : Nat) (direction : Direction) (window : Nat) (enabled : Bool)
    (low : threshold ≤ 96) (range : 1 ≤ window ∧ window ≤ 15000) : Keeps s (s.changeWatch i threshold direction window enabled) := by
  unfold State.changeWatch
  extract_lets w _ set told
  have sets : Keeps s set := keeps_setWatch s i (fun _ =>
    { disabled := fun _ => ⟨rfl, rfl⟩, tripped := fun has => absurd has Bool.false_ne_true
      first := ⟨fun has => absurd has Bool.false_ne_true, fun run => absurd rfl run⟩
      settings := ⟨low, range⟩ })
  have tells : Keeps set told := Keeps.ite (fun _ => keeps_append set _) (fun _ => Keeps.refl set)
  refine (sets.trans tells).trans (Keeps.ite (fun silent => ?_) (fun _ => Keeps.refl told))
  obtain ⟨_, state⟩ := silent
  exact keeps_endSilence told _ state

theorem execWatchSet_keeps (a : Address) (tag : BitVec 16) (watch threshold direction : Byte) (window : BitVec 16) (enable : Byte) :
    KeepsNext s (execWatchSet a tag watch threshold direction window enable s) := by
  refine (keeps_atPart s a ?_).next
  split
  · split
    · next ranges =>
      rw [Bool.and_eq_true, inRange_iff, inRange_iff] at ranges
      obtain ⟨⟨_, low⟩, range⟩ := ranges
      exact (keeps_changeWatch s _ _ _ _ _ low range).trans (keeps_answer _ _ _ _ _)
    · exact keeps_answer s _ _ _ _
  · exact keeps_answer s _ _ _ _

/-! ### The output period (R1, R108) -/

theorem Feed.removePast_cases (f : Feed) (p : FrameNo) :
    f.removePast p = f ∨ ((∃ b, f.brk = some b ∧ b.resume ≠ none) ∧ f.removePast p = { f with brk := none }) := by
  unfold Feed.removePast
  split
  · next r resumes =>
    split
    · obtain ⟨b, had, resume⟩ := Option.bind_eq_some_iff.mp resumes
      exact .inr ⟨⟨b, had, by simp [resume]⟩, rfl⟩
    · exact .inl rfl
  · exact .inl rfl

theorem FeedLaw.removePast {s : State} (h : FeedLaw s) (p : FrameNo) (time : Timebase) :
    FeedLaw { s with time := time, feed := s.feed.removePast p } := by
  rcases s.feed.removePast_cases p with eq | ⟨⟨b, had, resume⟩, eq⟩ <;> rw [eq]
  · exact { last := h.last, idle := h.idle, lossWait := h.lossWait, unlocked := h.unlocked, broken := h.broken }
  · refine { last := h.last, idle := h.idle, lossWait := h.lossWait, unlocked := fun _ => rfl, broken := fun broken => ?_ }
    obtain ⟨c, has, none_yet⟩ := h.broken broken
    rw [had] at has
    cases has
    exact absurd none_yet resume

theorem State.advance_feed_state : s.advance.feed.state = s.feed.state := by
  unfold State.advance
  dsimp only
  split
  · rcases s.feed.removePast_cases _ with eq | ⟨_, eq⟩ <;> rw [eq]
  · rfl

theorem keeps_advance : Keeps s s.advance := by
  unfold State.advance
  extract_lets time
  refine keeps_time_feed s (fun h => ⟨?_, ?_⟩)
  · split
    · exact h.1.removePast _ time
    · exact { last := h.1.last, idle := h.1.idle, lossWait := h.1.lossWait, unlocked := h.1.unlocked, broken := h.1.broken }
  · have moved : (time.position.isSome = true → time.nextPosition.isSome = true) ∧
        time.nextPosition.isSome = s.time.nextPosition.isSome ∧ time.line = s.time.line ∧ time.delay = s.time.delay := by
      unfold time Timebase.advance
      split
      · next next => exact ⟨fun _ => rfl, by rw [next]; rfl, rfl, rfl⟩
      · exact ⟨h.2.position, rfl, rfl, rfl⟩
    obtain ⟨position, next, line, delay⟩ := moved
    exact { position := position
            locked := by
              change time.nextPosition.isSome = true ↔ s.advance.feed.state ≠ .noLock
              rw [next, s.advance_feed_state]
              exact h.2.locked
            slots := by change ∀ (i : Fin 512) (x : Slot), time.line.get i = some x → _; rw [line]; exact h.2.slots
            delay := by change 32 ≤ time.delay ∧ time.delay ≤ 500; rw [delay]; exact h.2.delay }

theorem keeps_emitted (n : Fin 4) (o : OutFrame) (whole : o.audio.length = Audio.size) :
    Keeps s { s with outputs := put s.outputs n (Composer.emit o) } := by
  refine keeps_outputs s (fun h m x emitted => ?_)
  change ((put s.outputs n (Composer.emit o)).get m).emitted = some x at emitted
  change x.audio.length = _ ∧ x.origin = ((put s.outputs n (Composer.emit o)).get m).origin ∧
    x.onAir = ((put s.outputs n (Composer.emit o)).get m).onAir
  rw [get_put] at emitted ⊢
  split at emitted
  · next same =>
    rw [if_pos same]
    cases emitted
    exact ⟨whole, rfl, rfl⟩
  · next other =>
    rw [if_neg other]
    exact h m x emitted

theorem keeps_channelPeriod (n : Fin 4) : Keeps s (s.channelPeriod n) := by
  unfold State.channelPeriod
  extract_lets ruled frame emitted
  have rules : Keeps s ruled := keeps_onChannel s n (Desk.period_lawful _ _)
  have emits : Keeps ruled emitted := keeps_emitted ruled n frame (mix_length _)
  exact (rules.trans emits).trans (keeps_onChannel emitted n (Desk.emitAbandon_lawful _ _))

theorem keeps_observeOutput (n : Fin 4) : Keeps s (s.observeOutput n) := by
  unfold State.observeOutput
  split
  · exact keeps_observe s _ _ _
  · exact Keeps.refl s

theorem keeps_renewAllowances : Keeps s { s with channels := s.channels.map Channel.renewAllowances } := by
  refine ⟨rfl, .of_eq rfl rfl, .of_eq rfl, .of_eq rfl, .of_eq rfl rfl, .of_eq rfl, .of_eq rfl, .of_eq rfl, .of_eq rfl,
    fun laws n => ?_, .of_eq rfl⟩
  change ContextLaw ((s.channels.map Channel.renewAllowances).get n)
  rw [Vector.get_map]
  exact (laws n).transport rfl rfl rfl rfl rfl rfl rfl (laws n).filling

theorem execOutputPeriod_keeps : KeepsNext s (execOutputPeriod s) := by
  unfold execOutputPeriod
  extract_lets advanced ruled observed renewed
  have rules : Keeps s ruled := (keeps_advance s).trans (Keeps.foldl keeps_channelPeriod _ advanced)
  have observes : Keeps ruled observed := Keeps.foldl keeps_observeOutput _ ruled
  exact (((rules.trans observes).trans (keeps_renewAllowances observed)).trans (keeps_countIdle renewed)).next

end Sys2Proof.Machine

/-! The requests, the cart store, the media port and the return link keep every law; so does every command. -/

namespace Sys2Proof.Machine

variable (s : State)

/-! ### Requests at the part -/

theorem execRoWrite_keeps (a : Address) (tag : BitVec 16) (channel index : Byte) (breakNo : BreakNo) (flags segue : Byte)
    (itemA second : BitVec 16) : KeepsNext s (execRoWrite a tag channel index breakNo flags segue itemA second s) := by
  refine (keeps_atPart s a ?_).next
  split
  · next n i _ _ =>
    split
    · exact keeps_answer s _ _ _ _
    · split
      · next x _ =>
        have sets : Keeps s (s.setRing n i x) := keeps_withChannel s n (fun law => law.transport rfl rfl rfl rfl rfl rfl rfl law.filling)
        exact sets.trans (keeps_answer _ _ _ _ _)
      · exact keeps_answer s _ _ _ _
  · exact keeps_answer s _ _ _ _

theorem execRoRevoke_keeps (a : Address) (tag : BitVec 16) (channel index : Byte) :
    KeepsNext s (execRoRevoke a tag channel index s) := by
  refine (keeps_atPart s a ?_).next
  split
  · next n i _ _ =>
    dsimp only
    split
    · exact keeps_answer s _ _ _ _
    · split
      · exact keeps_answer s _ _ _ _
      · have sets : Keeps s (s.setRing n i (revokedEntry ((s.channels.get n).ring.get i))) :=
          keeps_withChannel s n (fun law => law.transport rfl rfl rfl rfl rfl rfl rfl law.filling)
        exact sets.trans (keeps_answer _ _ _ _ _)
  · exact keeps_answer s _ _ _ _

theorem execRoRead_keeps (a : Address) (tag : BitVec 16) (channel index : Byte) :
    KeepsNext s (execRoRead a tag channel index s) := by
  refine (keeps_atPart s a ?_).next
  split <;> exact keeps_answer s _ _ _ _

theorem execRoHead_keeps (a : Address) (tag : BitVec 16) (channel index : Byte) :
    KeepsNext s (execRoHead a tag channel index s) := by
  refine (keeps_atPart s a ?_).next
  split
  · next n i _ _ =>
    split
    · have sets : Keeps s (s.withChannel n { s.channels.get n with head := i }) :=
        keeps_withChannel s n (fun law => law.transport rfl rfl rfl rfl rfl rfl rfl law.filling)
      exact sets.trans (keeps_answer _ _ _ _ _)
    · exact keeps_answer s _ _ _ _
  · exact keeps_answer s _ _ _ _

theorem keeps_inService (tag : BitVec 16) (n : Fin 4) : Keeps s (s.inService tag n) := by
  unfold State.inService
  split
  · split
    · next state => exact (keeps_onChannel s n (Desk.toService_lawful _ _ state)).trans (keeps_answer _ _ _ _ _)
    · exact keeps_answer s _ _ _ _
  · exact keeps_answer s _ _ _ _

theorem keeps_toBypass (tag : BitVec 16) (n : Fin 4) : Keeps s (s.toBypass tag n) := by
  unfold State.toBypass
  split
  · next may => exact (keeps_onChannel s n (Desk.setBypass_lawful _ _ may)).trans (keeps_answer _ _ _ _ _)
  · exact keeps_answer s _ _ _ _

theorem execChannelModeInService_keeps (a : Address) (tag : BitVec 16) (channel mode : Byte) :
    KeepsNext s (execChannelModeInService a tag channel mode s) := by
  refine (keeps_atPart s a ?_).next
  split
  · exact Keeps.ite (fun _ => keeps_inService s tag _) (fun _ => Keeps.ite (fun _ => keeps_toBypass s tag _)
      (fun _ => keeps_answer s _ _ _ _))
  · exact keeps_answer s _ _ _ _

theorem execChannelModeBypass_keeps (a : Address) (tag : BitVec 16) (channel : Byte) :
    KeepsNext s (execChannelModeBypass a tag channel s) := by
  refine (keeps_atPart s a ?_).next
  split
  · exact keeps_toBypass s tag _
  · exact keeps_answer s _ _ _ _

theorem execChannelSet_keeps (a : Address) (tag : BitVec 16) (channel source policy fade pad : Byte) (guard : BitVec 32)
    (silence fill : Byte) : KeepsNext s (execChannelSet a tag channel source policy fade pad guard silence fill s) := by
  refine (keeps_atPart s a ?_).next
  split
  · dsimp only
    split
    · exact keeps_answer s _ _ _ _
    · exact (keeps_onChannel s _ (Desk.changeSettings_still _ _ _).toQuiet.lawful).trans (keeps_answer _ _ _ _ _)
  · exact keeps_answer s _ _ _ _

theorem execChannelClear_keeps (a : Address) (tag : BitVec 16) (channel : Byte) :
    KeepsNext s (execChannelClear a tag channel s) := by
  refine (keeps_atPart s a ?_).next
  split
  · exact (keeps_onChannel s _ (Desk.clear_lawful _ _)).trans (keeps_answer _ _ _ _ _)
  · exact keeps_answer s _ _ _ _

theorem keeps_setTimer (n : Fin 4) (t : Option Timer) : Keeps s (s.setTimer n t) :=
  keeps_withChannel s n (fun law => law.transport rfl rfl rfl rfl rfl rfl rfl law.filling)

theorem execTimerSet_keeps (a : Address) (tag : BitVec 16) (channel mode : Byte) (target : FrameNo) (period : BitVec 32) :
    KeepsNext s (execTimerSet a tag channel mode target period s) := by
  refine (keeps_atPart s a ?_).next
  split
  · exact (keeps_setTimer s _ _).trans (keeps_answer _ _ _ _ _)
  · exact Keeps.ite (fun _ => Keeps.ite (fun _ => (keeps_setTimer s _ _).trans (keeps_answer _ _ _ _ _))
      (fun _ => keeps_answer s _ _ _ _)) (fun _ => keeps_answer s _ _ _ _)
  · exact keeps_answer s _ _ _ _

theorem keeps_takeInBreak (tag : BitVec 16) (n : Fin 4) (hard : Byte) : Keeps s (s.takeInBreak tag n hard) := by
  unfold State.takeInBreak
  extract_lets fading
  split
  · exact keeps_answer s _ _ _ _
  · exact keeps_answer s _ _ _ _
  · refine Keeps.ite (fun _ => keeps_answer s _ _ _ _) (fun _ => Keeps.ite (fun _ => ?_) (fun _ => keeps_answer s _ _ _ _))
    exact (keeps_onChannel s n (Desk.takeHard_still _ _).toQuiet.lawful).trans (keeps_answer _ _ _ _ _)

theorem execTake_keeps (a : Address) (tag : BitVec 16) (channel hard : Byte) : KeepsNext s (execTake a tag channel hard s) := by
  have waits : ∀ n : Fin 4, Keeps s (if (s.desk n).committed then s.answer tag 0x000C .busy
      else if (s.desk n).headEntry.startsBreak then
        (s.onChannel n (fun e d => d.trigger e)).answer tag 0x000C .done
      else s.answer tag 0x000C .empty) := fun n =>
    Keeps.ite (fun _ => keeps_answer s _ _ _ _) (fun _ => Keeps.ite
      (fun _ => (keeps_onChannel s n (Desk.trigger_lawful _ _)).trans (keeps_answer _ _ _ _ _)) (fun _ => keeps_answer s _ _ _ _))
  refine (keeps_atPart s a ?_).next
  split
  · exact keeps_answer s _ _ _ _
  · dsimp only
    split
    · split
      · exact keeps_answer s _ _ _ _
      · exact keeps_answer s _ _ _ _
      · exact keeps_answer s _ _ _ _
      · exact keeps_takeInBreak s tag _ hard
      · exact waits _
      · exact waits _
    · exact keeps_answer s _ _ _ _

theorem execFillSet_keeps (a : Address) (tag : BitVec 16) (channel slot : Byte) (cart : BitVec 16) :
    KeepsNext s (execFillSet a tag channel slot cart s) := by
  refine (keeps_atPart s a ?_).next
  split
  · exact (keeps_onChannel s _ (Desk.setSlot_quiet _ _ _ _).lawful).trans (keeps_answer _ _ _ _ _)
  · exact keeps_answer s _ _ _ _

theorem execFillRange_keeps (a : Address) (tag : BitVec 16) (channel start stop : Byte) :
    KeepsNext s (execFillRange a tag channel start stop s) := by
  refine (keeps_atPart s a ?_).next
  split
  · exact (keeps_onChannel s _ (Desk.setRange_quiet _ _ _ _).lawful).trans (keeps_answer _ _ _ _ _)
  · exact keeps_answer s _ _ _ _

/-! ### Cues, lines and the timer -/

theorem keeps_linkError : Keeps s s.linkError := keeps_intake s (.of_eq rfl)

theorem execSplitAnnounce_keeps (a : Address) (breakNo : BreakNo) (start length : FrameNo) :
    KeepsNext s (execSplitAnnounce a breakNo start length s) :=
  (Keeps.ite (fun _ => keeps_onOutputs s a (fun e d => Desk.judgeAnnounce_lawful e d _))
    (fun _ => Keeps.ite (fun _ => Keeps.refl s) (fun _ => keeps_linkError s))).next

theorem execBadLinkFrame_keeps (bytes : List Byte) : KeepsNext s (execBadLinkFrame bytes s) := by
  unfold execBadLinkFrame
  refine Keeps.next ?_
  split
  · exact keeps_linkError s
  · exact Keeps.ite (fun _ => Keeps.refl s) (fun _ => keeps_linkError s)
  · exact Keeps.refl s

theorem execFireEdge_keeps (line : Fin 4) (stage : LineStage) : KeepsNext s (execFireEdge line stage s) := by
  unfold execFireEdge
  refine Keeps.next ?_
  split
  · exact keeps_lines s
  · exact Keeps.ite (fun _ => (keeps_lines s).trans (keeps_onChannel (s.setFire line .spent) line (Desk.trigger_lawful _ _)))
      (fun _ => keeps_lines s)
  · exact Keeps.refl s

theorem execResetLine_keeps (stage : LineStage) : KeepsNext s (execResetLine stage s) := by
  unfold execResetLine
  refine Keeps.next ?_
  split
  · exact keeps_lines s
  · exact (keeps_lines s).trans (keeps_partReset (s.setResetLine .spent) .line)
  · exact Keeps.refl s

/-! ### The site filter table (R191, R192) -/

/-- An entry other than entry 0 replaced. -/
theorem keeps_setFilter {i : Fin 16} (other : i ≠ 0) {x : Option FilterEntry}
    (good : ∀ e, x = some e → e.address ≠ Config.broadcast ∧ (e.part = true ∨ e.outputs ≠ 0)) : Keeps s (s.setFilter i x) := by
  refine keeps_intake s (fun h => ⟨?_, fun j e used => ?_⟩)
  · change (put s.intake.filter i x).get 0 = _
    rw [get_put_other _ _ _ _ other]
    exact h.fixed
  · change (put s.intake.filter i x).get j = _ at used
    rw [get_put] at used
    split at used
    · exact good e used
    · exact h.others j e used

theorem execFilterSet_keeps (a : Address) (tag : BitVec 16) (entry part outputs : Byte) (x : Address) :
    KeepsNext s (execFilterSet a tag entry part outputs x s) := by
  refine (keeps_atPart s a ?_).next
  split
  · next i e _ carried =>
    split
    · exact keeps_answer s _ _ _ _
    · next other =>
      refine (keeps_setFilter s other (fun e' same => ?_)).trans (keeps_answer _ _ _ _ _)
      cases same
      unfold filterEntryOf at carried
      split at carried
      · dsimp only at carried
        split at carried
        · cases carried
        · next p _ good =>
          cases carried
          rw [not_or, not_and] at good
          obtain ⟨address, target⟩ := good
          refine ⟨address, ?_⟩
          cases p with
          | true => exact .inl rfl
          | false => exact .inr (target rfl)
      · cases carried
  · exact keeps_answer s _ _ _ _

theorem execFilterClear_keeps (a : Address) (tag : BitVec 16) (entry : Byte) : KeepsNext s (execFilterClear a tag entry s) := by
  refine (keeps_atPart s a ?_).next
  split
  · split
    · exact keeps_answer s _ _ _ _
    · next other => exact (keeps_setFilter s other (fun e same => by cases same)).trans (keeps_answer _ _ _ _ _)
  · exact keeps_answer s _ _ _ _

/-! ### The return link and the log requests -/

/-- The return link alone changed; what flies afterwards is nothing, or the oldest answer. -/
theorem keeps_setReturn {t : ReturnLink} (flies : t.inFlight = none ∨ t.inFlight = some .answer)
    (h : ReturnLaw s → ReturnLaw (s.setReturn t)) : Keeps s (s.setReturn t) := by
  refine keeps_ret_log s (fun law => ?_) h
  refine { ordered := law.ordered, size := law.size, numbered := law.numbered, placed := law.placed, inFlight := fun r flying => ?_ }
  change t.inFlight = _ at flying
  rcases flies with f | f <;> rw [f] at flying <;> cases flying

theorem execAnswerFrameStart_keeps : KeepsNext s (execAnswerFrameStart s) := by
  refine (Keeps.ite (fun due => keeps_setReturn s (.inr rfl) (fun h => ?_)) (fun _ => Keeps.refl s)).next
  simp only [State.answerDue, Bool.and_eq_true, Bool.not_eq_true', List.isEmpty_eq_false_iff] at due
  obtain ⟨⟨_, queued⟩, carrier⟩ := due
  exact { queue := h.queue, answer := fun _ => queued, carrier := fun lost => absurd (lost.symm.trans carrier) Bool.false_ne_true }

theorem execAnswerFrameComplete_keeps : KeepsNext s (execAnswerFrameComplete s) := by
  unfold execAnswerFrameComplete
  refine Keeps.next ?_
  split
  · refine keeps_setReturn s (.inl rfl) (fun h => ?_)
    refine { queue := ?_, answer := fun flying => (by cases flying), carrier := fun _ => rfl }
    exact (by simp : s.ret.queue.tail.length ≤ s.ret.queue.length).trans h.queue
  · exact Keeps.refl s

theorem execReportFrameStart_keeps : KeepsNext s (execReportFrameStart s) := by
  refine (Keeps.ite (fun due => ?_) (fun _ => Keeps.refl s)).next
  simp only [State.reportDue, Bool.and_eq_true, decide_eq_true_eq] at due
  obtain ⟨⟨_, carrier⟩, unsent⟩ := due
  refine keeps_ret_log s (fun h => ?_) (fun h => ?_)
  · obtain ⟨order, _⟩ := h.ordered
    obtain ⟨_, limit⟩ := h.numbered
    have number : (BitVec.ofNat 32 s.log.send).toNat = s.log.send := by
      rw [BitVec.toNat_ofNat]
      omega
    refine { ordered := ⟨order.trans (Nat.le_succ _), unsent⟩, size := h.size, numbered := h.numbered, placed := h.placed
             inFlight := fun r flying => ?_ }
    obtain ⟨x, stored, sequence⟩ := h.placed s.log.send order unsent
    cases flying
    have read : s.log.readBack (BitVec.ofNat 32 s.log.send) = x :=
      Log.readBack_retained (by rw [number]; exact order) (by rw [number]; exact unsent) (by rw [number]; exact stored)
    rw [read, sequence, number]
    exact Nat.lt_succ_self _
  · exact { queue := h.queue, answer := fun flying => (by cases flying)
            carrier := fun lost => absurd (lost.symm.trans carrier) Bool.false_ne_true }

theorem execReportFrameComplete_keeps : KeepsNext s (execReportFrameComplete s) := by
  unfold execReportFrameComplete
  refine Keeps.next ?_
  split
  · exact keeps_setReturn s (.inl rfl) (fun h =>
      { queue := h.queue, answer := fun flying => (by cases flying), carrier := fun _ => rfl })
  · exact Keeps.refl s

theorem execCarrierLoss_keeps : KeepsNext s (execCarrierLoss s) := by
  unfold execCarrierLoss
  extract_lets _ t
  have lost : ReturnLaw s → ∀ log, ReturnLaw { s with ret := t, log := log } := fun h _ =>
    { queue := h.queue, answer := fun flying => (by cases flying), carrier := fun _ => rfl }
  refine Keeps.next ?_
  split
  · next r flying =>
    refine keeps_ret_log s (fun h => ?_) (fun h => lost h _)
    obtain ⟨order, sent⟩ := h.ordered
    have before := h.inFlight r flying
    have none_flies : ∀ x, t.inFlight = some (.report x) → x.sequence.toNat < (s.log.unsend r).send := fun x f => (by cases f)
    unfold Log.unsend at none_flies ⊢
    split
    · next retained =>
      rw [if_pos retained] at none_flies
      exact { ordered := ⟨retained, before.le.trans sent⟩, size := h.size, numbered := h.numbered, placed := h.placed
              inFlight := none_flies }
    · next gone =>
      rw [if_neg gone] at none_flies
      exact { ordered := h.ordered, size := h.size, numbered := h.numbered, placed := h.placed, inFlight := none_flies }
  · exact keeps_setReturn s (.inl rfl) (fun h => lost h s.log)

theorem execCarrierReturn_keeps : KeepsNext s (execCarrierReturn s) :=
  (keeps_ret_log s (ret := { s.ret with carrier := true }) (.of_eq rfl rfl) (fun h =>
    { queue := h.queue, answer := h.answer, carrier := fun lost => absurd lost Bool.noConfusion })).next

/-- The log's cursor or overrun flag changed. -/
theorem keeps_log {log : Log} (h : LogLaw s → LogLaw { s with log := log }) : Keeps s { s with log := log } :=
  keeps_ret_log s (ret := s.ret) h (.of_eq rfl)

theorem execLogRead_keeps (a : Address) (tag : BitVec 16) (mode count : Byte) (offset : BitVec 32) :
    KeepsNext s (execLogRead a tag mode count offset s) := by
  refine (keeps_atPart s a ?_).next
  split
  · exact keeps_answer s _ _ _ _
  · split
    · refine Keeps.trans (keeps_log s (fun h => ?_)) (keeps_answer _ _ _ _ _)
      exact { ordered := h.ordered, size := h.size, numbered := h.numbered, placed := h.placed, inFlight := h.inFlight }
    · exact keeps_answer s _ _ _ _

theorem execLogSeek_keeps (a : Address) (tag : BitVec 16) (q : BitVec 32) : KeepsNext s (execLogSeek a tag q s) := by
  refine (keeps_atPart s a (Keeps.trans (keeps_log s (fun h => ?_)) (keeps_answer _ _ _ _ _))).next
  exact { ordered := h.ordered, size := h.size, numbered := h.numbered, placed := h.placed, inFlight := h.inFlight }

theorem execLogRelease_keeps (a : Address) (tag : BitVec 16) (q : BitVec 32) : KeepsNext s (execLogRelease a tag q s) := by
  refine (keeps_atPart s a ?_).next
  split
  · next range =>
    obtain ⟨low, high⟩ := range
    refine Keeps.trans (keeps_log s (fun h => ?_)) (keeps_answer _ _ _ _ _)
    obtain ⟨first, limit⟩ := h.numbered
    obtain ⟨_, sent⟩ := h.ordered
    have size := h.size
    exact { ordered := ⟨high, sent⟩
            size := by change s.log.write - q.toNat ≤ _; omega
            numbered := ⟨first.trans low, limit⟩
            placed := fun n from' upto => h.placed n (low.trans from') upto
            inFlight := h.inFlight }
  · exact keeps_answer s _ _ _ _

theorem execStatusQuery_keeps (a : Address) (tag : BitVec 16) (clear : Byte) : KeepsNext s (execStatusQuery a tag clear s) := by
  refine (keeps_atPart s a ?_).next
  split
  · exact keeps_answer s _ _ _ _
  · refine Keeps.trans (Keeps.ite (fun _ => keeps_ret_log s (fun h => ?_) (fun h => ?_)) (fun _ => Keeps.refl s)) (keeps_answer _ _ _ _ _)
    · exact { ordered := h.ordered, size := h.size, numbered := h.numbered, placed := h.placed, inFlight := h.inFlight }
    · exact { queue := h.queue, answer := h.answer, carrier := h.carrier }

end Sys2Proof.Machine

/-! The cart store and the media port keep every law; so does every command and every step. -/

namespace Sys2Proof.Machine

variable (s : State)

/-! ### The cart store (chapters 7 and 8) -/

/-- A store with the same hold counts, catalog states, scan and download cart. -/
theorem HoldLaw.store {s : State} {t : Store} (h : HoldLaw s) (holds : t.holds = s.store.holds)
    (states : ∀ c, (t.catalog.get c).state = (s.store.catalog.get c).state) (scan : t.scan = s.store.scan)
    (download : t.download.map (·.cart) = s.store.download.map (·.cart)) : HoldLaw (s.setStore t) where
  held c := by
    change t.holds.get c ≤ 255 ∧ (t.holds.get c ≠ 0 → (t.catalog.get c).state = .ready)
    rw [holds, states]
    exact h.held c
  scanning := by
    change t.scan.done = false → ∀ c, (t.catalog.get c).state = .empty
    rw [scan]
    exact fun running c => (states c).trans (h.scanning running c)
  scanned := by
    change t.scan.done = true → ∀ b, (t.scan.banks.get b).read = none
    rw [scan]
    exact h.scanned
  loading c := by
    change (t.catalog.get c).state = .loading ↔ ∃ d, t.download = some d ∧ d.cart = c
    have same : (∃ d, t.download = some d ∧ d.cart = c) ↔ ∃ d, s.store.download = some d ∧ d.cart = c := by
      have present : ∀ o : Option Download, (∃ d, o = some d ∧ d.cart = c) ↔ o.map (·.cart) = some c := by
        intro o
        simp
      rw [present, present, download]
    rw [states, same]
    exact h.loading c

/-- A cart's entry replaced in the catalog, its hold count 0, with the download it leaves. -/
theorem HoldLaw.setEntry {s : State} {t : Store} {c : Fin 1024} {x : CatalogEntry} (h : HoldLaw s) (holds : t.holds = s.store.holds)
    (catalog : t.catalog = put s.store.catalog c x) (scan : t.scan = s.store.scan) (done : s.store.scan.done = true)
    (free : s.store.holds.get c = 0) (loads : x.state = .loading ↔ ∃ d, t.download = some d ∧ d.cart = c)
    (others : ∀ m, m ≠ c → ((∃ d, t.download = some d ∧ d.cart = m) ↔ ∃ d, s.store.download = some d ∧ d.cart = m)) :
    HoldLaw (s.setStore t) where
  held m := by
    change t.holds.get m ≤ 255 ∧ (t.holds.get m ≠ 0 → (t.catalog.get m).state = .ready)
    rw [holds, catalog, get_put]
    split
    · next same =>
      subst same
      rw [free]
      exact ⟨Nat.zero_le _, fun has => absurd rfl has⟩
    · exact h.held m
  scanning := by
    intro running
    change t.scan.done = false at running
    rw [scan, done] at running
    cases running
  scanned := by
    change t.scan.done = true → ∀ b, (t.scan.banks.get b).read = none
    rw [scan]
    exact h.scanned
  loading m := by
    change (t.catalog.get m).state = .loading ↔ ∃ d, t.download = some d ∧ d.cart = m
    rw [catalog, get_put]
    split
    · next same =>
      subst same
      exact loads
    · next other => rw [others m (fun e => other e.symm)]; exact h.loading m

/-- A cart that is not READY has no holder. -/
theorem HoldLaw.free {s : State} (h : HoldLaw s) {c : Fin 1024} (state : (s.store.catalog.get c).state ≠ .ready) :
    s.store.holds.get c = 0 := by
  by_contra has
  exact state ((h.held c).2 has)

/-- After the scan alone is a cart in another state than EMPTY. -/
theorem HoldLaw.done {s : State} (h : HoldLaw s) {c : Fin 1024} (state : (s.store.catalog.get c).state ≠ .empty) :
    s.store.scan.done = true := by
  cases running : s.store.scan.done with
  | true => rfl
  | false => exact absurd (h.scanning running c) state

theorem HoldLaw.loads {s : State} (h : HoldLaw s) {d : Download} (had : s.store.download = some d) :
    (s.store.catalog.get d.cart).state = .loading := (h.loading d.cart).mpr ⟨d, had, rfl⟩

/-- The download replaced by one of the same cart. -/
theorem keeps_setDownload {d d' : Download} (had : s.store.download = some d) (cart : d'.cart = d.cart) :
    Keeps s (s.setDownload d') :=
  keeps_setStore s (t := { s.store with download := some d' }) (fun h =>
    h.store rfl (fun _ => rfl) rfl (by rw [had]; exact congrArg some cart))

theorem keeps_answerClose (d : Download) (code : ResultCode) : Keeps s (s.answerClose d code) := by
  unfold State.answerClose
  split
  · exact keeps_answer s _ _ _ _
  · exact Keeps.refl s

/-- R163, R164, R167: the cart of the download torn. -/
theorem keeps_tear {d : Download} (had : s.store.download = some d) : Keeps s (s.setStore (s.store.tear d.cart)) := by
  refine keeps_setStore s (fun h => ?_)
  have loading := h.loads had
  refine h.setEntry rfl rfl rfl (h.done (c := d.cart) (by simp [loading])) (h.free (by simp [loading])) ?_ ?_
  · simp [Store.tear]
  · intro m other
    simp only [Store.tear, had]
    constructor
    · rintro ⟨d', eq, _⟩
      cases eq
    · rintro ⟨d', eq, cart⟩
      cases eq
      exact absurd cart.symm other

theorem execCartQuery_keeps (a : Address) (tag cart : BitVec 16) : KeepsNext s (execCartQuery a tag cart s) := by
  refine (keeps_atPart s a ?_).next
  split
  · exact keeps_answer s _ _ _ _
  · exact Keeps.ite (fun _ => keeps_answer s _ _ _ _) (fun _ => keeps_answer s _ _ _ _)

theorem execUnitQuery_keeps (a : Address) (tag : BitVec 16) (bank : Byte) (first : BitVec 16) (count : Byte) :
    KeepsNext s (execUnitQuery a tag bank first count s) := by
  refine (keeps_atPart s a ?_).next
  split
  · exact keeps_answer s _ _ _ _
  · exact Keeps.ite (fun _ => keeps_answer s _ _ _ _) (fun _ => keeps_answer s _ _ _ _)

/-- R145: a cart that is not being loaded deleted. -/
theorem keeps_remove (c : Fin 1024) (done : s.store.scan.done = true) (free : HoldLaw s → s.store.holds.get c = 0)
    (still : (s.store.catalog.get c).state ≠ .loading) : Keeps s (s.setStore (s.store.remove c)) := by
  refine keeps_setStore s (fun h => h.setEntry rfl rfl rfl done (free h) ?_ (fun _ _ => Iff.rfl))
  have absent := (not_congr (h.loading c)).mp still
  exact ⟨fun loads => (by cases loads), fun has => absurd has absent⟩

/-- R146: a cart being loaded deleted, and its download with it. -/
theorem keeps_abandonDownload (c : Fin 1024) (loading : (s.store.catalog.get c).state = .loading) :
    Keeps s ((s.setStore (s.store.remove c)).abandonDownload) := by
  unfold State.abandonDownload
  have dropped : Keeps s (s.setStore { s.store.remove c with download := none }) := by
    refine keeps_setStore s (fun h => ?_)
    obtain ⟨d, had, cart⟩ := (h.loading c).mp loading
    refine h.setEntry rfl rfl rfl (h.done (c := c) (by simp [loading])) (h.free (by simp [loading])) (by simp [CatalogEntry.empty]) ?_
    intro m other
    rw [had]
    constructor
    · rintro ⟨d', eq, _⟩
      cases eq
    · rintro ⟨d', eq, cart'⟩
      cases eq
      exact absurd (cart'.symm.trans cart) other
  split
  · exact dropped.trans (keeps_answerClose _ _ _)
  · next absent =>
    have same : s.setStore (s.store.remove c) = s.setStore { s.store.remove c with download := none } := by
      change s.store.download = none at absent
      simp [State.setStore, Store.remove, absent]
    rw [same]
    exact dropped

theorem execCartDelete_keeps (a : Address) (tag cart : BitVec 16) : KeepsNext s (execCartDelete a tag cart s) := by
  refine (keeps_atPart s a ?_).next
  split
  · exact keeps_answer s _ _ _ _
  · next c _ =>
    split
    · next done =>
      split
      · exact keeps_answer s _ _ _ _
      · next state =>
        split
        · next free => exact (keeps_remove s c done (fun _ => free) (by simp [state])).trans (keeps_answer _ _ _ _ _)
        · exact keeps_answer s _ _ _ _
      · next state =>
        exact (keeps_remove s c done (fun h => h.free (by simp [state])) (by simp [state])).trans (keeps_answer _ _ _ _ _)
      · next state => exact (keeps_abandonDownload s c state).trans (keeps_answer _ _ _ _ _)
    · exact keeps_answer s _ _ _ _

/-- The erase job and the unit map changed. -/
theorem keeps_job {map : UnitMap} {job : Option EraseJob} : Keeps s (s.setStore { s.store with map := map, job := job }) :=
  keeps_setStore s (fun h => h.store rfl (fun _ => rfl) rfl rfl)

theorem keeps_finishJob : Keeps s s.finishJob := by
  unfold State.finishJob
  split
  · next j _ => exact Keeps.ite (fun _ => (keeps_job s (map := s.store.map) (job := none)).trans (keeps_answer _ _ _ _ _)) (fun _ => Keeps.refl s)
  · exact Keeps.refl s

theorem execUnitErase_keeps (a : Address) (tag : BitVec 16) (bank : Byte) (first : BitVec 16) (count : Byte) :
    KeepsNext s (execUnitErase a tag bank first count s) := by
  refine (keeps_atPart s a ?_).next
  split
  · exact keeps_answer s _ _ _ _
  · split
    · refine Keeps.ite (fun _ => keeps_answer s _ _ _ _) (fun _ => Keeps.ite (fun _ => ?_) (fun _ => keeps_answer s _ _ _ _))
      exact (keeps_job s (map := s.store.map)).trans (keeps_finishJob _)
    · exact keeps_answer s _ _ _ _

theorem keeps_eraseEnds (unit : Nat) (success : Bool) : Keeps s (s.eraseEnds unit success) := by
  unfold State.eraseEnds
  extract_lets job _ store marked _ told
  have marks : Keeps s marked := keeps_job s
  have tells : Keeps marked told := Keeps.ite (fun _ => Keeps.refl marked) (fun _ => keeps_append marked _)
  exact (marks.trans tells).trans (keeps_finishJob told)

theorem execCartOpen_keeps (a : Address) (tag cart : BitVec 16) (bank : Byte) (first count : BitVec 16) (length segueOut : BitVec 32) :
    KeepsNext s (execCartOpen a tag cart bank first count length segueOut s) := by
  refine (keeps_atPart s a ?_).next
  split
  · exact keeps_answer s _ _ _ _
  · next f _ =>
    split
    · next done =>
      split
      · exact keeps_answer s _ _ _ _
      · next alone =>
        split
        · exact keeps_answer s _ _ _ _
        · next empty =>
          rw [not_not] at empty
          refine Keeps.ite (fun _ => ?_) (fun _ => keeps_answer s _ _ _ _)
          refine Keeps.trans (keeps_setStore s (fun h => ?_)) (keeps_answer _ _ _ _ _)
          have absent : s.store.download = none := by
            cases had : s.store.download with
            | none => rfl
            | some d =>
              have loading := h.loads had
              simp only [had, Option.any_some, decide_eq_true_eq, not_not] at alone
              rw [alone, empty] at loading
              cases loading
          refine h.setEntry rfl rfl rfl done (h.free (by simp [empty])) ⟨fun _ => ⟨_, rfl, rfl⟩, fun _ => rfl⟩ ?_
          intro m other
          rw [absent]
          constructor
          · rintro ⟨d, eq, cart⟩
            cases eq
            exact absurd cart.symm other
          · rintro ⟨d, eq, _⟩
            cases eq
    · exact keeps_answer s _ _ _ _

theorem Download.setStaging_cart (d : Download) (id : StagingId) (x : Staging) : (d.setStaging id x).cart = d.cart := by
  cases id <;> rfl

theorem Download.pend_cart (d : Download) (r : Run) (id : StagingId) : (d.pend r id).cart = d.cart :=
  d.setStaging_cart id _

theorem Download.accept_cart (d : Download) (r : Run) (id : StagingId) (audio : Audio) : (d.accept r id audio).cart = d.cart := by
  unfold Download.accept
  extract_lets _ _ st _ held
  have same : held.cart = d.cart := d.setStaging_cart id st
  clear_value held
  split
  · exact same
  · exact (held.pend_cart r id).trans same

theorem Download.padPage_cart (d : Download) (r : Run) (id : StagingId) : (d.padPage r id).cart = d.cart := by
  unfold Download.padPage
  dsimp only
  split
  · rw [Download.pend_cart, Download.setStaging_cart]
  · rfl

theorem execSegmentFrame_keeps (a : Address) (cart : BitVec 16) (offset : BitVec 32) (audio : Audio) :
    KeepsNext s (execSegmentFrame a cart offset audio s) := by
  refine (keeps_atPart s a ?_).next
  split
  · next d had =>
    split
    · unfold State.segment
      dsimp only
      split
      · exact Keeps.refl s
      · split
        · exact keeps_setDownload s had rfl
        · split
          · exact keeps_setDownload s had (d.accept_cart _ _ _)
          · exact (keeps_tear s had).trans (keeps_append _ _)
    · exact Keeps.refl s
  · exact Keeps.refl s

theorem keeps_judgeClose : Keeps s s.judgeClose := by
  unfold State.judgeClose
  split
  · next d had =>
    split
    · dsimp only
      split
      · exact keeps_setDownload s had rfl
      · exact ((keeps_tear s had).trans (keeps_append _ _)).trans (keeps_answerClose _ _ _)
    · exact Keeps.refl s
  · exact Keeps.refl s

theorem execCartClose_keeps (a : Address) (tag cart : BitVec 16) (check : BitVec 32) : KeepsNext s (execCartClose a tag cart check s) := by
  refine (keeps_atPart s a ?_).next
  split
  · exact keeps_answer s _ _ _ _
  · split
    · split
      · exact keeps_answer s _ _ _ _
      · next d found =>
        split
        · exact keeps_answer s _ _ _ _
        · refine Keeps.trans (keeps_setDownload s (Option.eq_some_of_filter_eq_some found) ?_) (keeps_judgeClose _)
          rw [Download.padPage_cart, Download.padPage_cart]
    · exact keeps_answer s _ _ _ _

/-- R139: a run cut leaves each cart in its state. -/
theorem keeps_cutRun (c : Fin 1024) (ordinal unit : Nat) : Keeps s (s.setStore (s.store.cutRun c ordinal unit)) := by
  refine keeps_setStore s (fun h => h.store rfl (fun m => ?_) rfl rfl)
  change ((put s.store.catalog c _).get m).state = _
  rw [get_put]
  split
  · next same => rw [same]
  · rfl

theorem keeps_programEnds (p : Program) (c : Fin 1024) (tag : BitVec 32) (success : Bool) : Keeps s (s.programEnds p c tag success) := by
  unfold State.programEnds
  split
  · next d found =>
    have had := Option.eq_some_of_filter_eq_some found
    split
    · unfold State.programDone
      extract_lets landed
      split
      · exact (keeps_setDownload s had (d' := landed) rfl).trans (keeps_judgeClose _)
      · next id _ =>
        have counts : Keeps s (s.setDownload { landed.setStaging id Staging.empty with programmed := landed.programmed + 1 }) :=
          keeps_setDownload s had (landed.setStaging_cart id Staging.empty)
        exact counts.trans (keeps_judgeClose _)
      · unfold State.finishClose
        refine (Keeps.trans (keeps_setStore s (fun h => ?_)) (keeps_answerClose _ _ _)).trans (keeps_cartReady _)
        have loading := h.loads had
        refine h.setEntry (c := d.cart) rfl rfl rfl (h.done (c := d.cart) (by simp [loading])) (h.free (by simp [loading])) (by simp) ?_
        intro m other
        rw [had]
        constructor
        · rintro ⟨d', eq, _⟩
          cases eq
        · rintro ⟨d', eq, cart⟩
          cases eq
          exact absurd cart.symm other
    · unfold State.failProgram
      extract_lets r told
      have cuts : Keeps s told := (keeps_cutRun s d.cart p.ordinal p.unit).trans (keeps_append _ _)
      exact (cuts.trans ((keeps_tear told had).trans (keeps_append _ _))).trans (keeps_answerClose _ _ _)
  · exact Keeps.ite (fun _ => (keeps_cutRun s c p.ordinal p.unit).trans (keeps_append _ _)) (fun _ => Keeps.refl s)

/-! ### The scan (section 7.7) -/

theorem Scan.page0Read_done (t : Scan) (bank : Fin 4) (b : BankScan) (unit : Nat) (contents : Option FlashPage) :
    (t.page0Read bank b unit contents).done = t.done := by
  unfold Scan.page0Read
  split
  · dsimp only
    split <;> rfl
  · split <;> rfl

theorem Scan.page1Read_done (t : Scan) (bank : Fin 4) (b : BankScan) (unit : Nat) (contents : Option FlashPage) :
    (t.page1Read bank b unit contents).done = t.done := by
  unfold Scan.page1Read
  extract_lets done again
  have ends : again.done = t.done := by
    unfold again
    split <;> rfl
  split
  · exact ends
  · split
    · rfl
    · split
      · split
        · split <;> rfl
        · rfl
      · exact ends

/-- An entry rebuilt by the scan is not LOADING. -/
theorem Store.rebuilt_notLoading (t : Store) (c : Fin 1024) : (t.rebuilt.catalog.get c).state ≠ .loading := by
  have entry : t.rebuilt.catalog.get c = ((keptRun t.scan.found c).map Found.entry).getD CatalogEntry.empty := by
    unfold Store.rebuilt
    rw [Vector.get_ofFn]
  rw [entry]
  cases keptRun t.scan.found c with
  | none => simp [CatalogEntry.empty]
  | some f =>
    simp only [Option.map_some, Option.getD_some, Found.entry]
    split <;> simp

/-- R154: the store rebuilt differs in the unit map and in the catalog, where no cart is LOADING. -/
theorem Store.rebuilt_eq (t : Store) :
    ∃ map catalog, t.rebuilt = { t with map := map, catalog := catalog } ∧ ∀ c, (catalog.get c).state ≠ .loading :=
  ⟨_, _, rfl, t.rebuilt_notLoading⟩

theorem HoldLaw.finished {s : State} (h : HoldLaw s) (running : s.store.scan.done = false)
    (read : ∀ b, (s.store.scan.banks.get b).read = none) :
    HoldLaw (s.setStore { s.store.rebuilt with scan := { s.store.rebuilt.scan with done := true } }) := by
  obtain ⟨map, catalog, rebuilt, none_loads⟩ := s.store.rebuilt_eq
  rw [rebuilt]
  have unheld : ∀ c, s.store.holds.get c = 0 := fun c => h.free (by simp [h.scanning running c])
  have idle : s.store.download = none := by
    cases had : s.store.download with
    | none => rfl
    | some d =>
      have loading := h.loads had
      rw [h.scanning running] at loading
      cases loading
  refine { held := fun c => ?_, scanning := fun has => (by cases has), scanned := fun _ => read, loading := fun c => ?_ }
  · change s.store.holds.get c ≤ 255 ∧ (s.store.holds.get c ≠ 0 → (catalog.get c).state = .ready)
    rw [unheld c]
    exact ⟨Nat.zero_le _, fun has => absurd rfl has⟩
  · change (catalog.get c).state = .loading ↔ ∃ d, s.store.download = some d ∧ d.cart = c
    rw [idle]
    exact ⟨fun has => absurd has (none_loads c), fun ⟨d, eq, _⟩ => (by cases eq)⟩

/-- Records do not read the store. -/
theorem State.setStore_recorded (s : State) (t t' : Store) (rs : List Record) (r : Record) :
    (((s.setStore t).appendAll rs).append r).setStore t' = ((s.setStore t').appendAll rs).append r := rfl

/-- R154 over a rebuilt store: its records, the scan DONE, and the retry of every channel's fill wait. -/
def State.scanEndsWith (s : State) (t : Store) : State :=
  let s := s.setStore t
  let s := s.appendAll ((t.cartsIn .torn).map (scanTornRecord s.time.pos t))
  let s := s.append (scanDoneRecord s.time.pos t)
  let s := s.setStore { s.store with scan := { s.store.scan with done := true } }
  if (t.cartsIn .ready).isEmpty then s else s.cartReady

theorem State.endScan_eq : s.endScan = s.scanEndsWith s.store.rebuilt := rfl

theorem keeps_scanEndsWith {s u : State} {t : Store} (finishes : Keeps s (u.setStore { t with scan := { t.scan with done := true } })) :
    Keeps s (u.scanEndsWith t) := by
  unfold State.scanEndsWith
  extract_lets set told ended _ _ done
  have ends : Keeps s done := by
    have same : done = (State.appendAll _ _).append _ :=
      u.setStore_recorded t { t with scan := { t.scan with done := true } }
        ((t.cartsIn .torn).map (scanTornRecord set.time.pos t)) (scanDoneRecord told.time.pos t)
    rw [same]
    exact (finishes.trans (keeps_appendAll _ _)).trans (keeps_append _ _)
  exact Keeps.ite (fun _ => ends) (fun _ => ends.trans (keeps_cartReady done))

theorem keeps_scanRead (bank : Fin 4) (contents : Option FlashPage) : Keeps s (s.scanRead bank contents) := by
  unfold State.scanRead
  extract_lets b _
  split
  · next r had =>
    extract_lets scan read
    have same : scan.done = s.store.scan.done := by
      unfold scan
      split
      · exact Scan.page1Read_done _ _ _ _ _
      · exact Scan.page0Read_done _ _ _ _ _
    have running : HoldLaw s → scan.done = false := fun h => by
      rw [same]
      by_contra done
      have none_left := h.scanned (by simpa using done) bank
      rw [had] at none_left
      cases none_left
    have law : HoldLaw s → HoldLaw read := fun h =>
      { held := h.held, scanning := fun _ => h.scanning (same.symm.trans (running h))
        scanned := fun done => absurd ((running h).symm.trans done) Bool.false_ne_true, loading := h.loading }
    refine Keeps.ite (fun ended => ?_) (fun _ => keeps_setStore s law)
    rw [State.endScan_eq]
    refine keeps_scanEndsWith (keeps_setStore s (fun h => ?_))
    refine HoldLaw.finished (s := read) (law h) (running h) (fun b => ?_)
    rw [List.all_eq_true] at ended
    have idle := ended (scan.banks.get b) ((mem_toList_iff_get _ _).mpr ⟨b, rfl⟩)
    exact Option.isNone_iff_eq_none.mp idle
  · exact Keeps.refl s

/-! ### The media port (chapter 9) -/

/-- R170: a transaction takes the free port, its bank busy with it. -/
theorem PortLaw.hold {s t : State} (h : PortLaw s) (free : s.arbiter.port = none) {x : Transaction} {op : BankOp}
    (carries : x.carries op) (port : t.arbiter.port = some x) (banks : t.arbiter.banks = put s.arbiter.banks x.bank (some op)) :
    PortLaw t where
  held y held := by
    rw [port] at held
    cases held
    exact ⟨op, by rw [banks, get_put_same], carries⟩
  reads b busy := by
    refine ⟨x, port, ?_⟩
    by_contra other
    rw [banks, get_put_other _ _ _ _ other] at busy
    obtain ⟨y, held, _⟩ := h.reads b busy
    rw [free] at held
    cases held

theorem keeps_setDeckAt (n : Fin 4) (id : DeckId) (k : Deck) : Keeps s (s.setDeckAt n id k) :=
  keeps_withChannel s n (fun h =>
    ContextLaw.quiet (e := s.env n) (d := s.desk n) (Desk.setDeck_still (s.env n) (s.desk n) id k).toQuiet h)

theorem keeps_hold (free : s.arbiter.port = none) {x : Transaction} {op : BankOp} (carries : x.carries op) {y : Arbiter}
    (port : y.port = some x) (banks : y.banks = put s.arbiter.banks x.bank (some op)) : Keeps s { s with arbiter := y } :=
  keeps_arbiter s (fun h => h.hold free carries port banks)

theorem keeps_grantDeck (free : s.arbiter.port = none) (n : Fin 8) (allowance : Bool) : Keeps s (s.grantDeck n allowance) := by
  unfold State.grantDeck
  extract_lets k k' set
  split
  · next z _ =>
    exact (keeps_setDeckAt s _ _ k').trans (keeps_hold set free
      (x := .deckRead (deckOfNumber n).1 (deckOfNumber n).2 z.bank k.nextPage k.load allowance) (op := .read) trivial rfl rfl)
  · exact Keeps.refl s

theorem State.deckGrant_deck {g : Grant} (grant : s.deckGrant = some g) : ∃ n allowance, g = .deck n allowance := by
  unfold State.deckGrant at grant
  split at grant
  · exact ⟨_, _, (Option.some.inj grant).symm⟩
  · split at grant
    · exact ⟨_, _, (Option.some.inj grant).symm⟩
    · cases grant

theorem State.scanGrant_scan {g : Grant} (grant : s.scanGrant = some g) : ∃ b, g = .scan b := by
  obtain ⟨b, _, eq⟩ := Option.map_eq_some_iff.mp grant
  exact ⟨b, eq.symm⟩

theorem State.eraseGrant_erase {g : Grant} (grant : s.eraseGrant = some g) : ∃ j u rest, g = .erase j u rest := by
  unfold State.eraseGrant at grant
  split at grant
  · split at grant
    · split at grant
      · exact ⟨_, _, _, (Option.some.inj grant).symm⟩
      · cases grant
    · cases grant
  · cases grant

theorem State.programGrant_download {d : Download} {p : Program} {rest : List Program}
    (grant : s.programGrant = some (.program d p rest)) : s.store.download = some d := by
  unfold State.programGrant at grant
  split at grant
  · next had =>
    split at grant
    · dsimp only at grant
      split at grant
      · cases grant
        exact had
      · cases grant
    · cases grant
  · cases grant

/-- A program is granted for the download that stands. -/
theorem State.nextGrant_program {d : Download} {p : Program} {rest : List Program} (next : s.nextGrant = some (.program d p rest)) :
    s.store.download = some d := by
  unfold State.nextGrant at next
  split at next
  · next had =>
    obtain ⟨_, _, deck⟩ := s.deckGrant_deck had
    cases next
    cases deck
  · split at next
    · next had =>
      obtain ⟨_, scan⟩ := s.scanGrant_scan had
      cases next
      cases scan
    · split at next
      · next had =>
        cases next
        exact s.programGrant_download had
      · obtain ⟨_, _, _, erase⟩ := s.eraseGrant_erase next
        cases erase

theorem keeps_grantProgram (free : s.arbiter.port = none) {d : Download} (had : s.store.download = some d) (p : Program)
    (rest : List Program) : Keeps s (s.grantProgram d p rest) := by
  unfold State.grantProgram
  extract_lets bank taken granted held
  have same : granted.cart = d.cart := by
    unfold granted
    cases p.kind with
    | content id => exact taken.setStaging_cart id _
    | unitHeader => rfl
    | cartHeader => rfl
  clear_value granted
  exact (keeps_setDownload s had same).trans (keeps_hold held free (x := .program bank) (op := .program p d.cart d.number) trivial rfl rfl)

theorem keeps_grant (free : s.arbiter.port = none) {g : Grant} (next : s.nextGrant = some g) : Keeps s (s.grant g) := by
  cases g with
  | deck n allowance => exact keeps_grantDeck s free n allowance
  | scan bank => exact keeps_hold s free (x := .scanRead bank) (op := .read) trivial rfl rfl
  | program d p rest => exact keeps_grantProgram s free (s.nextGrant_program next) p rest
  | erase j unit rest =>
    change Keeps s (s.grantErase j unit rest)
    unfold State.grantErase
    extract_lets _ store
    exact (keeps_job s (map := store.map) (job := store.job)).trans
      (keeps_hold (s.setStore store) free (x := .erase j.bank) (op := .erase unit) trivial rfl rfl)

theorem execMediaPortGrant_keeps : KeepsNext s (execMediaPortGrant s) := by
  unfold execMediaPortGrant
  refine Keeps.next ?_
  split
  · next free next => exact keeps_grant s free next
  · exact Keeps.refl s

/-- R170: a read ends: the port and its bank become free. -/
theorem keeps_readFree {x : Transaction} (held : s.arbiter.port = some x) {bank : Fin 4} (of : x.bank = bank) :
    Keeps s (s.freePort.freeBank bank) :=
  keeps_arbiter s (fun h => {
    held := fun y has => (by cases has)
    reads := fun b busy => by
      change (put s.arbiter.banks bank none).get b = _ at busy
      rw [get_put] at busy
      split at busy
      · cases busy
      · next other =>
        obtain ⟨y, has, bankOf⟩ := h.reads b busy
        rw [held] at has
        cases has
        exact absurd (of.symm.trans bankOf) other })

/-- R170: the transfer of a program or the command of an erase ends: the port becomes free, the bank stays busy. -/
theorem keeps_freePort {x : Transaction} (held : s.arbiter.port = some x) (writes : ¬ x.carries .read) : Keeps s s.freePort :=
  keeps_arbiter s (fun h => {
    held := fun y has => (by cases has)
    reads := fun b busy => by
      change s.arbiter.banks.get b = some .read at busy
      obtain ⟨y, has, bankOf⟩ := h.reads b busy
      rw [held] at has
      cases has
      obtain ⟨op, carried, carries⟩ := h.held x held
      rw [bankOf, busy] at carried
      cases carried
      exact absurd carries writes })

/-- R170: a bank becomes free whose program or erase has left the port. -/
theorem keeps_freeBank {bank : Fin 4} {op : BankOp} (busy : s.arbiter.banks.get bank = some op) (writes : op ≠ .read)
    (released : s.arbiter.released bank = true) : Keeps s (s.freeBank bank) :=
  keeps_arbiter s (fun h => {
    held := fun y has => by
      obtain ⟨op', carried, carries⟩ := h.held y has
      refine ⟨op', ?_, carries⟩
      change (put s.arbiter.banks bank none).get y.bank = _
      rw [get_put_other _ _ _ _ (fun same => ?_)]
      · exact carried
      · change s.arbiter.port = some y at has
        rw [← same, busy] at carried
        cases carried
        unfold Arbiter.released at released
        rw [has] at released
        cases y <;> cases op <;> simp_all [Transaction.carries, Transaction.bank]
    reads := fun b isRead => by
      change (put s.arbiter.banks bank none).get b = _ at isRead
      rw [get_put] at isRead
      split at isRead
      · cases isRead
      · exact h.reads b isRead })

theorem keeps_deckReadEnds {n : Fin 4} {id : DeckId} {bank : Fin 4} {page : Nat} {load : BitVec 32} {allowance : Bool}
    (held : s.arbiter.port = some (.deckRead n id bank page load allowance)) (outcome : ReadOutcome) :
    Keeps s (s.deckReadEnds n id bank page load allowance outcome) :=
  (keeps_readFree s held rfl).trans (keeps_onChannel _ n (Desk.readEnds_quiet _ _ _ _ _ _ _).lawful)

theorem execDeckReadComplete_keeps (outcome : ReadOutcome) : KeepsNext s (execDeckReadComplete outcome s) := by
  unfold execDeckReadComplete
  refine Keeps.next ?_
  split
  · next held => exact keeps_deckReadEnds s held outcome
  · exact Keeps.refl s

theorem execReadRetriesExhausted_keeps : KeepsNext s (execReadRetriesExhausted s) := by
  unfold execReadRetriesExhausted
  refine Keeps.next ?_
  split
  · next held => exact Keeps.ite (fun _ => keeps_deckReadEnds s held .failed) (fun _ => Keeps.refl s)
  · exact Keeps.refl s

theorem execScanReadComplete_keeps (outcome : ReadOutcome) : KeepsNext s (execScanReadComplete outcome s) := by
  unfold execScanReadComplete
  refine Keeps.next ?_
  split
  · next held => exact (keeps_readFree s held rfl).trans (keeps_scanRead _ _ _)
  · exact Keeps.refl s

theorem execProgramTransferEnd_keeps : KeepsNext s (execProgramTransferEnd s) := by
  unfold execProgramTransferEnd
  refine Keeps.next ?_
  split
  · next held => exact keeps_freePort s held id
  · exact Keeps.refl s

theorem execEraseCommandEnd_keeps : KeepsNext s (execEraseCommandEnd s) := by
  unfold execEraseCommandEnd
  refine Keeps.next ?_
  split
  · next held => exact keeps_freePort s held id
  · exact Keeps.refl s

theorem keeps_programmedFlash (p : Program) (success : Bool) : Keeps s (s.programmedFlash p success) :=
  Keeps.ite (fun _ => keeps_flash s (Flash.program_wf _ _ _)) (fun _ => keeps_flash s (Flash.program_wf _ _ _))

theorem keeps_erasedFlash (unit : Nat) (success : Bool) : Keeps s (s.erasedFlash unit success) :=
  Keeps.ite (fun _ => keeps_flash s (Flash.eraseUnit_wf _ _)) (fun _ => keeps_flash s (Flash.partErased_wf _ _ _ _))

theorem execProgramComplete_keeps (bank : Fin 4) (success : Bool) : KeepsNext s (execProgramComplete bank success s) := by
  unfold execProgramComplete
  refine Keeps.next ?_
  split
  · next busy released =>
    exact ((keeps_freeBank s busy BankOp.noConfusion released).trans (keeps_programmedFlash _ _ success)).trans
      (keeps_programEnds _ _ _ _ success)
  · exact Keeps.refl s

theorem execEraseComplete_keeps (bank : Fin 4) (success : Bool) : KeepsNext s (execEraseComplete bank success s) := by
  unfold execEraseComplete
  refine Keeps.next ?_
  split
  · next busy released =>
    exact ((keeps_freeBank s busy BankOp.noConfusion released).trans (keeps_erasedFlash _ _ success)).trans
      (keeps_eraseEnds _ _ success)
  · exact Keeps.refl s

end Sys2Proof.Machine

/-! Every command, and with it every step, keeps each law; the obligations that say so. -/

namespace Sys2Proof.Machine

variable (s : State)

theorem execWindowOpen_keeps (a : Address) (opens : FrameNo) (closes : Option FrameNo) :
    KeepsNext s (execWindowOpen a opens closes s) :=
  (keeps_onOutputs s a (fun e d => Desk.judgeWindowOpen_lawful e d opens closes)).next

theorem execWindowClose_keeps (a : Address) (closes : FrameNo) : KeepsNext s (execWindowClose a closes s) :=
  (keeps_onOutputs s a (fun e d => Desk.judgeWindowClose_lawful e d closes)).next

theorem execSplitCancel_keeps (a : Address) (breakNo : BreakNo) (frame : FrameNo) :
    KeepsNext s (execSplitCancel a breakNo frame s) :=
  (keeps_onOutputs s a (fun e d => Desk.judgeCancel_lawful e d breakNo frame)).next

theorem execScheduleTimerExpiry_keeps (n : Fin 4) : KeepsNext s (execScheduleTimerExpiry n s) :=
  (keeps_onChannel s n (Desk.timerExpires_lawful _ _)).next

theorem execDeckUnderrunAbandon_keeps (n : Fin 4) (deck : DeckId) : KeepsNext s (execDeckUnderrunAbandon n deck s) :=
  (keeps_onChannel s n (Desk.abandon_quiet _ _ _).lawful).next

theorem execUnknownKind_keeps (a : Address) (tag kind : BitVec 16) : KeepsNext s (execUnknownKind a tag kind s) :=
  (keeps_atPart s a (keeps_answer s tag kind .unknownKind .empty)).next

theorem execResetPart_keeps (a : Address) (tag : BitVec 16) : KeepsNext s (execResetPart a tag s) :=
  (keeps_atPart s a (keeps_partReset s .request)).next

theorem exec_keeps (c : Instr) : KeepsNext s (exec c s) :=
  match c with
  | .outputPeriod => execOutputPeriod_keeps s
  | .deckUnderrunAbandon n deck => execDeckUnderrunAbandon_keeps s n deck
  | .watchTrip i => execWatchTrip_keeps s i
  | .feedLost => execFeedLost_keeps s
  | .scheduleTimerExpiry n => execScheduleTimerExpiry_keeps s n
  | .programmeFrame number audio => execProgrammeFrame_keeps s number audio
  | .splitAnnounce a breakNo start length => execSplitAnnounce_keeps s a breakNo start length
  | .splitCancel a breakNo frame => execSplitCancel_keeps s a breakNo frame
  | .windowOpen a opens closes => execWindowOpen_keeps s a opens closes
  | .windowClose a closes => execWindowClose_keeps s a closes
  | .fireEdge line stage => execFireEdge_keeps s line stage
  | .segmentFrame a cart offset audio => execSegmentFrame_keeps s a cart offset audio
  | .badLinkFrame bytes => execBadLinkFrame_keeps s bytes
  | .feedSet a _ _ => execFeedSet_keeps s a _ _
  | .delaySet a _ _ => execDelaySet_keeps s a _ _
  | .watchSet a _ _ _ _ _ _ => execWatchSet_keeps s a _ _ _ _ _ _
  | .roWrite a _ _ _ _ _ _ _ _ => execRoWrite_keeps s a _ _ _ _ _ _ _ _
  | .roRevoke a _ _ _ => execRoRevoke_keeps s a _ _ _
  | .roRead a _ _ _ => execRoRead_keeps s a _ _ _
  | .roHead a _ _ _ => execRoHead_keeps s a _ _ _
  | .channelModeInService a _ _ _ => execChannelModeInService_keeps s a _ _ _
  | .channelModeBypass a _ _ => execChannelModeBypass_keeps s a _ _
  | .channelSet a _ _ _ _ _ _ _ _ _ => execChannelSet_keeps s a _ _ _ _ _ _ _ _ _
  | .channelClear a _ _ => execChannelClear_keeps s a _ _
  | .timerSet a _ _ _ _ _ => execTimerSet_keeps s a _ _ _ _ _
  | .take a _ _ _ => execTake_keeps s a _ _ _
  | .fillSet a _ _ _ _ => execFillSet_keeps s a _ _ _ _
  | .fillRange a _ _ _ _ => execFillRange_keeps s a _ _ _ _
  | .logRead a _ _ _ _ => execLogRead_keeps s a _ _ _ _
  | .logSeek a _ _ => execLogSeek_keeps s a _ _
  | .logRelease a _ _ => execLogRelease_keeps s a _ _
  | .cartQuery a _ _ => execCartQuery_keeps s a _ _
  | .unitQuery a _ _ _ _ => execUnitQuery_keeps s a _ _ _ _
  | .cartDelete a _ _ => execCartDelete_keeps s a _ _
  | .unitErase a _ _ _ _ => execUnitErase_keeps s a _ _ _ _
  | .cartOpen a _ _ _ _ _ _ _ => execCartOpen_keeps s a _ _ _ _ _ _ _
  | .cartClose a _ _ _ => execCartClose_keeps s a _ _ _
  | .filterSet a _ _ _ _ _ => execFilterSet_keeps s a _ _ _ _ _
  | .filterClear a _ _ => execFilterClear_keeps s a _ _
  | .statusQuery a _ _ => execStatusQuery_keeps s a _ _
  | .resetPart a tag => execResetPart_keeps s a tag
  | .unknownKind a tag kind => execUnknownKind_keeps s a tag kind
  | .powerOn => (keeps_partReset s .power).next
  | .resetLine stage => execResetLine_keeps s stage
  | .mediaPortGrant => execMediaPortGrant_keeps s
  | .deckReadComplete outcome => execDeckReadComplete_keeps s outcome
  | .readRetriesExhausted => execReadRetriesExhausted_keeps s
  | .scanReadComplete outcome => execScanReadComplete_keeps s outcome
  | .programTransferEnd => execProgramTransferEnd_keeps s
  | .programComplete bank success => execProgramComplete_keeps s bank success
  | .eraseCommandEnd => execEraseCommandEnd_keeps s
  | .eraseComplete bank success => execEraseComplete_keeps s bank success
  | .answerFrameStart => execAnswerFrameStart_keeps s
  | .answerFrameComplete => execAnswerFrameComplete_keeps s
  | .reportFrameStart => execReportFrameStart_keeps s
  | .reportFrameComplete => execReportFrameComplete_keeps s
  | .carrierLoss => execCarrierLoss_keeps s
  | .carrierReturn => execCarrierReturn_keeps s
  | .fireLineReturnHigh _ => (keeps_lines s).next
  | .resetLineReturnHigh => (keeps_lines s).next

/-- The front command of the queue runs on the queue's rest. -/
theorem step_cons {c : Instr} {rest : List Instr} (queue : s.pending = c :: rest) : step s = exec c { s with pending := rest } := by
  unfold step
  rw [queue]

theorem step_nil (queue : s.pending = []) : step s = .next s := by
  unfold step
  rw [queue]

/-- A step keeps a law that each command keeps and that does not read the queue. -/
theorem step_law {law : State → Prop} (unqueued : ∀ s rest, law s → law { s with pending := rest })
    (kept : ∀ s t, Keeps s t → law s → law t) {s t : State} (h : law s) (next : step s = .next t) : law t := by
  cases queue : s.pending with
  | nil =>
    rw [step_nil s queue] at next
    cases next
    exact h
  | cons c rest =>
    rw [step_cons s queue] at next
    obtain ⟨u, runs, keeps⟩ := exec_keeps { s with pending := rest } c
    rw [runs] at next
    cases next
    exact kept _ _ keeps (unqueued s rest h)

/-- Settles O1, by the two cases of the queue. -/
theorem stepRunsTheFrontCommand : Obligations.StepRunsTheFrontCommand :=
  ⟨fun s _ _ queue => step_cons s queue, fun s queue => step_nil s queue⟩

/-- Settles O2, by the cases of the commands. -/
theorem everyCommandGivesANextState : Obligations.EveryCommandGivesANextState := by
  intro c s
  obtain ⟨t, next, keeps⟩ := exec_keeps s c
  exact ⟨t, next, keeps.pending⟩

/-- Settles O3: the values after a part reset have every law, over a blank media store. -/
theorem resetIsSafe : Obligations.ResetIsSafe := safe_afterReset .power [] true _ 0 (by decide)

/-- Settles O4. -/
theorem logLawKept : Obligations.LogLawKept := fun _ _ h next =>
  step_law (law := LogLaw) (fun _ _ => .of_eq rfl rfl) (fun _ _ keeps => keeps.log) h next

/-- Settles O5: each channel rule is lawful (`Desk.Lawful`), the rules of an output period together through `Channel.Midway`. -/
theorem channelContextsKept : Obligations.ChannelContextsKept := fun _ _ h next =>
  step_law (law := ChannelLaws) (fun _ _ h => h) (fun _ _ keeps => keeps.channels) h next

/-- Settles O6: the first lock changes both blocks, so both laws are kept together. -/
theorem feedAndDelayLineKept : Obligations.FeedAndDelayLineKept := fun _ _ feed line next =>
  step_law (law := FeedLaws) (fun _ _ => .of_eq rfl rfl) (fun _ _ keeps => keeps.feed) ⟨feed, line⟩ next

/-- Settles O7, each law from the same step. -/
theorem blockLawsKept : Obligations.BlockLawsKept := by
  refine ⟨⟨fun s t h next => ?_, fun s t h next => ?_⟩, fun s t next => ⟨fun h => ?_, fun h => ?_⟩⟩
  · exact step_law (law := WatchLaws) (fun _ _ h => h) (fun _ _ keeps => keeps.watches) h next
  · exact step_law (law := PortLaw) (fun _ _ => .of_eq rfl) (fun _ _ keeps => keeps.port) h next
  · exact step_law (law := ReturnLaw) (fun _ _ => .of_eq rfl) (fun _ _ keeps => keeps.ret) h next
  · exact step_law (law := FilterLaw) (fun _ _ => .of_eq rfl) (fun _ _ keeps => keeps.filter) h next

/-- Settles O8, each law from the same step. -/
theorem storeAndOutputLawsKept : Obligations.StoreAndOutputLawsKept := by
  refine ⟨fun s t h next => ?_, fun s t h next => ?_, fun s t h next => ?_⟩
  · exact step_law (law := FlashLaw) (fun _ _ h => h) (fun _ _ keeps => keeps.flash) h next
  · exact step_law (law := OutputLaw) (fun _ _ h => h) (fun _ _ keeps => keeps.outputs) h next
  · exact step_law (law := HoldLaw) (fun _ _ => .of_eq rfl) (fun _ _ keeps => keeps.holds) h next

end Sys2Proof.Machine

/-! Received bytes, the answer queue, the return link and the part reset (O10, O12 to O15). -/

namespace Sys2Proof.Machine

/-! ### Received bytes (R186, R187, R197, R214) -/

/-- R186: the check over the bytes before the last four stands in them. -/
def GoodFrame (l : List Byte) : Prop :=
  8 ≤ l.length ∧ (check (l.take (l.length - 4))).toNat = numberOf (l.drop (l.length - 4))

/-- R187, R214: the length that a frame carries, and the length that its kind asks for. -/
def ShapedFrame (l : List Byte) : Prop :=
  numberOf ((l.drop 2).take 2) = l.length ∧
    ((l.getD 0 0 = 1 ∧ l.length = 1164) ∨ (l.getD 0 0 = 2 ∧ l.length = 24) ∨ (l.getD 0 0 = 4 ∧ l.length = 1172) ∨
      (l.getD 0 0 = 3 ∧ 16 ≤ l.length ∧
        ∀ m, blockSize (BitVec.ofNat 16 (numberOf ((l.drop 10).take 2))) = some m → l.length = 16 + m))

/-- R197: a cue of unknown kind, or a SPLIT_ANNOUNCE of a length out of range. -/
def BadCueBody (l : List Byte) : Prop :=
  (l.getD 8 0).toNat < 1 ∨ 4 < (l.getD 8 0).toNat ∨
    (l.getD 8 0 = 1 ∧ (numberOf ((l.drop 16).take 4) = 0 ∨ 2 ^ 31 ≤ numberOf ((l.drop 16).take 4)))

theorem frameGood_iff (l : List Byte) : frameGood l = true ↔ GoodFrame l := by
  simp [frameGood, GoodFrame]

theorem requestShape_iff (l : List Byte) :
    requestShape l = true ↔ 16 ≤ l.length ∧
      ∀ m, blockSize (BitVec.ofNat 16 (numberOf ((l.drop 10).take 2))) = some m → l.length = 16 + m := by
  unfold requestShape
  have same : word16At l 10 = BitVec.ofNat 16 (numberOf ((l.drop 10).take 2)) := rfl
  rw [same]
  cases blockSize (BitVec.ofNat 16 (numberOf ((l.drop 10).take 2))) with
  | none => simp
  | some n => simp

variable {l : List Byte}

theorem inboundOf_good (good : GoodFrame l) (size : numberOf ((l.drop 2).take 2) = l.length) :
    inboundOf l =
      if byteAt l 0 = 1 then
        (if l.length = 1164 then .command (.programmeFrame (word32At l 4) (audioAt l 8)) else .damaged)
      else if byteAt l 0 = 2 then (if l.length = 24 then cueOf l else .damaged)
      else if byteAt l 0 = 3 then (if requestShape l then .command (requestOf l) else .damaged)
      else if byteAt l 0 = 4 then
        (if l.length = 1172 then .command (.segmentFrame (word32At l 4) (word16At l 8) (word32At l 12) (audioAt l 16))
        else .damaged)
      else .damaged := by
  refine if_pos ?_
  rw [Bool.and_eq_true, frameGood_iff, decide_eq_true_eq]
  exact ⟨good, size⟩

theorem inboundOf_damaged (bad : ¬ GoodFrame l ∨ ¬ ShapedFrame l) : inboundOf l = .damaged := by
  by_cases whole : GoodFrame l ∧ numberOf ((l.drop 2).take 2) = l.length
  · obtain ⟨good, size⟩ := whole
    rw [inboundOf_good good size]
    have shape : ¬ ShapedFrame l := bad.resolve_left (not_not.mpr good)
    unfold ShapedFrame at shape
    simp only [size, true_and, not_or, not_and] at shape
    obtain ⟨programme, cue, segment, request⟩ := shape
    split
    · next kind => exact if_neg (programme kind)
    · split
      · next kind => exact if_neg (cue kind)
      · split
        · next kind => exact if_neg (fun shaped => absurd ((requestShape_iff l).mp shaped).2 (request kind ((requestShape_iff l).mp shaped).1))
        · split
          · next kind => exact if_neg (segment kind)
          · rfl
  · refine if_neg ?_
    rw [Bool.and_eq_true, frameGood_iff, decide_eq_true_eq]
    exact whole

theorem inboundOf_cue (good : GoodFrame l) (shaped : ShapedFrame l) (kind : l.getD 0 0 = 2) : inboundOf l = cueOf l := by
  obtain ⟨size, shape⟩ := shaped
  have cue : l.length = 24 := by
    rcases shape with ⟨other, _⟩ | ⟨_, length⟩ | ⟨other, _⟩ | ⟨other, _⟩
    · rw [kind] at other; cases other
    · exact length
    · rw [kind] at other; cases other
    · rw [kind] at other; cases other
  have at0 : byteAt l 0 = 2 := kind
  rw [inboundOf_good good size, at0, if_neg (by decide), if_pos rfl, if_pos cue]

theorem inboundOf_command (good : GoodFrame l) (shaped : ShapedFrame l) (kind : l.getD 0 0 ≠ 2) : ∃ c, inboundOf l = .command c := by
  obtain ⟨size, shape⟩ := shaped
  rw [inboundOf_good good size]
  rcases shape with ⟨programme, length⟩ | ⟨cue, _⟩ | ⟨segment, length⟩ | ⟨request, length, block⟩
  · have at0 : byteAt l 0 = 1 := programme
    rw [at0, if_pos rfl, if_pos length]
    exact ⟨_, rfl⟩
  · exact absurd cue kind
  · have at0 : byteAt l 0 = 4 := segment
    rw [at0, if_neg (by decide), if_neg (by decide), if_neg (by decide), if_pos rfl, if_pos length]
    exact ⟨_, rfl⟩
  · have at0 : byteAt l 0 = 3 := request
    rw [at0, if_neg (by decide), if_neg (by decide), if_pos rfl, if_pos ((requestShape_iff l).mpr ⟨length, block⟩)]
    exact ⟨_, rfl⟩

theorem numberOf_lt (l : List Byte) : numberOf l < 256 ^ l.length := by
  induction l using List.reverseRecOn with
  | nil => exact Nat.one_pos
  | append_singleton l b ih =>
    rw [numberOf_append, List.length_append, List.length_singleton, Nat.pow_succ]
    have byte := b.isLt
    omega

/-- R197: the length in bytes 16 to 19 is in the range of a SPLIT_ANNOUNCE. -/
theorem carriedLength_iff (l : List Byte) :
    announceLength (word32At l 16) = true ↔ ¬ (numberOf ((l.drop 16).take 4) = 0 ∨ 2 ^ 31 ≤ numberOf ((l.drop 16).take 4)) := by
  have word : numberOf ((l.drop 16).take 4) < 2 ^ 32 :=
    (numberOf_lt _).trans_le (Nat.pow_le_pow_right (by decide) (List.length_take_le 4 _) : 256 ^ _ ≤ 256 ^ 4)
  have value : (word32At l 16).toNat = numberOf ((l.drop 16).take 4) := by
    rw [word32At, numberAt, BitVec.toNat_ofNat, Nat.mod_eq_of_lt word]
  rw [announceLength, inRange_iff, value]
  omega

theorem cueOf_bad (bad : BadCueBody l) : cueOf l = .badCue (word32At l 4) := by
  have at8 : byteAt l 8 = l.getD 8 0 := rfl
  unfold cueOf
  rw [at8]
  rcases bad with low | high | ⟨announce, length⟩
  · rw [if_neg, if_neg, if_neg, if_neg] <;> intro kind <;> rw [kind] at low <;> cases low.not_ge (by decide)
  · rw [if_neg, if_neg, if_neg, if_neg] <;> intro kind <;> rw [kind] at high <;> exact absurd high (by decide)
  · rw [if_pos announce, if_neg]
    rw [carriedLength_iff]
    exact not_not.mpr length

theorem cueOf_command (good : ¬ BadCueBody l) : ∃ c, cueOf l = .command c := by
  unfold BadCueBody at good
  rw [not_or, not_or, not_and] at good
  obtain ⟨low, high, length⟩ := good
  unfold cueOf
  by_cases announce : byteAt l 8 = 1
  · rw [if_pos announce, if_pos ((carriedLength_iff l).mpr (length announce))]
    exact ⟨_, rfl⟩
  · rw [if_neg announce]
    have kinds : byteAt l 8 = 2 ∨ byteAt l 8 = 3 ∨ byteAt l 8 = 4 := by
      change ¬ (byteAt l 8).toNat < 1 at low
      change ¬ 4 < (byteAt l 8).toNat at high
      bv_omega
    rcases kinds with kind | kind | kind
    · exact ⟨_, if_pos kind⟩
    · rw [kind]
      exact ⟨_, rfl⟩
    · rw [kind]
      exact ⟨_, rfl⟩

/-- Settles O10, by what the bytes say: a damaged frame, a cue, or another frame. -/
theorem badFramesAreCounted : Obligations.BadFramesAreCounted := by
  intro s l counted n kind good shaped address length badCue
  have runs : exec (.badLinkFrame l) s = execBadLinkFrame l s := rfl
  have counts : s.linkError = counted := rfl
  rw [runs, execBadLinkFrame]
  refine ⟨fun bad => ?_, fun good shaped ⟨cue, body⟩ => ?_, fun good shaped other => ?_⟩
  · rw [inboundOf_damaged (l := l) bad]
    rfl
  · rw [inboundOf_cue good shaped cue, cueOf_bad body]
    exact ⟨fun reaches => congrArg Host.Outcome.next (if_neg reaches), fun misses => congrArg Host.Outcome.next (if_pos misses)⟩
  · by_cases cue : l.getD 0 0 = 2
    · obtain ⟨c, command⟩ := cueOf_command (l := l) (fun body => other ⟨cue, body⟩)
      rw [inboundOf_cue good shaped cue, command]
    · obtain ⟨c, command⟩ := inboundOf_command (l := l) good shaped cue
      rw [command]

/-! ### Answers, the return link and the status (R200, R203 to R209) -/

theorem ReturnLink.enqueue_room (t : ReturnLink) (x : Answer) (room : t.queue.length < 16) :
    t.enqueue x = { t with queue := t.queue ++ [x] } := if_pos room

theorem ReturnLink.enqueue_full (t : ReturnLink) (x : Answer) (full : 16 ≤ t.queue.length) :
    t.enqueue x = { t with answerLost := true } := if_neg full.not_gt

/-- Settles O12, by the room in the queue. -/
theorem answersAreQueued : Obligations.AnswersAreQueued :=
  ⟨fun s a _ _ reached => congrArg Host.Outcome.next (s.atPart_reached a _ reached),
    fun t x => ⟨t.enqueue_room x, t.enqueue_full x⟩⟩

theorem answerDue_iff (s : State) : s.answerDue = true ↔ s.ret.inFlight = none ∧ s.ret.queue ≠ [] ∧ s.ret.carrier = true := by
  simp [State.answerDue, and_assoc]

theorem reportDue_iff (s : State) :
    s.reportDue = true ↔ s.ret.inFlight = none ∧ s.ret.queue = [] ∧ s.ret.carrier = true ∧ s.log.send < s.log.write := by
  simp [State.reportDue, and_assoc]

/-- Settles O13, by what is in flight. -/
theorem returnLinkFrames : Obligations.ReturnLinkFrames := by
  intro s
  refine ⟨fun idle queued carrier => ?_, fun flying => ?_, fun idle empty carrier unsent => ?_, fun r flying => ?_,
    fun r flying => ?_, fun flying => ?_, rfl⟩
  · exact congrArg Host.Outcome.next (if_pos ((answerDue_iff s).mpr ⟨idle, queued, carrier⟩))
  · change execAnswerFrameComplete s = _
    rw [execAnswerFrameComplete, flying]
    rfl
  · exact congrArg Host.Outcome.next (if_pos ((reportDue_iff s).mpr ⟨idle, empty, carrier, unsent⟩))
  · change execReportFrameComplete s = _
    rw [execReportFrameComplete, flying]
    rfl
  · change execCarrierLoss s = _
    rw [execCarrierLoss, flying]
    rfl
  · change execCarrierLoss s = _
    rcases flying with flying | flying
    · rw [execCarrierLoss, flying]
      rfl
    · rw [execCarrierLoss, flying]
      rfl

theorem exec_statusQuery {s : State} {a : Address} (reached : s.reached a) (tag : BitVec 16) (clear : Byte) :
    exec (.statusQuery a tag clear) s = .next ((switch clear).elim (s.answer tag 0x001A .badField) fun c =>
      (if c then { s with ret := { s.ret with answerLost := false }, log := { s.log with overrun := false } } else s : State).answer
        tag 0x001A .done (.status s.status)) := by
  refine congrArg Host.Outcome.next ((s.atPart_reached a _ reached).trans ?_)
  cases switch clear <;> rfl

theorem vector4_toList {α : Type} (v : Vector α 4) : v.toList = [v.get 0, v.get 1, v.get 2, v.get 3] := by
  obtain ⟨⟨l⟩, size⟩ := v
  obtain ⟨a, b, c, d, rfl⟩ := List.length_eq_four.mp size
  rfl

theorem toList_any_iff {α : Type} {n : Nat} (v : Vector α n) (p : α → Bool) :
    v.toList.any p = true ↔ ∃ i, p (v.get i) = true := by
  rw [List.any_eq_true]
  constructor
  · rintro ⟨x, mem, has⟩
    obtain ⟨i, rfl⟩ := (mem_toList_iff_get v x).mp mem
    exact ⟨i, has⟩
  · rintro ⟨i, has⟩
    exact ⟨v.get i, (mem_toList_iff_get v _).mpr ⟨i, rfl⟩, has⟩

/-- Settles O14: the reply by the switch, the ALERT line by its five causes. -/
theorem statusAndAlert : Obligations.StatusAndAlert := by
  constructor
  · intro s a tag clear reached p
    have status : s.status = p := by
      unfold State.status
      rw [vector4_toList]
      rfl
    rw [exec_statusQuery reached, status]
    refine ⟨?_, ?_, fun bad => ?_⟩
    · rintro rfl
      rfl
    · rintro rfl
      rfl
    · rw [switch_uncoded bad]
      rfl
  · intro s
    simp only [State.alert, Bool.or_eq_true, decide_eq_true_eq, toList_any_iff, or_assoc]

end Sys2Proof.Machine

/-! The part reset (O15): the operation of each bank ends in the media store on its own pages. -/

namespace Sys2Proof.Machine

/-- The pages that an operation of a bank may change. -/
def BankOp.touches : BankOp → Nat → Prop
  | .read, _ => False
  | .program p _ _, n => n = p.unit * 64 + p.page
  | .erase unit, n => n / 64 = unit

theorem Flash.read_program_other (m : Flash) {n k : Nat} (p : FlashPage) (h : k ≠ n) :
    Flash.read (m.program n p) k = Flash.read m k := by
  unfold Flash.program
  split
  · exact m.read_write_other n k p h
  · rfl

theorem Flash.read_program_same {m : Flash} {n : Nat} (p : FlashPage) (wf : m.wf = true) (inside : n < Flash.pages) :
    Flash.read (m.program n p) n = trimPage p := by
  obtain ⟨sorted, _⟩ := m.wf_iff.mp wf
  rw [Flash.program, if_pos inside, m.read_write_same n p sorted]
  split
  · next blank => exact (by simpa [isBlank] using blank : trimPage p = blankPage).symm
  · rfl

theorem Flash.read_eraseUnit_other (m : Flash) {unit k : Nat} (h : k / 64 ≠ unit) :
    Flash.read (m.eraseUnit unit) k = Flash.read m k := by
  have found : (m.eraseUnit unit).lookup k = m.lookup k := by
    unfold Flash.eraseUnit
    induction m with
    | nil => rfl
    | cons e rest ih =>
      obtain ⟨n, p⟩ := e
      by_cases same : k = n
      · subst same
        have kept : decide (k / Config.pagesPerUnit ≠ unit) = true := decide_eq_true h
        rw [List.filter_cons, if_pos kept, List.lookup_cons_self, List.lookup_cons_self]
      · have differs : (k == n) = false := by simpa using same
        rw [List.filter_cons]
        split
        · rw [List.lookup_cons, List.lookup_cons, differs, ih]
        · rw [List.lookup_cons, differs, ih]
  rw [Flash.read, found]
  rfl

theorem Flash.read_loosePages_other (m : Flash) (fresh : Nat) {unit first n k : Nat} (pages : first + n ≤ 64) (h : k / 64 ≠ unit) :
    Flash.read (m.loosePages fresh unit first n) k = Flash.read m k := by
  induction n with
  | zero => rfl
  | succ n ih =>
    have other : k ≠ pageNumber unit (first + n) := by
      rintro rfl
      simp only [pageNumber, Config.pagesPerUnit] at h
      omega
    exact (Flash.read_program_other _ _ other).trans (ih (by omega))

theorem Flash.read_partErased_other (m : Flash) (fresh : Nat) {unit k : Nat} (page0 : FlashPage) (h : k / 64 ≠ unit) :
    Flash.read (m.partErased fresh unit page0) k = Flash.read m k := by
  have other : k ≠ pageNumber unit 0 := by
    rintro rfl
    simp only [pageNumber, Config.pagesPerUnit] at h
    omega
  exact (Flash.read_program_other _ _ other).trans (m.read_loosePages_other fresh (by decide) h)

/-- R171: an operation ended by a part reset changes no page outside its own. -/
theorem Flash.read_settle_other (m : Flash) (fresh : Nat) {op : Option BankOp} {n : Nat} (h : ∀ x, op = some x → ¬ x.touches n) :
    Flash.read (m.settle fresh op) n = Flash.read m n := by
  unfold Flash.settle
  split
  · exact Flash.read_program_other _ _ (h _ rfl)
  · next unit =>
    have outside : n / 64 ≠ unit := h _ rfl
    split
    · exact m.read_eraseUnit_other outside
    · exact m.read_partErased_other _ _ outside
    · exact m.read_partErased_other _ _ outside
    · refine Flash.read_program_other _ _ ?_
      rintro rfl
      simp only [pageNumber, Config.pagesPerUnit] at outside
      omega
  · rfl
  · rfl

/-- The banks in a list settled in its order, each with its own free value. -/
def Flash.settleBanks (m : Flash) (fresh : Nat) (ops : Vector (Option BankOp) 4) (banks : List (Fin 4)) : Flash :=
  banks.foldl (fun m b => m.settle (fresh + b.val) (ops.get b)) m

theorem partReset_flash (s : State) (cause : ResetCause) :
    (s.partReset cause).flash = Flash.settleBanks s.flash s.fresh s.arbiter.banks [0, 1, 2, 3] := rfl

variable {fresh : Nat} {ops : Vector (Option BankOp) 4}

theorem Flash.settle_idle (m : Flash) {fresh : Nat} {op : Option BankOp} (idle : op = none ∨ op = some .read) : m.settle fresh op = m := by
  rcases idle with rfl | rfl <;> rfl

theorem Flash.settleBanks_idle (m : Flash) {banks : List (Fin 4)} (idle : ∀ b ∈ banks, ops.get b = none ∨ ops.get b = some .read) :
    m.settleBanks fresh ops banks = m := by
  induction banks with
  | nil => rfl
  | cons b rest ih =>
    obtain ⟨now, later⟩ := List.forall_mem_cons.mp idle
    unfold Flash.settleBanks
    rw [List.foldl_cons, m.settle_idle now]
    exact ih later

theorem Flash.settleBanks_wf (m : Flash) (banks : List (Fin 4)) (wf : m.wf = true) : (m.settleBanks fresh ops banks).wf = true := by
  induction banks generalizing m with
  | nil => exact wf
  | cons b rest ih => exact ih _ (Flash.settle_wf _ _ _ wf)

theorem Flash.read_settleBanks_other (m : Flash) {banks : List (Fin 4)} {n : Nat}
    (h : ∀ b ∈ banks, ∀ x, ops.get b = some x → ¬ x.touches n) : Flash.read (m.settleBanks fresh ops banks) n = Flash.read m n := by
  induction banks generalizing m with
  | nil => rfl
  | cons b rest ih =>
    obtain ⟨now, later⟩ := List.forall_mem_cons.mp h
    exact (ih _ later).trans (m.read_settle_other _ now)

/-- The four banks around one of them: those settled before and those settled after it. -/
theorem banks_around (b : Fin 4) : ∃ pre post, [0, 1, 2, 3] = pre ++ b :: post ∧ (∀ m ∈ pre, m ≠ b) ∧ ∀ m ∈ post, m ≠ b := by
  obtain ⟨pre, post, eq⟩ := List.append_of_mem (show b ∈ [0, 1, 2, 3] by fin_cases b <;> simp)
  have nodup : (pre ++ b :: post).Nodup := eq ▸ (by decide)
  obtain ⟨_, after, apart⟩ := List.nodup_append.mp nodup
  obtain ⟨fresh, _⟩ := List.nodup_cons.mp after
  exact ⟨pre, post, eq, fun m mem => apart m mem b List.mem_cons_self, fun m mem same => fresh (same ▸ mem)⟩

theorem Flash.settleBanks_around (m : Flash) (pre post : List (Fin 4)) (b : Fin 4) :
    m.settleBanks fresh ops (pre ++ b :: post) =
      ((m.settleBanks fresh ops pre).settle (fresh + b.val) (ops.get b)).settleBanks fresh ops post := by
  unfold Flash.settleBanks
  rw [List.foldl_append, List.foldl_cons]

theorem Flash.settleBanks_alone (m : Flash) (b : Fin 4) (alone : ∀ k, k ≠ b → ops.get k = none ∨ ops.get k = some .read) :
    m.settleBanks fresh ops [0, 1, 2, 3] = m.settle (fresh + b.val) (ops.get b) := by
  obtain ⟨pre, post, eq, before, after⟩ := banks_around b
  rw [eq, m.settleBanks_around, m.settleBanks_idle (fun k mem => alone k (before k mem)),
    Flash.settleBanks_idle _ (fun k mem => alone k (after k mem))]

/-- What a program in flight may have left in its page at a part reset (R169, R171). -/
def Program.leaves (p : Program) (q : FlashPage) : Prop :=
  (p.kind ≠ .cartHeader ∧ q = p.contents) ∨
    (isBlank q = false ∧ q ≠ .void ∧ pageBytes q 0 8 ≠ badMark ∧ checkGood q 8 = false ∧ checkGood q 20 = false)

theorem settledPage_leaves (fresh : Nat) (p : Program) : p.leaves (settledPage fresh p) := by
  rcases settledPage_cases fresh p with whole | cut
  · exact .inl whole
  · rw [cut]
    exact .inr (cutPage_damaged _)

theorem Flash.read_settleBanks_program {m : Flash} (wf : m.wf = true) {b : Fin 4} {p : Program} {c : Fin 1024} {tag : BitVec 32}
    (busy : ops.get b = some (.program p c tag)) (unit : p.unit < 4096) (page : p.page < 64)
    (others : ∀ k, k ≠ b → ∀ x, ops.get k = some x → ¬ x.touches (p.unit * 64 + p.page)) :
    ∃ q, Flash.read (m.settleBanks fresh ops [0, 1, 2, 3]) (p.unit * 64 + p.page) = trimPage q ∧ p.leaves q := by
  obtain ⟨pre, post, eq, _, after⟩ := banks_around b
  refine ⟨settledPage (fresh + b.val) p, ?_, settledPage_leaves _ p⟩
  rw [eq, m.settleBanks_around, Flash.read_settleBanks_other _ (fun k mem => others k (after k mem)), busy]
  refine Flash.read_program_same _ (m.settleBanks_wf pre wf) ?_
  simp only [Flash.pages, pageNumber, Config.pagesPerUnit]
  omega

/-- R211, R169, R171: what a part reset leaves. -/
structure AfterReset (s : State) (cause : ResetCause) (t : State) : Prop where
  values : t = State.afterReset cause s.pending t.flash s.ret.carrier t.lines t.fresh
  restart : t.log.slots.get 1 = some { sequence := 1, kind := .restart, position := 0, reason := some (.restart cause),
                                       detail := some Config.serialAddress }
  fire : ∀ n, t.lines.fire.get n = if s.lines.fire.get n = .high then .high else .spent
  flash : t.flash = Flash.settleBanks s.flash s.fresh s.arbiter.banks [0, 1, 2, 3]

theorem Line.afterReset_eq (x : Line) : x.afterReset = if x = .high then .high else .spent := by
  cases x <;> rfl

theorem partReset_after (s : State) (cause : ResetCause) : AfterReset s cause (s.partReset cause) where
  values := rfl
  restart := by
    change ((Vector.replicate 512 none).set 1 (some (Record.restart cause)))[1] = _
    simp [Record.restart]
  fire n := by
    change (s.lines.fire.map Line.afterReset).get n = _
    rw [Vector.get_map, Line.afterReset_eq]
  flash := rfl

/-- Settles O15: the store after the operations of the four banks, and each way to a part reset. -/
theorem partResets : Obligations.PartResets := by
  intro s a tag touches written after
  have untouched : ∀ b n, ¬ touches b n → ∀ x, s.arbiter.banks.get b = some x → ¬ x.touches n := by
    intro b n free x busy
    cases x with
    | read => exact id
    | program p c tag => exact fun at' => free (.inl ⟨p, c, tag, busy, at'⟩)
    | erase unit => exact fun at' => free (.inr (at' ▸ busy))
  have resets : ∀ cause t, AfterReset s cause t → after cause t := by
    rintro cause t ⟨values, restart, fire, flash⟩
    refine ⟨values, restart, fire, fun idle => ?_, fun b alone => ⟨fun p c tag busy => ?_, fun u busy n outside => ?_⟩,
      fun n free => ?_, fun b p c tag wf busy unit page others => ?_⟩
    · rw [flash, Flash.settleBanks_idle _ (fun b _ => idle b)]
    · refine ⟨settledPage (s.fresh + b.val) p, ?_, settledPage_leaves _ p⟩
      rw [flash, Flash.settleBanks_alone _ b alone, busy]
      rfl
    · rw [flash, Flash.settleBanks_alone _ b alone, busy]
      refine Flash.read_settle_other _ _ (fun x is => ?_)
      cases is
      exact outside
    · rw [flash]
      exact Flash.read_settleBanks_other _ (fun b _ => untouched b n (free b))
    · rw [flash]
      exact Flash.read_settleBanks_program wf busy unit page (fun k other => untouched k _ (others k other))
  refine ⟨⟨_, rfl, resets _ _ (partReset_after s .power), rfl⟩, fun reached => ?_, fun waiting => ?_, fun high => ?_, fun spent => ?_, rfl⟩
  · exact ⟨_, congrArg Host.Outcome.next (s.atPart_reached a _ reached), resets _ _ (partReset_after s .request), rfl⟩
  · refine ⟨(s.setResetLine .spent).partReset .line, ?_, ?_, rfl⟩
    · change execResetLine .heldLow s = _
      unfold execResetLine
      rw [waiting]
    · exact resets _ _ ⟨rfl, (partReset_after s .line).restart, (partReset_after s .line).fire, rfl⟩
  · change execResetLine .falls s = _
    unfold execResetLine
    rw [high]
    rfl
  · change execResetLine .heldLow s = _
    unfold execResetLine
    rw [spent]

end Sys2Proof.Machine

/-! The feed and its watches: what a frame observed, a loss and the requests give (O18, O19, O21, O24). -/

namespace Sys2Proof.Machine

/-! ### The watches (R17, R18, R20, R21) -/

theorem Watch.ended_eq (w : Watch) : w.ended = w.cleared := rfl

theorem Watch.lengthen_eq (w : Watch) (x : FrameNo) (depth : Nat) : w.lengthen x depth = w.counted x depth := rfl

theorem Feed.publishBreak_eq_broke (f : Feed) (cause : BreakCause) (point : FrameNo) : f.publishBreak cause point = f.broke cause point := by
  unfold Feed.publishBreak Feed.broke
  cases f.brk <;> rfl

theorem Watch.meets_iff (w : Watch) (depth : Nat) :
    w.meets depth = true ↔ (w.direction = .quiet ∧ w.threshold ≤ depth) ∨ (w.direction = .loud ∧ depth < w.threshold) := by
  unfold Watch.meets
  cases w.direction <;> simp

theorem Watch.due_iff (w : Watch) :
    w.due = true ↔ w.enabled = true ∧ w.tripped = false ∧ w.run ≠ 0 ∧ w.window ≤ w.run := by
  simp [Watch.due, and_assoc]

theorem Watch.counted_run (w : Watch) (x : FrameNo) (depth : Nat) : (w.counted x depth).run ≠ 0 := by
  unfold Watch.counted
  dsimp only
  split
  · exact Nat.one_ne_zero
  · next run =>
    change satInc w.run ≠ 0
    unfold satInc
    split <;> omega

theorem Watch.counted_same (w : Watch) (x : FrameNo) (depth : Nat) :
    (w.counted x depth).enabled = w.enabled ∧ (w.counted x depth).tripped = w.tripped ∧
      (w.counted x depth).window = w.window ∧ (w.counted x depth).direction = w.direction := by
  unfold Watch.counted
  dsimp only
  split <;> exact ⟨rfl, rfl, rfl, rfl⟩

variable (s : State) (i : Fin 5)

/-- R20: the WATCH_TRIP record of a run. -/
def Watch.tripRecord (w : Watch) (i : Fin 5) : Record :=
  { sequence := 0, kind := .watchTrip, position := w.first.getD 0, watch := some i, detail := some (BitVec.ofNat 32 w.extreme) }

/-- R17: the trip of watch i silences the feed. -/
def State.Silences (s : State) (i : Fin 5) (w : Watch) : Prop := i = 0 ∧ w.direction = .quiet ∧ s.feed.state = .locked

theorem State.tripWatch_plain (plain : ¬ s.Silences i (s.watches.get i)) :
    s.tripWatch i = { s with watches := put s.watches i { s.watches.get i with tripped := true }
                             log := s.log.append ((s.watches.get i).tripRecord i) } := by
  unfold State.tripWatch
  exact (congrArg (State.append · ((s.watches.get i).tripRecord i)) (if_neg plain)).trans rfl

theorem State.tripWatch_silences (silences : s.Silences i (s.watches.get i)) :
    s.tripWatch i = { s with
      watches := put s.watches i { s.watches.get i with tripped := true }
      feed := { s.feed.broke .silent ((s.watches.get i).first.getD 0) with state := .silent }
      log := (s.log.append { sequence := 0, kind := .feedSilent, position := (s.watches.get i).first.getD 0 }).append
        ((s.watches.get i).tripRecord i) } := by
  rw [← Feed.publishBreak_eq_broke]
  unfold State.tripWatch
  exact (congrArg (State.append · ((s.watches.get i).tripRecord i)) (if_pos silences)).trans rfl

theorem State.observe_met (x : FrameNo) (depth : Nat) (on : (s.watches.get i).enabled = true)
    (met : (s.watches.get i).meets depth = true) :
    s.observe i x depth = if ((s.watches.get i).counted x depth).due then
      (s.setWatch i ((s.watches.get i).counted x depth)).tripWatch i else s.setWatch i ((s.watches.get i).counted x depth) := by
  unfold State.observe
  dsimp only
  rw [if_pos on, if_pos met]
  rfl

theorem State.observe_unmet (x : FrameNo) (depth : Nat) (on : (s.watches.get i).enabled = true)
    (unmet : ¬ (s.watches.get i).meets depth = true) :
    s.observe i x depth = if (s.watches.get i).tripped then
        (if i = 0 ∧ s.feed.state = .silent then
          (((s.setWatch i (s.watches.get i).cleared).append ((s.watches.get i).clearRecord i x .frame))).endSilence x
        else (s.setWatch i (s.watches.get i).cleared).append ((s.watches.get i).clearRecord i x .frame))
      else s.setWatch i (s.watches.get i).cleared := by
  unfold State.observe
  dsimp only
  rw [if_pos on, if_neg unmet]
  rfl

theorem State.lossDue_iff : s.lossDue = true ↔ (s.feed.state = .locked ∨ s.feed.state = .silent) ∧ s.feed.lossWait ≤ s.feed.idle := by
  simp [State.lossDue]

theorem State.loseFeed_eq : s.loseFeed = s.feedGone (s.feed.newest + 1) := by
  unfold State.feedGone
  rw [← Feed.publishBreak_eq_broke]
  unfold State.loseFeed State.endFeedRun
  dsimp only [State.append, State.setWatch]
  split <;> rfl

/-- A run counted: the watch left as it is counted, tripped, or tripped with the feed made SILENT. -/
theorem State.observe_counts (x : FrameNo) (depth : Nat) (on : (s.watches.get i).enabled = true)
    (met : (s.watches.get i).meets depth = true) :
    let w := s.watches.get i
    let run := w.counted x depth
    (w.tripped = true ∨ run.run < w.window → s.observe i x depth = { s with watches := put s.watches i run }) ∧
    (w.tripped = false → w.window ≤ run.run →
      (¬ s.Silences i w → s.observe i x depth = { s with
        watches := put s.watches i { run with tripped := true }, log := s.log.append (run.tripRecord i) }) ∧
      (s.Silences i w → s.observe i x depth = { s with
        watches := put s.watches i { run with tripped := true }
        feed := { s.feed.broke .silent (run.first.getD 0) with state := .silent }
        log := (s.log.append { sequence := 0, kind := .feedSilent, position := run.first.getD 0 }).append (run.tripRecord i) })) := by
  intro w run
  obtain ⟨enabled, tripped, window, direction⟩ := w.counted_same x depth
  have due : run.due = true ↔ w.tripped = false ∧ w.window ≤ run.run := by
    rw [Watch.due_iff, enabled, tripped, window]
    have counts := w.counted_run x depth
    exact ⟨fun ⟨_, idle, _, reached⟩ => ⟨idle, reached⟩, fun ⟨idle, reached⟩ => ⟨on, idle, counts, reached⟩⟩
  have now : (s.setWatch i run).watches.get i = run := get_put_same _ _ _
  have twice : ∀ y, put (s.setWatch i run).watches i y = put s.watches i y := put_put _ _ _
  have silences : (s.setWatch i run).Silences i run ↔ s.Silences i w := by
    unfold State.Silences
    rw [direction]
    rfl
  rw [State.observe_met s i x depth on met]
  refine ⟨fun holds => ?_, fun idle reached => ⟨fun plain => ?_, fun silent => ?_⟩⟩
  · refine if_neg (fun trips => ?_)
    obtain ⟨idle, reached⟩ := due.mp trips
    rcases holds with has | short
    · rw [idle] at has
      cases has
    · omega
  · rw [if_pos (due.mpr ⟨idle, reached⟩), State.tripWatch_plain _ i (now.symm ▸ mt silences.mp plain), now, twice]
    rfl
  · rw [if_pos (due.mpr ⟨idle, reached⟩), State.tripWatch_silences _ i (now.symm ▸ silences.mpr silent), now, twice]
    rfl

/-- A run ended: with its WATCH_CLEAR record after a trip, and the feed LOCKED again where it was SILENT. -/
theorem State.observe_clears (x : FrameNo) (depth : Nat) (on : (s.watches.get i).enabled = true)
    (unmet : ¬ (s.watches.get i).meets depth = true) :
    let w := s.watches.get i
    (w.tripped = false → s.observe i x depth = { s with watches := put s.watches i w.cleared }) ∧
    (w.tripped = true →
      (¬ (i = 0 ∧ s.feed.state = .silent) → s.observe i x depth = { s with
        watches := put s.watches i w.cleared, log := s.log.append (w.clearRecord i x .frame) }) ∧
      (i = 0 ∧ s.feed.state = .silent → s.observe i x depth = { s with
        watches := put s.watches i w.cleared
        feed := { s.feed.resumed x with state := .locked }
        log := (s.log.append (w.clearRecord i x .frame)).append { sequence := 0, kind := .feedRestored, position := x } })) := by
  intro w
  rw [State.observe_unmet s i x depth on unmet]
  refine ⟨fun idle => ?_, fun tripped => ⟨fun stays => ?_, fun restores => ?_⟩⟩
  · exact if_neg (by rw [idle]; exact Bool.false_ne_true)
  · rw [if_pos tripped, if_neg stays]
    rfl
  · rw [if_pos tripped, if_pos restores]
    rfl

/-- Settles O24: a loss, a trip, and a frame observed, by the cases of the watch. -/
theorem feedLostAndWatchTrip : Obligations.FeedLostAndWatchTrip := by
  refine ⟨fun s last state had waits => ?_, fun s idle => ?_, fun s i on idle run reached => ⟨fun plain => ?_, fun first quiet locked => ?_⟩,
    fun s i undue => ?_, fun s i x depth => ⟨fun off => ?_, fun on has => ?_, fun on hasnt => ?_⟩⟩
  · have newest : s.feed.newest = last := by rw [Feed.newest, had]; rfl
    refine congrArg Host.Outcome.next ((if_pos (s.lossDue_iff.mpr ⟨state, waits⟩)).trans ?_)
    rw [State.loseFeed_eq, newest]
  · refine congrArg Host.Outcome.next (if_neg (fun due => ?_))
    obtain ⟨state, waits⟩ := s.lossDue_iff.mp due
    rcases idle with none_yet | lost | short
    · rw [none_yet] at state
      rcases state with state | state <;> cases state
    · rw [lost] at state
      rcases state with state | state <;> cases state
    · omega
  · refine congrArg Host.Outcome.next ((if_pos ((Watch.due_iff _).mpr ⟨on, idle, run, reached⟩)).trans ?_)
    refine State.tripWatch_plain s i (fun ⟨first, quiet, locked⟩ => ?_)
    rcases plain with other | loud | unlocked
    · exact other first
    · cases quiet.symm.trans loud
    · exact unlocked locked
  · exact congrArg Host.Outcome.next ((if_pos ((Watch.due_iff _).mpr ⟨on, idle, run, reached⟩)).trans
      (State.tripWatch_silences s i ⟨first, quiet, locked⟩))
  · refine congrArg Host.Outcome.next (if_neg (fun due => ?_))
    obtain ⟨on, idle, run, reached⟩ := (Watch.due_iff _).mp due
    rcases undue with off | tripped | none_yet | short
    · exact absurd (off.symm.trans on) Bool.false_ne_true
    · exact absurd (idle.symm.trans tripped) Bool.false_ne_true
    · exact run none_yet
    · omega
  · exact s.observe_disabled i x depth off
  · exact s.observe_counts i x depth on ((Watch.meets_iff _ depth).mpr has)
  · exact s.observe_clears i x depth on (mt (Watch.meets_iff _ depth).mp hasnt)

/-! ### The settings (R7, R19, R22) -/

theorem exec_feedSet {s : State} {a : Address} (reached : s.reached a) (tag : BitVec 16) (w : Byte) :
    exec (.feedSet a tag w) s = .next (if inRange 5 250 w.toNat then
      ({ s with feed := { s.feed with lossWait := w.toNat } } : State).answer tag 0x0001 .done else s.answer tag 0x0001 .badField) :=
  congrArg Host.Outcome.next (s.atPart_reached a _ reached)

theorem exec_watchSet {s : State} {a : Address} (reached : s.reached a) (tag : BitVec 16) (watch threshold direction enable : Byte)
    (window : BitVec 16) :
    exec (.watchSet a tag watch threshold direction window enable) s = .next (
      (field 5 watch.toNat).elim (s.answer tag 0x0003 .badField) fun i =>
        (directionOf direction).elim (s.answer tag 0x0003 .badField) fun dir =>
          (switch enable).elim (s.answer tag 0x0003 .badField) fun on =>
            if inRange 0 96 threshold.toNat && inRange 1 15000 window.toNat then
              (s.changeWatch i threshold.toNat dir window.toNat on).answer tag 0x0003 .done
            else s.answer tag 0x0003 .badField) := by
  refine congrArg Host.Outcome.next ((s.atPart_reached a _ reached).trans ?_)
  cases field 5 watch.toNat <;> cases directionOf direction <;> cases switch enable <;> rfl

/-- R22: the settings that a WATCH_SET carries, with the measurement abandoned. -/
def carriedWatch (threshold direction enable : Byte) (window : BitVec 16) : Watch :=
  { threshold := threshold.toNat, direction := if direction = 0 then .quiet else .loud, window := window.toNat,
    enabled := decide (enable = 1), tripped := false, run := 0, first := none, extreme := 0 }

/-- R22: a field of WATCH_SET out of its range. -/
def BadWatchSet (watch threshold direction enable : Byte) (window : BitVec 16) : Prop :=
  5 ≤ watch.toNat ∨ 96 < threshold.toNat ∨ 2 ≤ direction.toNat ∨ window.toNat < 1 ∨ 15000 < window.toNat ∨ 2 ≤ enable.toNat

theorem directionOf_coded {b : Byte} (h : b.toNat < 2) : directionOf b = some (if b = 0 then .quiet else .loud) := by
  obtain rfl | rfl : b = 0 ∨ b = 1 := by bv_omega
  · rfl
  · rfl

theorem directionOf_uncoded {b : Byte} (h : 2 ≤ b.toNat) : directionOf b = none := by
  have h0 : b ≠ 0 := by rintro rfl; exact absurd h (by decide)
  have h1 : b ≠ 1 := by rintro rfl; exact absurd h (by decide)
  rw [directionOf, if_neg h0, if_neg h1]

section
variable {s : State} {a : Address} (reached : s.reached a) (tag : BitVec 16) {watch threshold direction enable : Byte}
  {window : BitVec 16}
include reached

theorem exec_watchSet_bad (bad : BadWatchSet watch threshold direction enable window) :
    exec (.watchSet a tag watch threshold direction window enable) s = .next (s.answer tag 0x0003 .badField) := by
  rw [exec_watchSet reached]
  refine congrArg Host.Outcome.next ?_
  by_cases inside : watch.toNat < 5
  · rw [field_inside inside, Option.elim_some]
    by_cases coded : direction.toNat < 2
    · rw [directionOf_coded coded, Option.elim_some]
      by_cases switched : enable.toNat < 2
      · rw [switch_coded switched, Option.elim_some, if_neg]
        rw [Bool.and_eq_true, inRange_iff, inRange_iff]
        unfold BadWatchSet at bad
        omega
      · rw [switch_uncoded (not_lt.mp switched), Option.elim_none]
    · rw [directionOf_uncoded (not_lt.mp coded), Option.elim_none]
  · rw [field_outside inside, Option.elim_none]

theorem exec_watchSet_good (good : ¬ BadWatchSet watch threshold direction enable window) {i : Fin 5} (number : watch.toNat = i.val) :
    exec (.watchSet a tag watch threshold direction window enable) s =
      .next ((s.changeWatch i threshold.toNat (if direction = 0 then .quiet else .loud) window.toNat (decide (enable = 1))).answer
        tag 0x0003 .done) := by
  unfold BadWatchSet at good
  rw [exec_watchSet reached, field_eq_some i number, Option.elim_some, directionOf_coded (by omega), Option.elim_some,
    switch_coded (by omega), Option.elim_some, if_pos]
  rw [Bool.and_eq_true, inRange_iff, inRange_iff]
  omega

end

/-- R22: the log after a watch is set: its WATCH_CLEAR record where it was tripped. -/
def State.setLog (s : State) (i : Fin 5) : Log :=
  let w := s.watches.get i
  if w.tripped then s.log.append (w.clearRecord i (w.first.getD 0) .set) else s.log

theorem State.changeWatch_plain (s : State) (i : Fin 5) (threshold direction enable : Byte) (window : BitVec 16)
    (plain : ¬ (i = 0 ∧ s.feed.state = .silent)) :
    s.changeWatch i threshold.toNat (if direction = 0 then .quiet else .loud) window.toNat (decide (enable = 1)) =
      { s with watches := put s.watches i (carriedWatch threshold direction enable window), log := s.setLog i } := by
  unfold State.changeWatch State.setLog
  extract_lets w _ set told
  have tells : told = { s with watches := put s.watches i (carriedWatch threshold direction enable window)
                               log := if w.tripped then s.log.append (w.clearRecord i (w.first.getD 0) .set) else s.log } := by
    unfold told
    split <;> rfl
  rw [tells]
  exact if_neg plain

theorem State.changeWatch_silent (s : State) (threshold direction enable : Byte) (window : BitVec 16)
    (silent : s.feed.state = .silent) :
    s.changeWatch 0 threshold.toNat (if direction = 0 then .quiet else .loud) window.toNat (decide (enable = 1)) =
      { s with watches := put s.watches 0 (carriedWatch threshold direction enable window)
               feed := { s.feed.resumed (s.feed.newest + 1) with state := .locked }
               log := (s.setLog 0).append { sequence := 0, kind := .feedRestored, position := s.feed.newest + 1 } } := by
  unfold State.changeWatch State.setLog
  extract_lets w _ set told
  have tells : told = { s with watches := put s.watches 0 (carriedWatch threshold direction enable window)
                               log := if w.tripped then s.log.append (w.clearRecord 0 (w.first.getD 0) .set) else s.log } := by
    unfold told
    split <;> rfl
  rw [tells]
  exact if_pos ⟨rfl, silent⟩

/-! ### The feed in an output period (R11) -/

theorem State.advance_feed_same (s : State) :
    s.advance.feed.state = s.feed.state ∧ s.advance.feed.idle = s.feed.idle ∧ s.advance.feed.lossWait = s.feed.lossWait ∧
      s.advance.feed.last = s.feed.last := by
  unfold State.advance
  dsimp only
  split
  · rcases s.feed.removePast_cases _ with eq | ⟨_, eq⟩ <;> rw [eq] <;> exact ⟨rfl, rfl, rfl, rfl⟩
  · exact ⟨rfl, rfl, rfl, rfl⟩

theorem State.channelPeriods_feed (ns : List (Fin 4)) (s : State) : (ns.foldl State.channelPeriod s).feed = s.feed := by
  induction ns generalizing s with
  | nil => rfl
  | cons n ns ih => exact ih _

theorem State.observeOutput_feed (n : Fin 4) : (s.observeOutput n).feed = s.feed := by
  unfold State.observeOutput
  split
  · exact s.observe_feed _ _ _ (Fin.succ_ne_zero n)
  · rfl

theorem State.observeOutputs_feed (ns : List (Fin 4)) (s : State) : (ns.foldl State.observeOutput s).feed = s.feed := by
  induction ns generalizing s with
  | nil => rfl
  | cons n ns ih => exact (ih _).trans (s.observeOutput_feed n)

/-- The part in an output period before the idle count of the feed. -/
def State.sounded (s : State) : State :=
  let s := (List.finRange 4).foldl State.observeOutput ((List.finRange 4).foldl State.channelPeriod s.advance)
  { s with channels := s.channels.map Channel.renewAllowances }

theorem execOutputPeriod_eq : execOutputPeriod s = .next s.sounded.countIdle := rfl

theorem State.sounded_feed : s.sounded.feed = s.advance.feed := by
  unfold State.sounded
  dsimp only
  rw [State.observeOutputs_feed, State.channelPeriods_feed]

theorem State.countIdle_noLock (state : s.feed.state = .noLock) : s.countIdle = s := if_pos state

theorem State.countIdle_holds (state : s.feed.state ≠ .noLock)
    (holds : s.feed.state = .lost ∨ min (s.feed.idle + 1) 250 < s.feed.lossWait) :
    s.countIdle = { s with feed := { s.feed with idle := min (s.feed.idle + 1) 250 } } := by
  unfold State.countIdle
  rw [if_neg state]
  refine if_neg (fun due => ?_)
  obtain ⟨locked, waited⟩ := (State.lossDue_iff _).mp due
  change s.feed.state = .locked ∨ s.feed.state = .silent at locked
  change s.feed.lossWait ≤ min (s.feed.idle + 1) 250 at waited
  rcases holds with lost | short
  · rw [lost] at locked
    rcases locked with locked | locked <;> cases locked
  · omega

theorem State.countIdle_lost (state : s.feed.state = .locked ∨ s.feed.state = .silent)
    (waited : s.feed.lossWait ≤ min (s.feed.idle + 1) 250) :
    s.countIdle =
      ({ s with feed := { s.feed with idle := min (s.feed.idle + 1) 250 } } : State).feedGone (s.feed.newest + 1) := by
  have locks : s.feed.state ≠ .noLock := by rcases state with state | state <;> simp [state]
  unfold State.countIdle
  rw [if_neg locks]
  have due : ({ s with feed := { s.feed with idle := min (s.feed.idle + 1) 250 } } : State).lossDue = true :=
    (State.lossDue_iff { s with feed := { s.feed with idle := min (s.feed.idle + 1) 250 } }).mpr ⟨state, waited⟩
  exact (if_pos due).trans (State.loseFeed_eq _)

/-- Settles O18: FEED_SET by its range, the loss wait at work through the idle count, WATCH_SET by its fields. -/
theorem feedAndWatchSettings : Obligations.FeedAndWatchSettings := by
  refine ⟨⟨fun s a tag w reached => ⟨fun low high => ?_, fun outside => ?_⟩, fun s state waited => ?_, rfl⟩,
    fun s a tag watch threshold direction enable window reached => ⟨exec_watchSet_bad reached tag, fun good i number => ⟨fun plain => ?_, ?_⟩⟩⟩
  · rw [exec_feedSet reached, if_pos (inRange_iff.mpr ⟨low, high⟩)]
  · rw [exec_feedSet reached, if_neg]
    rw [inRange_iff]
    omega
  · obtain ⟨sameState, idle, wait, _⟩ := s.advance_feed_same
    rw [← s.sounded_feed] at sameState idle wait
    refine ⟨_, execOutputPeriod_eq s, ?_⟩
    rw [State.countIdle_lost _ (sameState.symm ▸ state) (by rw [idle, wait]; exact waited)]
    rfl
  · rw [exec_watchSet_good reached tag good number, State.changeWatch_plain]
    · rfl
    · rintro ⟨first, silent⟩
      rcases plain with other | audible
      · exact other first
      · exact audible silent
  · rintro rfl silent r
    rw [exec_watchSet_good reached tag good number, State.changeWatch_silent _ _ _ _ _ silent]
    rfl

/-- Settles O19: DELAY_SET by its range, the channels and the feed. -/
theorem delaySetRequest : Obligations.DelaySetRequest := by
  intro s a tag delay reached good bypassed
  have runs : exec (.delaySet a tag delay) s = .next (if inRange 32 500 delay.toNat then
      (if s.channels.toList.all (fun c => decide (c.state = .bypass)) then (s.setDelay delay.toNat).answer tag 0x0002 .done
      else s.answer tag 0x0002 .state) else s.answer tag 0x0002 .badField) :=
    congrArg Host.Outcome.next (s.atPart_reached a _ reached)
  have all : s.channels.toList.all (fun c => decide (c.state = .bypass)) = true ↔ bypassed := by
    rw [List.all_eq_true]
    constructor
    · exact fun h n => of_decide_eq_true (h _ ((mem_toList_iff_get _ _).mpr ⟨n, rfl⟩))
    · rintro h c mem
      obtain ⟨n, rfl⟩ := (mem_toList_iff_get _ _).mp mem
      exact decide_eq_true (h n)
  rw [runs]
  refine ⟨fun bad => ?_, fun fits serves => ?_, fun fits off state => ?_, fun fits off state last had => ?_⟩
  · rw [if_neg (mt inRange_iff.mp bad)]
  · rw [if_pos (inRange_iff.mpr fits), if_neg (mt all.mp serves)]
  · rw [if_pos (inRange_iff.mpr fits), if_pos (all.mpr off), State.setDelay, if_neg]
    rcases state with state | state <;> simp [state]
  · have newest : s.feed.newest = last := by rw [Feed.newest, had]; rfl
    rw [if_pos (inRange_iff.mpr fits), if_pos (all.mpr off), State.setDelay, if_pos state, newest]
    unfold Timebase.emptyPast
    cases position : s.time.position with
    | none => exact ⟨s.time.line, by simp [frames, position], fun i x => by simp⟩
    | some p =>
      refine ⟨s.time.line.map (fun slot => slot.filter (fun x => !atOrAfter p x.number)), ?_, fun i x => ?_⟩
      · simp [frames, position]
      · rw [Vector.get_map, Option.filter_eq_some_iff]
        simp

end Sys2Proof.Machine

/-! Programme frames: first lock, frames in sequence, gaps, stale frames, restore and resync (O20, O21), and the peak depth (O23). -/

namespace Sys2Proof.Machine

variable (s : State)

theorem State.storeFrame_eq (n : FrameNo) (audio : Audio) (concealed : Bool) : s.storeFrame n audio concealed = s.stored n audio concealed := rfl

/-- A programme frame by the state of the feed. -/
theorem exec_programmeFrame (n : FrameNo) (audio : Audio) :
    exec (.programmeFrame n audio) s = .next (match s.feed.state with
      | .noLock => s.lock n audio
      | .locked | .silent => s.judgeFrame n audio
      | .lost => s.judgeLost n audio) := rfl

theorem exec_programmeFrame_judged (n : FrameNo) (audio : Audio) (state : s.feed.state = .locked ∨ s.feed.state = .silent) :
    exec (.programmeFrame n audio) s = .next (s.judgeFrame n audio) := by
  rw [exec_programmeFrame]
  rcases state with state | state <;> rw [state]

/-! ### A rule on every channel that changes none -/

theorem State.onChannels_same (rule : Env → Desk → Desk) (same : ∀ n, rule (s.env n) (s.desk n) = s.desk n) :
    s.onChannels rule = s := by
  unfold State.onChannels
  generalize List.finRange 4 = ns
  induction ns with
  | nil => rfl
  | cons n ns ih => rw [List.foldl_cons, s.onChannel_same n rule (same n), ih]

/-! ### The first lock (R5, R16) -/

/-- The state at the first lock, before the frame is observed and the channels are brought into the new numbering. -/
def State.lockedOn (s : State) (n : FrameNo) (audio : Audio) : State :=
  let base := n - BitVec.ofNat 32 s.time.delay
  { s with
    time := { s.time with
      nextPosition := some base
      line := put s.time.line (Fin.ofNat 512 n.toNat) (some { number := n, audio := audio, concealed := false }) }
    feed := { s.feed with
      state := .locked, last := some n, idle := 0, brk := some { cause := .lost, point := base, resume := some n } }
    log := s.log.append { sequence := 0, kind := .feedRestored, position := n } }

theorem State.lock_eq (n : FrameNo) (audio : Audio) (whole : s.feed.brk = none) :
    s.lock n audio = ((s.lockedOn n audio).observe 0 n (peakDepth audio)).onChannels
      (Desk.renumber (n - BitVec.ofNat 32 s.time.delay)) := by
  unfold State.lock
  extract_lets base stored feed _ locked told observed
  have same : told = s.lockedOn n audio := by
    unfold told locked feed Feed.publishBreak
    have none_yet : stored.feed.brk = none := whole
    rw [none_yet]
    rfl
  unfold observed
  rw [same]
  rfl

/-! ### Frames in sequence and gaps (R8, R9) -/

/-- A frame that gives up its place to silence (R9). -/
def State.gapped (s : State) (x : FrameNo) : State := (s.stored x (List.replicate 384 0) true).observe 0 x 96

theorem State.conceal_eq (x : FrameNo) (k : Nat) :
    s.conceal x k = ((List.range k).map (fun i => x + BitVec.ofNat 32 i)).foldl State.gapped s := by
  induction k generalizing s x with
  | zero => rfl
  | succ k ih =>
    have next : ∀ i : Nat, x + 1 + BitVec.ofNat 32 i = x + BitVec.ofNat 32 (i + 1) := by
      intro i
      rw [Nat.add_comm i 1, ← BitVec.ofNat_add_ofNat, BitVec.add_assoc]
      rfl
    have first : x + BitVec.ofNat 32 0 = x := BitVec.add_zero x
    rw [List.range_succ_eq_map, List.map_cons, List.foldl_cons, List.map_map, first]
    have rest : List.map ((fun i => x + BitVec.ofNat 32 i) ∘ Nat.succ) (List.range k) =
        (List.range k).map (fun i => x + 1 + BitVec.ofNat 32 i) := List.map_congr_left (fun i _ => (next i).symm)
    rw [rest]
    exact ih _ _

theorem State.acceptFrame_eq {last : FrameNo} (had : s.feed.last = some last) (n : FrameNo) (audio : Audio) (k : Nat) :
    s.acceptFrame n audio k =
      let got := (((List.range k).map (fun i => last + 1 + BitVec.ofNat 32 i)).foldl State.gapped s).stored n audio false
      ({ got with feed := { got.feed with last := some n, idle := 0 } } : State).observe 0 n (peakDepth audio) := by
  have newest : s.feed.newest = last := by rw [Feed.newest, had]; rfl
  unfold State.acceptFrame
  rw [newest, State.conceal_eq]
  rfl

theorem staleDistance_iff {n last : FrameNo} :
    staleDistance (n - last).toNat = true ↔ n = last ∨ 2 ^ 31 < (n - last).toNat := by
  unfold staleDistance
  rw [Bool.or_eq_true, decide_eq_true_eq, decide_eq_true_eq]
  refine or_congr ?_ Iff.rfl
  constructor
  · intro h
    bv_omega
  · rintro rfl
    simp

theorem State.inStoreWindow_iff (n : FrameNo) : s.inStoreWindow n = true ↔ (n - s.time.nextPosition.getD 0).toNat ≤ 511 := by
  simp [State.inStoreWindow]

theorem State.judgeFrame_accepts {last : FrameNo} (had : s.feed.last = some last) {n : FrameNo} (audio : Audio)
    (after : 1 ≤ (n - last).toNat) (near : (n - last).toNat ≤ 9) (inside : (n - s.time.nextPosition.getD 0).toNat ≤ 511) :
    s.judgeFrame n audio = s.acceptFrame n audio ((n - last).toNat - 1) := by
  have newest : s.feed.newest = last := by rw [Feed.newest, had]; rfl
  have fresh : ¬ staleDistance (n - last).toNat = true := by
    rw [staleDistance_iff]
    rintro (rfl | far)
    · simp at after
    · omega
  unfold State.judgeFrame
  dsimp only
  have close : (n - last).toNat ≤ Config.gapLimit + 1 := near
  rw [newest, if_neg fresh, if_pos close, if_pos ((s.inStoreWindow_iff n).mpr inside)]

theorem State.judgeFrame_stale {last : FrameNo} (had : s.feed.last = some last) {n : FrameNo} (audio : Audio)
    (stale : n = last ∨ 2 ^ 31 < (n - last).toNat) : s.judgeFrame n audio = s.staleFrame n audio := by
  have newest : s.feed.newest = last := by rw [Feed.newest, had]; rfl
  unfold State.judgeFrame
  dsimp only
  rw [newest, if_pos (staleDistance_iff.mpr stale)]

theorem State.judgeFrame_resyncs {last : FrameNo} (had : s.feed.last = some last) {n : FrameNo} (audio : Audio)
    (fresh : ¬ (n = last ∨ 2 ^ 31 < (n - last).toNat)) (slips : 10 ≤ (n - last).toNat ∨ 511 < (n - s.time.nextPosition.getD 0).toNat) :
    s.judgeFrame n audio = s.resync n audio := by
  have newest : s.feed.newest = last := by rw [Feed.newest, had]; rfl
  unfold State.judgeFrame
  dsimp only
  rw [newest, if_neg (mt staleDistance_iff.mp fresh)]
  have near : Config.gapLimit + 1 = 9 := rfl
  rw [near]
  split
  · next close => rw [if_neg (by rw [s.inStoreWindow_iff]; omega)]
  · rfl

theorem State.staleFrame_repairs {n : FrameNo} (audio : Audio) (inside : (n - s.time.nextPosition.getD 0).toNat ≤ 511)
    (hole : ∃ x, s.time.line.get (Fin.ofNat 512 n.toNat) = some x ∧ x.number = n ∧ x.concealed = true) :
    s.staleFrame n audio = s.stored n audio false := by
  obtain ⟨x, slot, number, concealed⟩ := hole
  have found : s.time.slotOf n = some x := by
    have at' : s.time.line.get ⟨n.toNat % 512, Nat.mod_lt _ (by decide)⟩ = some x := slot
    rw [Timebase.slotOf, at', Option.filter_some, if_pos (beq_iff_eq.mpr number)]
  unfold State.staleFrame
  rw [found]
  dsimp only
  rw [if_pos (by rw [Bool.and_eq_true, s.inStoreWindow_iff]; exact ⟨inside, concealed⟩)]
  rfl

theorem State.staleFrame_dropped {n : FrameNo} (audio : Audio)
    (drop : ¬ (n - s.time.nextPosition.getD 0).toNat ≤ 511 ∨
      ∀ x, s.time.line.get (Fin.ofNat 512 n.toNat) = some x → x.number = n → x.concealed = false) :
    s.staleFrame n audio = s := by
  unfold State.staleFrame
  refine if_neg ?_
  rw [Bool.and_eq_true, s.inStoreWindow_iff]
  rintro ⟨inside, repairs⟩
  rcases drop with outside | whole
  · exact outside inside
  · split at repairs
    · next x found =>
      obtain ⟨slot, number⟩ := Option.filter_eq_some_iff.mp found
      exact absurd ((whole x slot (beq_iff_eq.mp number)).symm.trans repairs) Bool.false_ne_true
    · cases repairs

/-- With the feed watch disabled a gap changes the delay line alone. -/
theorem State.gapped_disabled (off : (s.watches.get 0).enabled = false) (xs : List FrameNo) :
    xs.foldl State.gapped s = { s with time := { s.time with line := xs.foldl (fun line x =>
      put line (Fin.ofNat 512 x.toNat) (some { number := x, audio := List.replicate 384 0, concealed := true })) s.time.line } } := by
  induction xs generalizing s with
  | nil => rfl
  | cons x xs ih =>
    have gap : s.gapped x = s.stored x (List.replicate 384 0) true := State.observe_disabled _ 0 x 96 off
    rw [List.foldl_cons, gap]
    exact ih (s.stored x (List.replicate 384 0) true) off

/-- Settles O21: by the distance from the newest frame. -/
theorem frameJudgement : Obligations.FrameJudgement := by
  intro s n last audio state had slot inWindow gap silence stored concealed
  rw [exec_programmeFrame_judged s n audio state]
  refine ⟨fun after near inside => ?_, fun stale => ⟨fun inside hole => ?_, fun drop => ?_⟩, fun off inside => ⟨fun next => ?_, fun after near => ?_⟩⟩
  · rw [s.judgeFrame_accepts had audio after near inside, s.acceptFrame_eq had]
    rfl
  · rw [s.judgeFrame_stale had audio stale, s.staleFrame_repairs audio inside hole]
    rfl
  · rw [s.judgeFrame_stale had audio stale, s.staleFrame_dropped audio drop]
  · have one : (n - last).toNat = 1 := by rw [next]; rfl
    rw [s.judgeFrame_accepts had audio (by omega) (by omega) inside, s.acceptFrame_eq had, one]
    exact congrArg Host.Outcome.next (State.observe_disabled _ 0 n _ off)
  · rw [s.judgeFrame_accepts had audio (by omega) near inside, s.acceptFrame_eq had, s.gapped_disabled off]
    exact congrArg Host.Outcome.next (State.observe_disabled _ 0 n _ off)

/-! ### The peak depth (R20) -/

/-- Of a property that only early numbers have, the length of its list says where it ends. -/
theorem filter_range_length (p : Nat → Bool) (early : ∀ d, p (d + 1) = true → p d = true) (n d : Nat) (h : d < n) :
    p d = true ↔ d < ((List.range n).filter p).length := by
  have below : ∀ k d, d ≤ k → p k = true → p d = true := by
    intro k
    induction k with
    | zero =>
      intro d le has
      rwa [Nat.le_zero.mp le]
    | succ k ih =>
      intro d le has
      rcases Nat.lt_or_eq_of_le le with lt | rfl
      · exact ih d (Nat.le_of_lt_succ lt) (early k has)
      · exact has
  induction n with
  | zero => omega
  | succ n ih =>
    rw [List.range_succ, List.filter_append, List.length_append]
    by_cases last : p n = true
    · have whole : (List.range n).filter p = List.range n :=
        List.filter_eq_self.mpr (fun k mem => below n k (List.mem_range.mp mem).le last)
      rw [whole, List.filter_cons_of_pos last, List.length_range]
      exact ⟨fun _ => h, fun _ => below n d (Nat.le_of_lt_succ h) last⟩
    · rw [List.filter_cons_of_neg last]
      rcases Nat.lt_or_eq_of_le (Nat.le_of_lt_succ h) with lt | rfl
      · exact ih lt
      · have short : ((List.range d).filter p).length ≤ d := (List.length_filter_le _ _).trans (List.length_range).le
        simp only [List.filter_nil, List.length_nil]
        exact ⟨fun has => absurd has last, fun lt => by omega⟩

/-- The depth in the numbers that R20 gives it by. -/
theorem depthOf_bounds {m : Nat} (some_signal : 0 < m) (inside : m ≤ 8388608) :
    depthOf m ≤ 96 ∧ 10 ^ depthOf m * m ^ 20 ≤ 8388608 ^ 20 ∧ (depthOf m < 96 → 8388608 ^ 20 < 10 ^ (depthOf m + 1) * m ^ 20) := by
  have limit : m ^ 20 ≤ 8388608 ^ 20 := Nat.pow_le_pow_left inside 20
  unfold depthOf
  rw [if_neg some_signal.ne']
  generalize 8388608 ^ 20 = top at limit
  generalize m ^ 20 = loud at limit
  have early : ∀ d, decide (10 ^ (d + 1 + 1) * loud ≤ top) = true → decide (10 ^ (d + 1) * loud ≤ top) = true := by
    intro d has
    rw [decide_eq_true_eq] at has ⊢
    exact (Nat.mul_le_mul_right loud (Nat.pow_le_pow_right (by decide) (Nat.le_succ (d + 1)))).trans has
  have ends := fun d (h : d < 96) => filter_range_length (fun d => decide (10 ^ (d + 1) * loud ≤ top)) early 96 d h
  have short := (List.length_filter_le (fun d => decide (10 ^ (d + 1) * loud ≤ top)) (List.range 96)).trans (List.length_range).le
  generalize ((List.range 96).filter (fun d => decide (10 ^ (d + 1) * loud ≤ top))).length = depth at ends short
  refine ⟨short, ?_, fun lt => ?_⟩
  · cases depth with
    | zero => simpa using limit
    | succ d => exact of_decide_eq_true ((ends d (by omega)).mpr (Nat.lt_succ_self d))
  · have past := mt (ends depth lt).mp (lt_irrefl depth)
    rwa [decide_eq_true_eq, not_le] at past

theorem foldl_peak (a : Audio) (top : Nat) :
    top ≤ a.foldl (fun m x => max m x.toInt.natAbs) top ∧
      (∀ x ∈ a, x.toInt.natAbs ≤ a.foldl (fun m x => max m x.toInt.natAbs) top) ∧
      ∀ m, top ≤ m → (∀ x ∈ a, x.toInt.natAbs ≤ m) → a.foldl (fun m x => max m x.toInt.natAbs) top ≤ m := by
  induction a generalizing top with
  | nil => exact ⟨le_rfl, fun x mem => absurd mem List.not_mem_nil, fun m le _ => le⟩
  | cons y a ih =>
    obtain ⟨start, each, least⟩ := ih (max top y.toInt.natAbs)
    refine ⟨(le_max_left _ _).trans start, fun x mem => ?_, fun m le all => ?_⟩
    · rcases List.mem_cons.mp mem with rfl | mem
      · exact (le_max_right _ _).trans start
      · exact each x mem
    · obtain ⟨now, later⟩ := List.forall_mem_cons.mp all
      exact least m (max_le le now) later

theorem peak_eq {a : Audio} {m : Nat} (all : ∀ x ∈ a, x.toInt.natAbs ≤ m) (attained : m = 0 ∨ ∃ x ∈ a, x.toInt.natAbs = m) :
    peak a = m := by
  obtain ⟨_, each, least⟩ := foldl_peak a 0
  refine le_antisymm (least m (Nat.zero_le m) all) ?_
  rcases attained with rfl | ⟨x, mem, rfl⟩
  · exact Nat.zero_le _
  · exact each x mem

/-- Settles O23: the list that the depth is the length of is a first part of the numbers below 96. -/
theorem peakDepthLaw : Obligations.PeakDepth :=
  ⟨⟨rfl, fun _ some_signal inside => depthOf_bounds some_signal inside⟩, fun _ _ all attained =>
    congrArg depthOf (peak_eq all attained)⟩

end Sys2Proof.Machine

/-! What the rules of a channel leave alone: each stage of an output period, and each way of loading, where it has nothing to do. -/

namespace Sys2Proof.Machine.Desk

variable (e : Env) (d : Desk)

/-! ### Decks -/

theorem deck_state_cases (k : Deck) :
    k.state = .idle ∨ k.waiting = true ∨ k.sounding = true := by
  unfold Deck.waiting Deck.sounding
  cases k.state <;> simp

theorem sounding_state {k : Deck} (sounds : k.sounding = true) : k.state = .playing ∨ k.state = .fading := by
  simpa [Deck.sounding] using sounds

theorem waiting_state {k : Deck} (waits : k.waiting = true) : k.state = .priming ∨ k.state = .ready := by
  simpa [Deck.waiting] using waits

theorem sounding_not_idle {k : Deck} (sounds : k.sounding = true) : k.state ≠ .idle := by
  rcases sounding_state sounds with state | state <;> rw [state] <;> simp

theorem sounding_not_waiting {k : Deck} (sounds : k.sounding = true) : k.waiting = false := by
  unfold Deck.waiting
  rcases sounding_state sounds with state | state <;> rw [state] <;> rfl

theorem waiting_not_idle {k : Deck} (waits : k.waiting = true) : k.state ≠ .idle := by
  rcases waiting_state waits with state | state <;> rw [state] <;> simp

theorem waiting_not_sounding {k : Deck} (waits : k.waiting = true) : k.sounding = false := by
  unfold Deck.sounding
  rcases waiting_state waits with state | state <;> rw [state] <;> rfl

theorem idle_not_waiting {k : Deck} (idle : k.state = .idle) : k.waiting = false := by
  unfold Deck.waiting
  rw [idle]
  rfl

theorem idle_not_sounding {k : Deck} (idle : k.state = .idle) : k.sounding = false := by
  unfold Deck.sounding
  rw [idle]
  rfl

theorem not_candidate {k : Deck} (h : k.waiting = false) : k.candidate = false := by
  unfold Deck.candidate
  rw [h]
  rfl

theorem ring_not_candidate {k : Deck} {r : ItemRef} (item : k.item = some (.ring r)) : k.candidate = false := by
  unfold Deck.candidate Deck.fillItem
  rw [item]
  exact Bool.and_false _

theorem ringItem_of {k : Deck} {r : ItemRef} (item : k.item = some (.ring r)) : k.ringItem = some r := by
  unfold Deck.ringItem
  rw [item]

theorem fillItem_of {k : Deck} {slot : Fin 16} (item : k.item = some (.fill slot)) : k.fillItem = some slot := by
  unfold Deck.fillItem
  rw [item]

theorem ringItem_fill {k : Deck} {slot : Fin 16} (item : k.item = some (.fill slot)) : k.ringItem = none := by
  unfold Deck.ringItem
  rw [item]

theorem fillItem_ring {k : Deck} {r : ItemRef} (item : k.item = some (.ring r)) : k.fillItem = none := by
  unfold Deck.fillItem
  rw [item]

theorem ringItem_none {k : Deck} (item : k.item = none) : k.ringItem = none := by
  unfold Deck.ringItem
  rw [item]

theorem fillItem_none {k : Deck} (item : k.item = none) : k.fillItem = none := by
  unfold Deck.fillItem
  rw [item]

theorem candidate_of {k : Deck} {slot : Fin 16} (item : k.item = some (.fill slot)) (waits : k.waiting = true) : k.candidate = true := by
  unfold Deck.candidate
  rw [waits, fillItem_of item]
  rfl

/-- Both decks have a property that each of them has. -/
theorem deck_forall {p : Deck → Prop} (a : p d.ch.deckA) (b : p d.ch.deckB) (id : DeckId) : p (d.deck id) := by
  cases id
  · exact a
  · exact b

theorem candidateDeck_none (a : d.ch.deckA.candidate = false) (b : d.ch.deckB.candidate = false) : d.candidateDeck = none := by
  unfold candidateDeck
  rw [a, b]
  rfl

theorem idleDeck_none (a : d.ch.deckA.state ≠ .idle) (b : d.ch.deckB.state ≠ .idle) : d.idleDeck = none := by
  unfold idleDeck
  rw [if_neg a, if_neg b]

theorem giveUpCandidate_none (a : d.ch.deckA.candidate = false) (b : d.ch.deckB.candidate = false) : d.giveUpCandidate = d := by
  unfold giveUpCandidate
  rw [d.candidateDeck_none a b]

theorem setItem_item (r : ItemRef) : d.setItem r (d.item r) = d := by
  have same : (d.entry r.index).setItem r.part (d.item r) = d.entry r.index := by
    unfold Desk.item Entry.item Entry.setItem
    cases r.part <;> rfl
  unfold setItem
  rw [same]
  unfold setEntry entry put
  have again : d.ch.ring.set r.index.val (d.ch.ring.get r.index) r.index.isLt = d.ch.ring := by
    ext i hi
    simp [Vector.get]
  rw [again]

/-! ### The ends of an output period -/

theorem ended_none (h : d.noneEnds) (id : DeckId) : d.ended (d.deck id) = false := by
  have ramps : ∀ r : Option Ramp, (∀ x, r = some x → x.elapsed < x.length) → Ramp.over r = false := by
    intro r short
    cases r with
    | none => rfl
    | some x => exact decide_eq_false (not_le.mpr (short x rfl))
  unfold ended
  by_cases sounds : (d.deck id).sounding = true
  · obtain ⟨left, runs⟩ := h (d.deck id) (by cases id <;> simp [deck, Channel.deck]) sounds
    rw [ramps _ (fun r has => runs r (.inl has)), ramps _ (fun r has => runs r (.inr has)), decide_eq_false (not_le.mpr left)]
    simp
  · rw [Bool.not_eq_true] at sounds
    rw [sounds]
    rfl

theorem releaseDeck_none (id : DeckId) (h : d.ended (d.deck id) = false) : d.releaseDeck e id = d := by
  unfold releaseDeck
  exact if_neg (by rw [h]; exact Bool.false_ne_true)

theorem releases_none (h : d.noneEnds) : d.releases e = d :=
  List.foldl_fixed' (fun id => d.releaseDeck_none e id (d.ended_none h id)) _

theorem breakEnds_none (h : d.ch.brk = none) : d.breakEnds e = d := by unfold breakEnds; rw [h]

theorem splitEnds_none (h : d.ch.split = none) : d.splitEnds e = d := by unfold splitEnds; rw [h]

theorem windowEnds_none (h : d.ch.window = none) : d.windowEnds e = d := by unfold windowEnds; rw [h]; rfl

theorem periodEnds_none (ends : d.noneEnds) (brk : d.ch.brk = none) (split : d.ch.split = none) (window : d.ch.window = none) :
    d.periodEnds e = d := by
  unfold periodEnds
  rw [d.releases_none e ends, d.breakEnds_none e brk, d.splitEnds_none e split, d.windowEnds_none e window]

/-! ### What opens and what closes -/

theorem splitStarts_none (h : d.ch.plan = none) : d.splitStarts e = d := by unfold splitStarts; rw [h]

theorem windowOpens_none (h : d.ch.held = none) : d.windowOpens e = d := by unfold windowOpens; rw [h]

theorem feedTest_other (pass : d.ch.state ≠ .pass) (fallback : d.ch.state ≠ .fallback) : d.feedTest e = d := by
  unfold feedTest
  split
  · next state => exact absurd state pass
  · next state => exact absurd state fallback
  · rfl

theorem feedTest_good (pass : d.ch.state = .pass) (good : e.broken d.ch.settings = false) : d.feedTest e = d := by
  unfold feedTest
  rw [pass]
  exact if_neg (by rw [good]; exact Bool.false_ne_true)

theorem planPrimes_none (h : d.ch.plan = none) : d.planPrimes e = d := by unfold planPrimes; rw [h]

theorem windowPrimes_none (h : d.ch.held = none) : d.windowPrimes e = d := by unfold windowPrimes; rw [h]

theorem splitCloses_none (h : d.ch.split = none) : d.splitCloses e = d := by unfold splitCloses; rw [h]

theorem breakCloses_none (h : d.ch.brk = none) : d.breakCloses e = d := by unfold breakCloses; rw [h]

theorem windowCloses_none (h : d.ch.window = none) : d.windowCloses e = d := by unfold windowCloses; rw [h]

theorem splitExhausted_none (h : d.ch.split = none) : d.splitExhausted e = d := by unfold splitExhausted; rw [h]

theorem periodFades_none (plan : d.ch.plan = none) (held : d.ch.held = none) (split : d.ch.split = none) (brk : d.ch.brk = none)
    (window : d.ch.window = none) : d.periodFades e = d := by
  unfold periodFades
  rw [d.planPrimes_none e plan, d.windowPrimes_none e held, d.splitCloses_none e split, d.breakCloses_none e brk,
    d.windowCloses_none e window]

/-! ### Starts and the timer -/

theorem mayStart_notWaiting {id : DeckId} (h : (d.deck id).waiting = false) : d.mayStart id = false := by
  unfold mayStart
  dsimp only
  rw [h]
  rfl

theorem startDeck_none (id : DeckId) (h : d.mayStart id = false) : d.startDeck e id = d := by
  unfold startDeck
  exact if_neg (by rw [h]; exact Bool.false_ne_true)

theorem reachedItems_none (h : d.ch.brk = none) : d.reachedItems = [] := by unfold reachedItems; rw [h]

theorem starts_none (a : d.mayStart .a = false) (b : d.mayStart .b = false) (reached : d.reachedItems = []) : d.starts e = d := by
  have passes := d.passReached_none e reached
  unfold starts
  rw [passes]
  refine List.foldl_fixed' (fun id => ?_) _
  rw [d.startDeck_none e id (by cases id; exacts [a, b]), passes]

theorem timerExpires_none (h : d.ch.timer = none) : d.timerExpires e = d := by
  unfold timerExpires timerExpired
  rw [h]

/-! ### Loading -/

theorem chooseFill_noDeck (mode : StartMode) (h : d.idleDeck = none) : d.chooseFill e mode = d := by
  unfold chooseFill
  rw [h]

theorem chooseFill_candidate (mode : StartMode) {id : DeckId} (h : d.candidateDeck = some id) : d.chooseFill e mode = d := by
  unfold chooseFill
  rw [h]
  split
  · next none_yet _ => cases none_yet
  · rfl

theorem takeDeck_sounding (a : d.ch.deckA.sounding = true) (b : d.ch.deckB.sounding = true) : d.takeDeck = none := by
  unfold takeDeck
  rw [d.idleDeck_none (sounding_not_idle a) (sounding_not_idle b),
    d.candidateDeck_none (not_candidate (sounding_not_waiting a)) (not_candidate (sounding_not_waiting b))]

theorem loadPlanned_noDeck (items : List PlanItem) (h : d.takeDeck = none) : d.loadPlanned e items = d := by
  unfold loadPlanned
  rw [h]
  split <;> rfl

theorem loadBreakItem_noDeck (h : d.takeDeck = none) : d.loadBreakItem e = d := by
  unfold loadBreakItem
  rw [h]
  split
  · next none_yet => cases none_yet
  · rfl

theorem loadWindowItem_noDeck (fuel : Nat) (h : d.takeDeck = none) : d.loadWindowItem e fuel = (d, false) := by
  unfold loadWindowItem
  split
  · rfl
  · rw [h]
    rfl

/-- With both decks sounding nothing is loaded; a split has made its first choice of fill. -/
theorem serviceAs_sounding (opening : Bool) (a : d.ch.deckA.sounding = true) (b : d.ch.deckB.sounding = true)
    (free : d.ch.free) (chosen : ∀ x, d.ch.split = some x → x.wantFill = false) : d.serviceAs opening e = d := by
  have noDeck := d.takeDeck_sounding a b
  have noIdle := d.idleDeck_none (sounding_not_idle a) (sounding_not_idle b)
  have noFill : ∀ mode, d.chooseFill e mode = d := fun mode => d.chooseFill_noDeck e mode noIdle
  have fallback : d.serviceFallback e opening = d := by
    unfold serviceFallback
    rw [noFill, ite_self]
  obtain ⟨plan, held⟩ := free
  unfold serviceAs
  split
  · rfl
  · rw [plan, held]
    exact fallback
  · rw [plan, held]
    exact fallback
  · split
    · next x split =>
      have unwanted := chosen x split
      unfold serviceSplit
      split
      · unfold loadPlannedAll
        rw [d.loadPlanned_noDeck e x.items noDeck, d.loadPlanned_noDeck e x.items noDeck, unwanted]
        rfl
      · rw [unwanted, noFill]
        simp
      · rfl
      · rfl
    · rfl
  · split
    · unfold serviceBreak
      rw [d.loadBreakItem_noDeck e noDeck, d.loadBreakItem_noDeck e noDeck, ite_self]
    · rfl
  · have next : ∀ opening, d.localNext e opening = d := by
      intro opening
      unfold localNext
      rw [d.loadWindowItem_noDeck e _ noDeck]
      simp only [Bool.false_eq_true, if_false, noFill, ite_self]
    unfold serviceLocal
    split
    · rw [next, next, ite_self]
    · rfl

theorem serviceAs_bypass (opening : Bool) (state : d.ch.state = .bypass) : d.serviceAs opening e = d := by
  unfold serviceAs
  rw [state]

theorem serviceFallback_other (opening : Bool) (state : d.ch.state ≠ .fallback) : d.serviceFallback e opening = d := by
  unfold serviceFallback
  rw [decide_eq_false state]
  rfl

theorem serviceAs_pass (opening : Bool) (state : d.ch.state = .pass) (free : d.ch.free) : d.serviceAs opening e = d := by
  obtain ⟨plan, held⟩ := free
  unfold serviceAs
  rw [state, plan, held]
  exact d.serviceFallback_other e opening (by rw [state]; simp)

theorem serviceAs_fallback (opening : Bool) (state : d.ch.state = .fallback) (free : d.ch.free) :
    d.serviceAs opening e = if d.ch.fill.wait = true then d else d.chooseFill e (d.openingMode opening) := by
  obtain ⟨plan, held⟩ := free
  unfold serviceAs
  rw [state, plan, held]
  dsimp only
  unfold serviceFallback
  rw [state]
  cases d.ch.fill.wait <;> rfl

end Sys2Proof.Machine.Desk

/-! A re-base: the rules of R14 on one channel, and the frames that cause one (O20, O22). -/

namespace Sys2Proof.Machine

namespace Desk

variable (e : Env) (d : Desk) (delta : FrameNo)

theorem abandonPlan_none (h : d.ch.plan = none) : d.abandonPlan e = d := by unfold abandonPlan; rw [h]

theorem abandonPending_none (h : d.ch.pending = none) : d.abandonPending e = d := by unfold abandonPending; rw [h]

theorem abandonWindow_none (h : d.ch.held = none) : d.abandonWindow e = d := by unfold abandonWindow; rw [h]

theorem timerOff_none (h : d.ch.timer = none) : d.timerOff e = d := by
  unfold timerOff
  rw [h]
  rfl

theorem movePoints_none (hsplit : d.ch.split = none) (hbrk : d.ch.brk = none) (hwindow : d.ch.window = none) :
    d.movePoints delta = d := by
  obtain ⟨ch, holds, out⟩ := d
  obtain ⟨state, settings, ring, head, plan, pending, taken, held, split, brk, window, last, timer, fill, a, b, stamp, start⟩ := ch
  cases hsplit
  cases hbrk
  cases hwindow
  rfl

/-- With no plan, window, pending announce or timer a re-base moves frame numbers alone, where nothing is loaded after it. -/
theorem renumber_free (free : d.ch.free) (pending : d.ch.pending = none) (timer : d.ch.timer = none)
    (settled : (d.movePoints delta).service e = d.movePoints delta) : d.renumber delta e = d.movePoints delta := by
  obtain ⟨plan, held⟩ := free
  unfold renumber
  rw [d.abandonPlan_none e plan, d.abandonPending_none e pending, d.abandonWindow_none e held,
    (d.movePoints delta).timerOff_none e timer, settled]

theorem movePoints_service (free : d.ch.free)
    (idle : d.ch.state = .bypass ∨ d.ch.state = .pass ∨
      (d.ch.deckA.sounding = true ∧ d.ch.deckB.sounding = true ∧ ∀ x, d.ch.split = some x → x.wantFill = false)) :
    (d.movePoints delta).service e = d.movePoints delta := by
  rcases idle with state | state | ⟨a, b, chosen⟩
  · exact serviceAs_bypass e _ false state
  · exact serviceAs_pass e _ false state free
  · refine serviceAs_sounding e _ false a b free (fun x moved => ?_)
    obtain ⟨y, split, rfl⟩ := Option.map_eq_some_iff.mp moved
    exact chosen y split

/-! ### A plan, a pending announce and a prepared window abandoned -/

/-- A hold given back by its holder. -/
theorem unhold_held {r : ItemRef} (held : (d.item r).held = true) :
    d.unhold r = { d.setItem r { d.item r with held := false } with
      holds := put d.holds (d.item r).cart (d.holds.get (d.item r).cart - 1) } := by
  unfold unhold
  dsimp only
  rw [if_pos held]
  rfl

theorem item_setItem (r : ItemRef) (x : Item) : (d.setItem r x).item r = x := by
  unfold setItem Desk.item
  rw [setEntry_entry]
  cases r.part <;> rfl

theorem unplanItem_held {x : PlanItem} (held : (d.item x.ref).held = true) (final : (d.item x.ref).provisional = false) :
    d.unplanItem x = d.unhold x.ref := by
  have now : ((d.unhold x.ref).item x.ref).provisional = false := by
    rw [d.unhold_held held]
    exact (congrArg Item.provisional (d.item_setItem x.ref _)).trans final
  unfold unplanItem
  dsimp only
  rw [if_neg (by rw [now]; exact Bool.false_ne_true), setItem_item]

theorem idlePlanned_own {p : Plan} {id : DeckId} {r : ItemRef} (item : (d.deck id).item = some (.ring r))
    (own : p.items.any (fun x => x.ref == r) = true) : d.idlePlanned p id = d.setDeck id (d.deck id).idled := by
  unfold idlePlanned
  rw [ringItem_of item]
  exact if_pos own

theorem idlePlanned_empty {p : Plan} {id : DeckId} (item : (d.deck id).item = none) : d.idlePlanned p id = d := by
  unfold idlePlanned
  rw [ringItem_none item]

/-- R14: an armed plan of one included item, which waits on deck A. -/
theorem abandonPlan_one {p : Plan} {x : PlanItem} (plan : d.ch.plan = some p) (items : p.items = [x]) (included : x.inclusion = .included)
    (a : d.ch.deckA.item = some (.ring x.ref)) (b : d.ch.deckB.item = none) (held : (d.item x.ref).held = true)
    (final : (d.item x.ref).provisional = false) :
    d.abandonPlan e = { d.setItem x.ref { d.item x.ref with held := false } with
      ch := { (d.setItem x.ref { d.item x.ref with held := false }).ch with
        plan := none, head := x.ref.index, deckA := d.ch.deckA.idled }
      holds := put d.holds (d.item x.ref).cart (d.holds.get (d.item x.ref).cart - 1)
      out := d.out ++ [{ sequence := 0, kind := .planAbandoned, position := e.pos, channel := some e.chan, breakNo := some p.breakNo }] } := by
  have filled : d.emptyPlan = false := by
    unfold emptyPlan
    rw [plan]
    simp [Plan.noneIncluded, items, included]
  have own : p.items.any (fun y => y.ref == x.ref) = true := by simp [items]
  have onA : d.idlePlanned p .a = d.setDeck .a d.ch.deckA.idled := d.idlePlanned_own (id := .a) a own
  have onB : (d.setDeck .a d.ch.deckA.idled).idlePlanned p .b = d.setDeck .a d.ch.deckA.idled := idlePlanned_empty _ (id := .b) b
  have freed : (d.setDeck .a d.ch.deckA.idled).unplanItem x = (d.setDeck .a d.ch.deckA.idled).unhold x.ref :=
    unplanItem_held _ held final
  unfold abandonPlan
  rw [plan]
  dsimp only
  rw [filled, Bool.and_false, if_neg Bool.false_ne_true, items]
  simp only [List.foldl_cons, List.foldl_nil]
  rw [onA, onB, freed, unhold_held (d := d.setDeck .a d.ch.deckA.idled) held]
  rfl

theorem abandonPending_one {a : Announce} (pending : d.ch.pending = some a) :
    d.abandonPending e = { d with
      ch := { d.ch with pending := none }
      out := d.out ++ [{ sequence := 0, kind := .planAbandoned, position := e.pos, channel := some e.chan, breakNo := some a.breakNo }] } := by
  unfold abandonPending
  rw [pending]
  rfl

theorem timerOff_one {t : Timer} (timer : d.ch.timer = some t) :
    d.timerOff e = { d with
      ch := { d.ch with timer := none }
      out := d.out ++ [{ sequence := 0, kind := .timersOff, position := e.pos, channel := some e.chan }] } := by
  unfold timerOff
  rw [timer]
  rfl

theorem returnPrepared_ring {id : DeckId} {r : ItemRef} (item : (d.deck id).item = some (.ring r)) (waits : (d.deck id).waiting = true) :
    d.returnPrepared id = { (d.unhold r).setDeck id (d.deck id).idled with
      ch := { ((d.unhold r).setDeck id (d.deck id).idled).ch with head := r.index } } := by
  unfold returnPrepared
  dsimp only
  rw [waits, ringItem_of item]

theorem returnPrepared_none {id : DeckId} (idle : (d.deck id).waiting = false) : d.returnPrepared id = d := by
  unfold returnPrepared
  dsimp only
  rw [idle]

theorem fillUnwanted_pass (state : d.ch.state = .pass) : d.fillUnwanted = d.noFillWait := if_pos state

/-- R64, last paragraph: a held window whose first ring item waits on deck A is discarded. -/
theorem discardWindow_ring {h : HeldWindow} {r : ItemRef} (state : d.ch.state = .pass) (window : d.ch.held = some h)
    (stage : h.stage = .ring) (a : d.ch.deckA.item = some (.ring r)) (waits : d.ch.deckA.waiting = true)
    (b : d.ch.deckB.state = .idle) (held : (d.item r).held = true) :
    d.discardWindow = { d.setItem r { d.item r with held := false } with
      ch := { (d.setItem r { d.item r with held := false }).ch with
        held := none, lastRing := none, head := r.index, fill := { d.ch.fill with wait := false }, deckA := d.ch.deckA.idled }
      holds := put d.holds (d.item r).cart (d.holds.get (d.item r).cart - 1) } := by
  have prepared : h.prepares = true := by simp [HeldWindow.prepares, stage]
  have onA := d.returnPrepared_ring (id := .a) a waits
  have onB : (d.returnPrepared .a).returnPrepared .b = d.returnPrepared .a := by
    refine returnPrepared_none _ ?_
    rw [onA, d.unhold_held held]
    exact idle_not_waiting b
  have passes : (d.returnPrepared .a).ch.state = .pass := by
    rw [onA, d.unhold_held held]
    exact state
  have free : (d.returnPrepared .a).giveUpCandidate = d.returnPrepared .a := by
    rw [onA, d.unhold_held held]
    exact giveUpCandidate_none _ rfl (not_candidate (idle_not_waiting b))
  unfold discardWindow
  rw [window]
  dsimp only
  rw [if_pos prepared, onB, free, fillUnwanted_pass _ passes, onA, d.unhold_held held]
  rfl

theorem abandonWindow_one {h : HeldWindow} (window : d.ch.held = some h) :
    d.abandonWindow e = { d.discardWindow with out := d.discardWindow.out ++
      [{ sequence := 0, kind := .planAbandoned, position := h.opens, channel := some e.chan }] } := by
  unfold abandonWindow
  rw [window]
  rfl

end Desk

/-- Settles O20: the first lock, and the channels that it leaves alone. -/
theorem firstLock : Obligations.FirstLock := by
  intro s n audio state whole base locked
  have runs : exec (.programmeFrame n audio) s = .next ((locked.observe 0 n (peakDepth audio)).onChannels (Desk.renumber base)) := by
    rw [exec_programmeFrame, state]
    exact congrArg Host.Outcome.next (s.lock_eq n audio whole)
  refine ⟨runs, fun off idle => ?_⟩
  have unseen : locked.observe 0 n (peakDepth audio) = locked := State.observe_disabled _ 0 n _ off
  rw [runs, unseen]
  refine congrArg Host.Outcome.next (State.onChannels_same _ _ (fun k => ?_))
  obtain ⟨bypass, free, pending, split, brk, window, timer⟩ := idle k
  have still := Desk.movePoints_none (locked.desk k) base split brk window
  exact (Desk.renumber_free _ (locked.desk k) base free pending timer
    (Desk.movePoints_service _ (locked.desk k) base free (.inl bypass))).trans still

/-! ### Restore and resync (R12, R13) -/

variable (s : State)

theorem State.restoreFeed_eq (n : FrameNo) (audio : Audio) :
    s.restoreFeed n audio = ({ s with
      time := { s.time with line := put s.time.line (Fin.ofNat 512 n.toNat) (some { number := n, audio := audio, concealed := false }) }
      feed := { s.feed.resumed n with state := .locked, last := some n, idle := 0 }
      log := s.log.append { sequence := 0, kind := .feedRestored, position := n } } : State).observe 0 n (peakDepth audio) := rfl

/-- R13: the state at a resync, before the frame is observed and the channels are brought into the new numbering. -/
def State.rebased (s : State) (n : FrameNo) (audio : Audio) : State :=
  let base := n - BitVec.ofNat 32 s.time.delay
  let w := s.watches.get 0
  let log := s.log.append { sequence := 0, kind := .feedResync, position := base, detail := some n }
  { s with
    time := { s.time with
      line := put (Vector.replicate 512 none) (Fin.ofNat 512 n.toNat) (some { number := n, audio := audio, concealed := false })
      nextPosition := some base }
    feed := { s.feed with
      state := .locked, last := some n, idle := 0, brk := some { cause := .resync, point := base, resume := some n } }
    watches := put s.watches 0 w.cleared
    log := if w.tripped then log.append (w.clearRecord 0 n .feed) else log }

theorem State.resync_eq (n : FrameNo) (audio : Audio) :
    s.resync n audio = ((s.rebased n audio).observe 0 n (peakDepth audio)).onChannels
      (Desk.renumber (n - BitVec.ofNat 32 s.time.delay - s.time.nextPosition.getD 0)) := by
  have ends : ∀ t : State, t.endFeedRun n = { t with
      watches := put t.watches 0 (t.watches.get 0).cleared
      log := if (t.watches.get 0).tripped then t.log.append ((t.watches.get 0).clearRecord 0 n .feed) else t.log } := by
    intro t
    unfold State.endFeedRun
    dsimp only
    split <;> rfl
  unfold State.resync
  dsimp only
  rw [ends]
  rfl

theorem exec_programmeFrame_lost {last : FrameNo} (had : s.feed.last = some last) {n : FrameNo} (audio : Audio)
    (fresh : ¬ (n = last ∨ 2 ^ 31 < (n - last).toNat)) (state : s.feed.state = .lost) :
    exec (.programmeFrame n audio) s = .next (
      let j := (n - (s.time.position.getD 0 + BitVec.ofNat 32 s.time.delay)).toNat
      if j ≤ 8 ∨ 2 ^ 32 - 8 ≤ j then s.restoreFeed n audio else s.resync n audio) := by
  have newest : s.feed.newest = last := by rw [Feed.newest, had]; rfl
  rw [exec_programmeFrame, state]
  refine congrArg Host.Outcome.next ?_
  unfold State.judgeLost
  dsimp only
  rw [newest, if_neg (mt staleDistance_iff.mp fresh)]
  rfl

/-- Settles O22: the frame by the state of the feed, then R14 by what the channel has. -/
theorem restoreAndResync : Obligations.RestoreAndResync := by
  constructor
  · intro s n last audio had other near' slot frame j near slips
    have fresh : ¬ (n = last ∨ 2 ^ 31 < (n - last).toNat) := by
      rintro (same | far)
      · exact other same
      · omega
    refine ⟨fun lost close => ?_, fun jumps => ?_⟩
    · rw [exec_programmeFrame_lost s had audio fresh lost]
      exact congrArg Host.Outcome.next (if_pos close)
    · have resyncs : exec (.programmeFrame n audio) s = .next (s.resync n audio) := by
        rcases jumps with ⟨lost, away⟩ | ⟨state, slip⟩
        · rw [exec_programmeFrame_lost s had audio fresh lost]
          exact congrArg Host.Outcome.next (if_neg away)
        · rw [exec_programmeFrame_judged s n audio state, s.judgeFrame_resyncs had audio fresh slip]
      rw [resyncs, s.resync_eq]
      exact rfl
  · intro e d delta c abandoned noContext
    refine ⟨fun free pending timer idle => ?_, fun p x a t state none_runs noWindow plan items included onA waits idleB emptyB pending timer held final => ?_,
      fun h r state none_runs noPlan pending timer window stage onA waits idleB held => ?_⟩
    · exact Desk.renumber_free e d delta free pending timer (Desk.movePoints_service e d delta free idle)
    · obtain ⟨split, brk, noLocal⟩ := none_runs
      unfold Desk.renumber
      rw [d.abandonPlan_one e plan items included onA emptyB held final, Desk.abandonPending_one (a := a), Desk.abandonWindow_none,
        Desk.movePoints_none, Desk.timerOff_one (t := t)]
      · refine (Desk.serviceAs_pass e _ false ?_ ?_).trans ?_
        · exact state
        · exact ⟨rfl, noWindow⟩
        · simp only [List.append_assoc]
          rfl
      · exact timer
      · exact split
      · exact brk
      · exact noLocal
      · exact noWindow
      · exact pending
    · obtain ⟨split, brk, noLocal⟩ := none_runs
      unfold Desk.renumber
      rw [d.abandonPlan_none e noPlan, d.abandonPending_none e pending, d.abandonWindow_one e window,
        d.discardWindow_ring state window stage onA waits idleB held]
      rw [Desk.movePoints_none, Desk.timerOff_none]
      · exact Desk.serviceAs_pass e _ false state ⟨noPlan, rfl⟩
      · exact timer
      · exact split
      · exact brk
      · exact noLocal

end Sys2Proof.Machine

/-! The sum of the sources and the gain of a ramp (O26), the walk over a ring (O33) and the places of content pages (O49). -/

namespace Sys2Proof.Machine

/-! ### The sum (R109, R110) -/

theorem addSource_eq_zipWith (g : Gain) (sums : List Int) (a : Audio) (same : sums.length = a.length) :
    addSource g sums a = List.zipWith (fun x y => x + g.scale y) sums a := by
  induction sums generalizing a with
  | nil => rfl
  | cons x sums ih =>
    cases a with
    | nil => cases same
    | cons y a => exact congrArg ((x + g.scale y) :: ·) (ih a (Nat.succ.inj same))

theorem scale_full (x : Sample) : Gain.full.scale x = x.toInt := by
  simp [Gain.scale, Gain.full]

theorem clamp_eq (x : Int) : clamp x = BitVec.ofInt 24 (max (-8388608) (min 8388607 x)) := by
  unfold clamp
  split
  · congr 1
    omega
  · split
    · congr 1
      omega
    · congr 1
      omega

theorem clamp_sample (x : Sample) : clamp x.toInt = x := by
  have low := BitVec.le_toInt x
  have high := BitVec.toInt_lt (x := x)
  have inside : max (-8388608) (min 8388607 x.toInt) = x.toInt := by
    omega
  rw [clamp_eq, inside, BitVec.ofInt_toInt]

theorem addSource_silence (x : Audio) (size : x.length = 384) :
    addSource Gain.full (List.replicate Audio.size 0) x = x.map BitVec.toInt := by
  rw [addSource_eq_zipWith _ _ _ (by rw [List.length_replicate, size]; rfl)]
  refine List.ext_getElem ?_ (fun i _ _ => ?_)
  · rw [List.length_zipWith, List.length_replicate, List.length_map, size]
    rfl
  · rw [List.getElem_zipWith, List.getElem_replicate, List.getElem_map, scale_full, Int.zero_add]

theorem mix_one (x : Audio) (size : x.length = 384) : mix [(Gain.full, x)] = x := by
  unfold mix
  rw [List.foldl_cons, List.foldl_nil, addSource_silence x size, List.map_map]
  exact (List.map_congr_left (fun y _ => clamp_sample y)).trans (List.map_id x)

theorem mix_two (x y : Audio) (sizeX : x.length = 384) (sizeY : y.length = 384) (i : Nat) (hx : i < x.length) (hy : i < y.length) :
    (mix [(Gain.full, x), (Gain.full, y)])[i]? =
      some (BitVec.ofInt 24 (max (-8388608) (min 8388607 (x[i].toInt + y[i].toInt)))) := by
  have sums : [(Gain.full, x), (Gain.full, y)].foldl (fun sums s => addSource s.1 sums s.2) (List.replicate Audio.size 0) =
      List.zipWith (fun a b => a + Gain.full.scale b) (x.map BitVec.toInt) y := by
    rw [List.foldl_cons, List.foldl_cons, List.foldl_nil, addSource_silence x sizeX, addSource_eq_zipWith]
    rw [List.length_map, sizeX, sizeY]
  unfold mix
  rw [sums, List.getElem?_map, List.getElem?_zipWith, List.getElem?_map, List.getElem?_eq_getElem hx, List.getElem?_eq_getElem hy]
  simp only [Option.map_some, scale_full, clamp_eq]

/-- Settles O26: the sum sample by sample, and the gain of a ramp by its period. -/
theorem mixAndRampGain : Obligations.MixAndRampGain := by
  refine ⟨⟨mix_one, mix_two⟩, fun r k first within at' => ?_⟩
  subst at'
  refine ⟨rfl, rfl, fun x => ?_⟩
  simp only [Gain.scale, Ramp.gain, Nat.cast_sub within]

/-! ### The walk (R26 to R30) -/

variable (ring : Vector Entry 128)

theorem successor_chained {x : Entry} (i : Fin 128) {j : Fin 128} (chained : x.chained = true) (dest : x.chainTo = some j) :
    x.successor i = j := by
  unfold Entry.successor
  rw [chained, dest]

theorem successor_unchained {x : Entry} (i : Fin 128) (chained : x.chained = false) :
    x.successor i = if x.endOfRing then 0 else i + 1 := by
  unfold Entry.successor
  rw [chained]

/-- The walk goes on from entry z to its successor: z is not the last, and the successor is CHANNEL-owned. -/
def Continues (z y : Fin 128) : Prop :=
  (ring.get z).last = false ∧ y = (ring.get z).successor z ∧ (ring.get y).owner = .channel

/-- Entries that a walk from the head has taken so far: each the successor of the one before, none twice. -/
structure Walked (head : Fin 128) (taken : List (Fin 128)) : Prop where
  nodup : taken.Nodup
  first : taken.head? = some head
  steps : ∀ i x y, taken[i]? = some x → taken[i + 1]? = some y → Continues ring x y

/-- What ends a walk of the given entries: its last entry, and the gap where that is not the last of a break. -/
structure WalkEnds (g : Gathered) : Prop where
  ends : ∃ z, g.entries.getLast? = some z ∧
    let next := (ring.get z).successor z
    g.head = next ∧ ((ring.get z).last = true → g.gap = none) ∧
      ((ring.get z).last = false →
        (g.entries.length = 32 ∨ next ∈ g.entries → g.gap = some (.limit, next)) ∧
          (g.entries.length < 32 → next ∉ g.entries → g.gap = some (.gap, next) ∧ (ring.get next).owner = .loader))

theorem Walked.one (head : Fin 128) : Walked ring head [head] where
  nodup := List.nodup_singleton head
  first := rfl
  steps := by
    intro i x y _ next
    simp at next

/-- A walk taken one entry further. -/
theorem Walked.snoc {ring : Vector Entry 128} {head : Fin 128} {taken : List (Fin 128)} {z y : Fin 128} (h : Walked ring head (taken ++ [z]))
    (goes : Continues ring z y) (fresh : y ∉ taken ++ [z]) : Walked ring head (taken ++ [z] ++ [y]) where
  nodup := by
    rw [List.nodup_append]
    refine ⟨h.nodup, List.nodup_singleton y, fun a mem b at' same => ?_⟩
    rw [List.mem_singleton] at at'
    exact fresh (at' ▸ same ▸ mem)
  first := by
    rw [List.head?_append, h.first]
    rfl
  steps := by
    intro i a b at' next
    by_cases inside : i + 1 < (taken ++ [z]).length
    · rw [List.getElem?_append_left (by omega)] at at'
      rw [List.getElem?_append_left inside] at next
      exact h.steps i a b at' next
    · have last : i + 1 = (taken ++ [z]).length := by
        obtain ⟨bound, _⟩ := List.getElem?_eq_some_iff.mp next
        rw [List.length_append, List.length_singleton] at bound
        omega
      rw [last, List.getElem?_append_right (Nat.le_refl _), Nat.sub_self] at next
      rw [List.getElem?_append_left (by omega)] at at'
      have at_end : i = taken.length := by
        rw [List.length_append, List.length_singleton] at last
        omega
      rw [at_end, List.getElem?_append_right (Nat.le_refl _), Nat.sub_self] at at'
      cases at'
      cases next
      exact goes

/-- The walk from entry z after those taken, while entries may still be taken. -/
theorem walk_from (head : Fin 128) (fuel : Nat) (taken : List (Fin 128)) (z : Fin 128) (room : taken.length + fuel = 32)
    (some_left : fuel ≠ 0) (h : Walked ring head (taken ++ [z])) :
    Walked ring head (walk ring fuel taken z).entries ∧ (walk ring fuel taken z).entries.length ≤ 32 ∧
      WalkEnds ring (walk ring fuel taken z) := by
  induction fuel generalizing taken z with
  | zero => exact absurd rfl some_left
  | succ fuel ih =>
    have size : (taken ++ [z]).length = taken.length + 1 := by simp
    have within : (taken ++ [z]).length ≤ 32 := by omega
    have last : (taken ++ [z]).getLast? = some z := by simp
    unfold walk
    dsimp only
    split
    · next ends =>
      exact ⟨h, within, ⟨z, last, rfl, fun _ => rfl, fun goes => absurd (goes.symm.trans ends) Bool.false_ne_true⟩⟩
    · next goes =>
      rw [Bool.not_eq_true] at goes
      split
      · next full =>
        refine ⟨h, within, ⟨z, last, rfl, fun ends => absurd (goes.symm.trans ends) Bool.false_ne_true, fun _ => ⟨fun _ => rfl, fun short => ?_⟩⟩⟩
        have limit : (taken ++ [z]).length = 32 := full
        exact absurd limit (Nat.ne_of_lt short)
      · next room' =>
        have short : (taken ++ [z]).length ≠ 32 := room'
        have left : taken.length + 1 ≠ 32 := fun full => short (size.trans full)
        split
        · next again =>
          have mem := List.contains_iff_mem.mp again
          exact ⟨h, within, ⟨z, last, rfl, fun ends => absurd (goes.symm.trans ends) Bool.false_ne_true,
            fun _ => ⟨fun _ => rfl, fun _ fresh => absurd mem fresh⟩⟩⟩
        · next fresh =>
          have fresh := mt List.contains_iff_mem.mpr fresh
          split
          · next hub =>
            refine ⟨h, within, ⟨z, last, rfl, fun ends => absurd (goes.symm.trans ends) Bool.false_ne_true,
              fun _ => ⟨fun stops => ?_, fun _ _ => ⟨rfl, hub⟩⟩⟩⟩
            rcases stops with full | again
            · exact absurd full short
            · exact absurd again fresh
          · next owned =>
            have channel : (ring.get ((ring.get z).successor z)).owner = .channel := by
              cases owner : (ring.get ((ring.get z).successor z)).owner with
              | channel => rfl
              | loader => exact absurd owner owned
            exact ih (taken ++ [z]) _ (by omega) (by omega) (h.snoc ⟨goes, rfl, channel⟩ fresh)

/-- Settles O33: the walk keeps what it has taken in order, and ends where its last entry says. -/
theorem walkOrder : Obligations.WalkOrder := by
  refine ⟨fun x i => ⟨fun chained j dest => successor_chained i chained dest, fun chained ends => ?_, fun chained goes => ?_⟩,
    fun ring head => ?_⟩
  · rw [successor_unchained i chained, ends]
    rfl
  · rw [successor_unchained i chained, goes]
    rfl
  · obtain ⟨walked, size, ends⟩ := walk_from ring head 32 [] head rfl (by decide) (Walked.one ring head)
    obtain ⟨nodup, first, steps⟩ := walked
    refine ⟨?_, size, nodup, first, steps, ends.ends⟩
    rw [Nat.one_le_iff_ne_zero, Ne, List.length_eq_zero_iff]
    intro empty
    rw [empty] at first
    cases first

/-! ### The places of content pages (R135) -/

/-- Settles O49: unit 0 holds 62 content pages, and every other unit 63. -/
theorem contentPlaces : Obligations.ContentPlaces := by
  constructor
  · intro u j units inside
    unfold contentPlace
    split
    · simp only [if_pos]
      omega
    · next beyond =>
      have ordinal : 1 + (j - 62) / 63 ≠ 0 := by omega
      simp only [if_neg ordinal]
      omega
  · intro i j same
    unfold contentPlace at same
    split at same <;> split at same <;> simp only [Prod.mk.injEq] at same <;> omega

end Sys2Proof.Machine

/-! The media port: the order of grants (O55), what a grant does (O56) and the end of a deck read (O57). -/

namespace Sys2Proof.Machine

/-! ### Grants (R172 to R176) -/

theorem Deck.sounding_iff (k : Deck) : k.sounding = true ↔ k.state = .playing ∨ k.state = .fading := by
  simp [Deck.sounding]

/-- The deck has content pages left, and they are on the bank (R172, R179). -/
def Deck.LeftOn (k : Deck) (b : Fin 4) : Prop := ∃ z, k.source = some z ∧ z.bank = b ∧ k.nextPage ≤ (z.length - 1) / 8

/-- The deck's present item has no read in flight, and pages left on a bank that is not busy (R172, R173). -/
def State.Asks (s : State) (k : Deck) : Prop :=
  (∀ r, k.read = some r → r.load ≠ k.load) ∧ ∃ b, k.LeftOn b ∧ s.arbiter.banks.get b = none

theorem Deck.readFree_iff (k : Deck) : k.readFree = true ↔ ∀ r, k.read = some r → r.load ≠ k.load := by
  simp only [Deck.readFree, Bool.not_eq_true', Option.any_eq_false, decide_eq_false_iff_not, ne_eq]

theorem Arbiter.busy_iff (t : Arbiter) (b : Fin 4) : t.busy b = false ↔ t.banks.get b = none := by
  simp [Arbiter.busy]

theorem Deck.pagesLeft_iff (k : Deck) : k.pagesLeft = true ↔ ∃ z, k.source = some z ∧ k.nextPage ≤ (z.length - 1) / 8 := by
  unfold Deck.pagesLeft
  split
  · next z had => exact ⟨fun left => ⟨z, had, of_decide_eq_true left⟩, fun ⟨w, hadw, left⟩ => by
      cases had.symm.trans hadw
      exact decide_eq_true left⟩
  · next had => simp [had]

theorem State.asks_iff (s : State) (k : Deck) :
    s.Asks k ↔ k.readFree = true ∧ k.pagesLeft = true ∧ s.bankFree k = true := by
  rw [Asks, k.readFree_iff, k.pagesLeft_iff]
  unfold bankFree Deck.LeftOn
  cases had : k.source with
  | none => simp
  | some z => simp [Arbiter.busy_iff]

/-- Table 9-3, class 1, on a bank that is not busy. -/
theorem State.urgent_iff (s : State) (k : Deck) : (k.urgent && s.bankFree k) = true ↔
    s.Asks k ∧ (k.state = .priming ∨ ((k.state = .playing ∨ k.state = .fading) ∧ k.buffer.length < 24)) := by
  rw [asks_iff, ← k.sounding_iff]
  simp only [Deck.urgent, Deck.requests, Bool.and_eq_true, Bool.or_eq_true, decide_eq_true_eq]
  simp only [Config.startLevel, Config.refillLevel]
  constructor
  · rintro ⟨⟨⟨⟨free, left⟩, kind⟩, level⟩, bank⟩
    refine ⟨⟨free, left, bank⟩, ?_⟩
    rcases kind with priming | ⟨sounds, _⟩
    · exact .inl priming
    · exact level.imp id (fun low => ⟨sounds, low⟩)
  · rintro ⟨⟨free, left, bank⟩, kind⟩
    exact ⟨⟨⟨⟨free, left⟩, kind.imp id (fun ⟨sounds, low⟩ => ⟨sounds, by omega⟩)⟩, kind.imp id And.right⟩, bank⟩

/-- Table 9-3, class 2, on a bank that is not busy. -/
theorem State.refill_iff (s : State) (k : Deck) : (k.refill && s.bankFree k) = true ↔
    s.Asks k ∧ (k.state = .playing ∨ k.state = .fading) ∧ 24 ≤ k.buffer.length ∧ k.buffer.length ≤ 56 ∧ k.allowanceUsed = false := by
  rw [asks_iff, ← k.sounding_iff]
  simp only [Deck.refill, Deck.requests, Bool.and_eq_true, Bool.or_eq_true, decide_eq_true_eq, Bool.not_eq_true']
  simp only [Config.startLevel, Config.refillLevel]
  constructor
  · rintro ⟨⟨⟨⟨⟨⟨free, left⟩, kind⟩, sounds⟩, filled⟩, unused⟩, bank⟩
    refine ⟨⟨free, left, bank⟩, sounds, filled, ?_, unused⟩
    rcases kind with priming | ⟨_, low⟩
    · rcases k.sounding_iff.mp sounds with state | state <;> exact absurd (priming.symm.trans state) (by decide)
    · exact low
  · rintro ⟨⟨free, left, bank⟩, sounds, filled, low, unused⟩
    exact ⟨⟨⟨⟨⟨⟨free, left⟩, .inr ⟨sounds, low⟩⟩, sounds⟩, filled⟩, unused⟩, bank⟩

/-- R176: the decks that guard a bank. -/
theorem State.guarded_iff (s : State) (b : Fin 4) : s.guarded b = true ↔ ∃ n, (s.deckAt n).LeftOn b ∧
    ((s.deckAt n).state = .priming ∨ ((s.deckAt n).state = .playing ∨ (s.deckAt n).state = .fading)) ∧
      (s.deckAt n).buffer.length < 40 := by
  simp only [guarded, List.any_eq_true, List.mem_finRange, true_and]
  refine exists_congr fun n => ?_
  rw [← Deck.sounding_iff]
  simp only [Deck.guards, Bool.and_eq_true, Bool.or_eq_true, decide_eq_true_eq, Option.any_eq_true,
    Deck.pagesLeft_iff, Deck.LeftOn]
  simp only [Config.guardLevel]
  constructor
  · rintro ⟨⟨⟨⟨z, had, bank⟩, kind⟩, low⟩, ⟨w, hadw, left⟩⟩
    cases had.symm.trans hadw
    exact ⟨⟨z, had, bank, left⟩, kind, low⟩
  · rintro ⟨⟨z, had, bank, left⟩, kind, low⟩
    exact ⟨⟨⟨⟨z, had, bank⟩, kind⟩, low⟩, ⟨z, had, left⟩⟩

/-- A search in the order of R174 finds the first in that order. -/
theorem search_first {α : Type} {n : Nat} (order : Fin n → α) (p : α → Bool) (i : Fin n) (found : p (order i) = true)
    (first : ∀ j < i, ¬ p (order j) = true) : ((List.finRange n).map order).find? p = some (order i) := by
  rw [List.find?_eq_some_iff_getElem]
  refine ⟨found, i.val, by simp, by simp, fun j before => ?_⟩
  have none := first ⟨j, before.trans i.isLt⟩ before
  simpa using none

theorem search_none {α : Type} {n : Nat} (order : Fin n → α) (p : α → Bool) (nowhere : ∀ a, ¬ p a = true) :
    ((List.finRange n).map order).find? p = none :=
  List.find?_eq_none.mpr fun a _ => nowhere a

section
variable {s : State} (free : s.arbiter.port = none)
include free

theorem exec_grant {g : Grant} (next : s.nextGrant = some g) : exec .mediaPortGrant s = .next (s.grant g) := by
  change execMediaPortGrant s = _
  unfold execMediaPortGrant
  rw [free, next]

theorem exec_grant_none (next : s.nextGrant = none) : exec .mediaPortGrant s = .next s := by
  change execMediaPortGrant s = _
  unfold execMediaPortGrant
  rw [free, next]

end

/-- No deck is granted a read: none is urgent and none asks for a refill (Table 9-3). -/
theorem State.deckGrant_none {s : State} (urgent : ∀ n, ¬ ((s.deckAt n).urgent && s.bankFree (s.deckAt n)) = true)
    (refill : ∀ n, ¬ ((s.deckAt n).refill && s.bankFree (s.deckAt n)) = true) : s.deckGrant = none := by
  unfold deckGrant deckSearch
  rw [search_none _ _ urgent, search_none _ _ refill]

/-- The deck as the statement reads it, by the number of its channel and its place. -/
theorem deckAt_eq (s : State) (n : Fin 8) : (if n.val % 2 = 0 then (s.channels.get (Fin.ofNat 4 (n.val / 2))).deckA
    else (s.channels.get (Fin.ofNat 4 (n.val / 2))).deckB) = s.deckAt n := by
  unfold State.deckAt deckOfNumber
  split
  · next => simp [Channel.deck]
  · next => simp [Channel.deck]

/-- The scan reads that may be granted (Table 9-3, class 3). -/
theorem State.scanGrant_iff (s : State) (b : Fin 4) :
    (!s.store.scan.done && (s.store.scan.banks.get b).read.isSome && !s.arbiter.busy b) = true ↔
      s.store.scan.done = false ∧ (s.store.scan.banks.get b).read.isSome = true ∧ s.arbiter.banks.get b = none := by
  simp only [Bool.and_eq_true, Bool.not_eq_true', Arbiter.busy_iff, and_assoc]

/-- A bank open to a program or an erase: not busy, and guarded by no deck (R176). -/
theorem State.open_iff (s : State) (b : Fin 4) :
    (!s.arbiter.busy b && !s.guarded b) = true ↔ s.arbiter.banks.get b = none ∧ ¬ s.guarded b = true := by
  simp only [Bool.and_eq_true, Bool.not_eq_true', Arbiter.busy_iff, Bool.not_eq_true]

/-- Table 9-3, class 4: the program at the front. -/
theorem State.programGrant_some {s : State} {d : Download} {p : Program} {rest : List Program} (had : s.store.download = some d)
    (queue : d.queue = p :: rest) (flies : d.inFlight = none)
    (allowed : (!s.arbiter.busy (s.store.runOf d.cart).bank && !s.guarded (s.store.runOf d.cart).bank) = true) :
    s.programGrant = some (.program d p rest) := by
  unfold programGrant
  rw [had]
  dsimp only
  rw [queue, flies]
  exact if_pos allowed

theorem State.programGrant_none {s : State} (h : ∀ d, s.store.download = some d → d.queue = [] ∨ d.inFlight.isSome = true ∨
    ¬ (!s.arbiter.busy (s.store.runOf d.cart).bank && !s.guarded (s.store.runOf d.cart).bank) = true) : s.programGrant = none := by
  unfold programGrant
  cases had : s.store.download with
  | none => rfl
  | some d =>
    dsimp only
    split
    · next queue flies =>
      rcases h d had with empty | flying | closed
      · cases queue.symm.trans empty
      · rw [flies] at flying
        cases flying
      · exact if_neg closed
    · rfl

/-- Table 9-3, class 5: the erase of the job's next unit. -/
theorem State.eraseGrant_some {s : State} {j : EraseJob} {u : Nat} {rest : List Nat} (had : s.store.job = some j)
    (units : j.units = u :: rest) (flies : j.inFlight = none) (allowed : (!s.arbiter.busy j.bank && !s.guarded j.bank) = true) :
    s.eraseGrant = some (.erase j u rest) := by
  unfold eraseGrant
  rw [had]
  dsimp only
  rw [units, flies]
  exact if_pos allowed

theorem State.eraseGrant_none {s : State} (h : ∀ j, s.store.job = some j → j.units = [] ∨ j.inFlight.isSome = true ∨
    ¬ (!s.arbiter.busy j.bank && !s.guarded j.bank) = true) : s.eraseGrant = none := by
  unfold eraseGrant
  cases had : s.store.job with
  | none => rfl
  | some j =>
    dsimp only
    split
    · next units flies =>
      rcases h j had with empty | flying | closed
      · cases units.symm.trans empty
      · rw [flies] at flying
        cases flying
      · exact if_neg closed
    · rfl

section
variable {s : State}

theorem State.nextGrant_deck {g : Grant} (deck : s.deckGrant = some g) : s.nextGrant = some g := by
  unfold nextGrant
  rw [deck]

theorem State.nextGrant_scan {g : Grant} (deck : s.deckGrant = none) (scan : s.scanGrant = some g) : s.nextGrant = some g := by
  unfold nextGrant
  rw [deck, scan]

theorem State.nextGrant_program_some {g : Grant} (deck : s.deckGrant = none) (scan : s.scanGrant = none)
    (program : s.programGrant = some g) : s.nextGrant = some g := by
  unfold nextGrant
  rw [deck, scan, program]

theorem State.nextGrant_erase (deck : s.deckGrant = none) (scan : s.scanGrant = none) (program : s.programGrant = none) :
    s.nextGrant = s.eraseGrant := by
  unfold nextGrant
  rw [deck, scan, program]

end

/-- Settles O55: the classes of Table 9-3 in their order, each searched in its own. -/
theorem grantOrder : Obligations.GrantOrder := by
  unfold Obligations.GrantOrder
  intro s free
  simp only [deckAt_eq]
  have urgent (n : Fin 8) := s.urgent_iff (s.deckAt n)
  have refill (n : Fin 8) := s.refill_iff (s.deckAt n)
  have guarded := s.guarded_iff
  unfold State.Asks Deck.LeftOn at urgent refill
  unfold Deck.LeftOn at guarded
  simp only [← urgent, ← refill, ← guarded, ← State.scanGrant_iff, ← State.open_iff]
  refine ⟨fun i ⟨found, first⟩ => ?_, fun calm => ⟨fun i ⟨found, first⟩ => ?_, fun full => ⟨fun i found first => ?_,
    fun scanned => ⟨fun d p rest had queue flies allowed => ?_, fun stuck => ⟨fun j u rest had units flies allowed => ?_, fun idle => ?_⟩⟩⟩⟩⟩
  · refine exec_grant free (g := .deck _ false) (State.nextGrant_deck ?_)
    unfold State.deckGrant deckSearch
    rw [search_first (fun i => s.arbiter.deckPointer + 1 + i) _ i found first]
  · refine exec_grant free (g := .deck _ true) (State.nextGrant_deck ?_)
    unfold State.deckGrant deckSearch
    rw [search_none _ _ calm, search_first (fun i => s.arbiter.deckPointer + 1 + i) _ i found first]
  · refine exec_grant free (g := .scan _) (State.nextGrant_scan (State.deckGrant_none calm full) ?_)
    unfold State.scanGrant scanSearch
    rw [search_first (fun i => s.arbiter.scanPointer + 1 + i) _ i found first]
    rfl
  all_goals
    have scan : s.scanGrant = none := by
      unfold State.scanGrant scanSearch
      rw [search_none _ _ scanned]
      rfl
    have deck := State.deckGrant_none calm full
  · exact exec_grant free (State.nextGrant_program_some deck scan (State.programGrant_some had queue flies allowed))
  · exact exec_grant free ((State.nextGrant_erase deck scan (State.programGrant_none stuck)).trans
      (State.eraseGrant_some had units flies allowed))
  · exact exec_grant_none free ((State.nextGrant_erase deck scan (State.programGrant_none stuck)).trans (State.eraseGrant_none idle))

/-- Settles O56: each grant by its own definition, the map of an erase unit by unit. -/
theorem grantEffects : Obligations.GrantEffects := by
  refine ⟨fun s n allowance z had => ?_, fun s d p rest => ?_, fun s j u rest => ?_⟩
  · unfold State.grantDeck
    dsimp only
    rw [had]
    rfl
  · unfold State.grantProgram
    cases kind : p.kind with
    | unitHeader => rfl
    | cartHeader => rfl
    | content id => cases id <;> rfl
  · refine ⟨UnitMap.mark s.store.map u .erasing, fun v inside => ?_, rfl⟩
    rw [UnitMap.at_mark _ _ _ _ inside]

/-! ### The end of a deck read (R179, R180, R184) -/

/-- A channel rule that takes no hold and writes no record changes its channel alone. -/
theorem State.putDesk_channel (s : State) (n : Fin 4) {d : Desk} (holds : d.holds = s.store.holds) (out : d.out = []) :
    s.putDesk n d = s.withChannel n d.ch := by
  unfold putDesk
  rw [holds, out]
  rfl

/-- The port and the bank of a read freed (R170). -/
def State.freed (s : State) (b : Fin 4) : State := s.freePort.freeBank b

section
variable {s : State} {n : Fin 4} {id : DeckId} {b : Fin 4} {page : Nat} {load : BitVec 32} {allowance : Bool}
  (held : s.arbiter.port = some (.deckRead n id b page load allowance)) (outcome : ReadOutcome)
include held

/-- The end of a deck read whose rule changes the deck alone. -/
theorem exec_deckRead {k : Deck} (ends : (s.desk n).readEnds id page load allowance
      (s.contents (((s.channels.get n).deck id).storePage page) outcome) ((s.freed b).env n) = (s.desk n).setDeck id k) :
    exec (.deckReadComplete outcome) s = .next ((s.freed b).withChannel n ((s.channels.get n).setDeck id k)) := by
  change execDeckReadComplete outcome s = _
  unfold execDeckReadComplete
  rw [held]
  refine congrArg Host.Outcome.next ?_
  exact (congrArg ((s.freed b).putDesk n) ends).trans ((s.freed b).putDesk_channel n rfl rfl)

end

section
variable (d : Desk) (id : DeckId) (page : Nat) {load : BitVec 32} (allowance : Bool) (contents : Option FlashPage) (e : Env)

theorem Desk.readEnds_present (present : (d.deck id).load = load) (loaded : (d.deck id).state ≠ .idle) :
    d.readEnds id page load allowance contents e = match contents.bind contentFrames with
      | some frames => d.setDeck id ((d.deck id).filled page frames)
      | none => d.readFailed id allowance e :=
  if_pos ⟨present, loaded⟩

theorem Desk.setDeck_same : d.setDeck id (d.deck id) = d := by
  cases id <;> rfl

/-- R180: the completion of a read of an item that has left the deck. -/
theorem Desk.readEnds_late (late : (d.deck id).load ≠ load ∨ (d.deck id).state = .idle) :
    d.readEnds id page load allowance contents e =
      d.setDeck id { d.deck id with read := (d.deck id).read.filter (fun r => decide (r.load ≠ load)) } := by
  have gone : ¬ ((d.deck id).load = load ∧ (d.deck id).state ≠ .idle) := fun ⟨present, loaded⟩ =>
    late.elim (· present) loaded
  unfold Desk.readEnds
  rw [if_neg gone]
  cases read : (d.deck id).read with
  | none =>
    rw [if_neg (by simp)]
    have same : (d.deck id) = { d.deck id with read := none } := by rw [← read]
    exact (d.setDeck_same id).symm.trans (congrArg (d.setDeck id) same)
  | some r =>
    by_cases own : r.load = load
    · rw [if_pos (by simp [own]), Option.filter_some, if_neg (by simp [own])]
    · have same : (d.deck id) = { d.deck id with read := some r } := by rw [← read]
      rw [if_neg (by simp [own]), Option.filter_some, if_pos (by simp [own])]
      exact (d.setDeck_same id).symm.trans (congrArg (d.setDeck id) same)

theorem Desk.readFailed_again (few : (d.deck id).retries < 3) : d.readFailed id allowance e =
    d.setDeck id { d.deck id with
      read := none, retries := (d.deck id).retries + 1, allowanceUsed := (d.deck id).allowanceUsed && !allowance } :=
  if_pos few

end

/-- R178: a deck whose read has brought frames, before it is settled. -/
def Deck.joined (k : Deck) (page : Nat) (frames : List Audio) : Deck :=
  { k with buffer := k.buffer ++ frames.take (k.length - page * 8), nextPage := k.nextPage + 1, retries := 0, read := none }

theorem Deck.filled_eq (k : Deck) (page : Nat) (frames : List Audio) : k.filled page frames = (k.joined page frames).settled := rfl

theorem Deck.settled_primed {k : Deck} (state : k.state = .priming)
    (done : 24 ≤ k.buffer.length ∨ ∀ z, k.source = some z → (z.length - 1) / 8 < k.nextPage) : k.settled = { k with state := .ready } := by
  refine if_pos ⟨state, done.imp id fun last => ?_⟩
  rw [← Bool.not_eq_true, k.pagesLeft_iff]
  rintro ⟨z, had, left⟩
  exact Nat.not_lt.mpr left (last z had)

theorem Deck.settled_not {k : Deck}
    (h : k.state ≠ .priming ∨ ¬ (24 ≤ k.buffer.length ∨ ∀ z, k.source = some z → (z.length - 1) / 8 < k.nextPage)) : k.settled = k := by
  refine if_neg fun ⟨state, done⟩ => ?_
  rcases h with other | short
  · exact other state
  · refine short (done.imp id fun none z had => ?_)
    rw [← Bool.not_eq_true, k.pagesLeft_iff] at none
    exact Nat.lt_of_not_le fun left => none ⟨z, had, left⟩

/-- What a deck read brings: another page, or the stored one at the place of the content page (R135). -/
theorem State.contents_deckRead {s : State} {k : Deck} {page : Nat} {outcome : ReadOutcome} {contents : FlashPage}
    (brings : outcome = .other contents ∨ (outcome = .stored ∧ ∃ z, k.source = some z ∧ contents = Flash.read s.flash
       ((z.bank.val * 1024 + z.firstUnit + (contentPlace page).1) * 64 + (contentPlace page).2))) :
    s.contents (k.storePage page) outcome = some contents := by
  rcases brings with rfl | ⟨rfl, z, had, rfl⟩
  · rfl
  · have place : k.storePage page = (z.bank.val * 1024 + z.firstUnit + (contentPlace page).1) * 64 + (contentPlace page).2 := by
      unfold Deck.storePage
      rw [had]
      simp only [pageNumber, unitNumber, Config.unitsPerBank, Config.pagesPerUnit, Nat.add_assoc]
    rw [place]
    rfl

/-- A read of the present item whose page check fails ends as a failed read does. -/
theorem exec_deckRead_failed {s : State} {n : Fin 4} {id : DeckId} {b : Fin 4} {page : Nat} {load : BitVec 32} {allowance : Bool}
    (held : s.arbiter.port = some (.deckRead n id b page load allowance)) (present : ((s.channels.get n).deck id).load = load)
    (loaded : ((s.channels.get n).deck id).state ≠ .idle) (outcome : ReadOutcome)
    (bad : (s.contents (((s.channels.get n).deck id).storePage page) outcome).bind contentFrames = none) :
    exec (.deckReadComplete outcome) s = .next ((s.freed b).putDesk n ((s.desk n).readFailed id allowance ((s.freed b).env n))) := by
  have ends := (s.desk n).readEnds_present id page allowance (s.contents (((s.channels.get n).deck id).storePage page) outcome)
    ((s.freed b).env n) present loaded
  rw [bad] at ends
  change execDeckReadComplete outcome s = _
  unfold execDeckReadComplete
  rw [held]
  exact congrArg (fun d => Host.Outcome.next ((s.freed b).putDesk n d)) ends

/-- Settles O57: a good page joins the buffer, a bad one ends as a failed read, and a late completion clears its read alone. -/
theorem deckReadEnds : Obligations.DeckReadEnds := by
  unfold Obligations.DeckReadEnds
  refine ⟨?_, ?_⟩
  · intro s n id b page load allowance outcome contents k freed held present loaded brings
    have read : s.contents (k.storePage page) outcome = some contents := State.contents_deckRead brings
    refine ⟨fun fs frames => ?_, fun bad _ => ?_⟩
    · have ends := (s.desk n).readEnds_present id page allowance (s.contents (k.storePage page) outcome) ((s.freed b).env n)
        present loaded
      rw [read, Option.bind_some, frames] at ends
      have joins : exec (.deckReadComplete outcome) s =
          .next ((s.freed b).withChannel n ((s.channels.get n).setDeck id (k.joined page fs).settled)) := by
        refine exec_deckRead held outcome ?_
        rw [read]
        exact ends
      refine ⟨fun waits => ?_, fun state done => ?_⟩
      · rw [joins, Deck.settled_not (k := k.joined page fs) waits]
        rfl
      · rw [joins, Deck.settled_primed (k := k.joined page fs) state done]
        rfl
    · rw [exec_deckRead_failed held present loaded outcome (by rw [read]; exact bad),
        exec_deckRead_failed held present loaded .failed rfl]
  · intro s n id b page load allowance outcome k freed held
    refine ⟨fun present loaded few => ?_, fun late => ?_⟩
    · refine exec_deckRead held .failed ?_
      exact ((s.desk n).readEnds_present id page allowance none ((s.freed b).env n) present loaded).trans
        ((s.desk n).readFailed_again id allowance ((s.freed b).env n) few)
    · exact exec_deckRead held outcome ((s.desk n).readEnds_late id page allowance _ _ late)

end Sys2Proof.Machine

/-! Requests on the cart store (O50) and the erase job (O51). -/

namespace Sys2Proof.Machine

/-! ### Fields (R142, R144) -/

theorem cartField_of {x : BitVec 16} {c : Fin 1024} (h : x.toNat = c.val) (present : c ≠ 0) : cartField x = some c := by
  refine cartField_inside ?_ h
  rintro rfl
  exact present (Fin.ext h.symm)

/-- R144, R147: a range of units that is refused BAD_FIELD. -/
def BadUnitRange (bank count first : Nat) : Prop :=
  4 ≤ bank ∨ count < 1 ∨ 64 < count ∨ 1024 < first + count

theorem unitRange_bad {bank count : Byte} {first : BitVec 16} (bad : BadUnitRange bank.toNat count.toNat first.toNat) :
    unitRange bank first count = none := by
  unfold unitRange
  split
  · next b inside =>
    have near : bank.toNat < 4 := by
      by_contra outside
      rw [field_outside outside] at inside
      cases inside
    refine if_neg fun good => ?_
    rw [Bool.and_eq_true, inRange_iff, decide_eq_true_eq] at good
    simp only [Config.unitsPerBank] at good
    unfold BadUnitRange at bad
    omega
  · rfl

theorem unitRange_good {bank count : Byte} {first : BitVec 16} (good : ¬ BadUnitRange bank.toNat count.toNat first.toNat) {b : Fin 4}
    (hb : bank.toNat = b.val) : unitRange bank first count = some (b, first.toNat, count.toNat) := by
  unfold BadUnitRange at good
  unfold unitRange
  rw [field_eq_some b hb]
  refine if_pos ?_
  rw [Bool.and_eq_true, inRange_iff, decide_eq_true_eq]
  simp only [Config.unitsPerBank]
  omega

theorem unitRange_bank {bank count first : Nat} (good : ¬ BadUnitRange bank count first) : ∃ b : Fin 4, bank = b.val :=
  ⟨⟨bank, Nat.lt_of_not_le fun far => good (.inl far)⟩, rfl⟩

/-! ### CART_QUERY, UNIT_QUERY and CART_DELETE (R142 to R146) -/

section
variable {s : State} {a : Address} (reached : s.reached a) (tag : BitVec 16)
include reached

theorem exec_cartQuery (cart : BitVec 16) : exec (.cartQuery a tag cart) s = .next (match cartField cart with
    | none => s.answer tag 0x0012 .badField
    | some c => if s.store.scan.done then
        s.answer tag 0x0012 .done (.cart (s.store.catalog.get c) (s.store.holds.get c)
          (if (s.store.catalog.get c).state = .loading then s.store.progress c else none))
      else s.answer tag 0x0012 .scanning) :=
  congrArg Host.Outcome.next (s.atPart_reached a _ reached)

theorem exec_unitQuery (bank count : Byte) (first : BitVec 16) : exec (.unitQuery a tag bank first count) s =
    .next (match unitRange bank first count with
    | none => s.answer tag 0x0013 .badField
    | some (b, f, n) =>
      if s.store.scan.done then s.answer tag 0x0013 .done (.units (s.store.report (unitNumber b f) n))
      else s.answer tag 0x0013 .scanning) :=
  congrArg Host.Outcome.next (s.atPart_reached a _ reached)

/-- R145, R146: a CART_DELETE with a good cart number, after the scan. -/
def State.judgeDelete (s : State) (tag : BitVec 16) (c : Fin 1024) : State :=
  match (s.store.catalog.get c).state with
  | .empty => s.answer tag 0x0014 .state
  | .ready =>
    if s.store.holds.get c = 0 then (s.setStore (s.store.remove c)).answer tag 0x0014 .done
    else s.answer tag 0x0014 .held
  | .torn => (s.setStore (s.store.remove c)).answer tag 0x0014 .done
  | .loading => ((s.setStore (s.store.remove c)).abandonDownload).answer tag 0x0014 .done

theorem exec_cartDelete (cart : BitVec 16) : exec (.cartDelete a tag cart) s = .next (match cartField cart with
    | none => s.answer tag 0x0014 .badField
    | some c => if s.store.scan.done then s.judgeDelete tag c else s.answer tag 0x0014 .scanning) :=
  congrArg Host.Outcome.next (s.atPart_reached a _ reached)

end

section
variable {s : State} (tag : BitVec 16) {c : Fin 1024}

theorem State.judgeDelete_empty (state : (s.store.catalog.get c).state = .empty) : s.judgeDelete tag c = s.answer tag 0x0014 .state := by
  unfold judgeDelete
  rw [state]

theorem State.judgeDelete_held (state : (s.store.catalog.get c).state = .ready) (held : s.store.holds.get c ≠ 0) :
    s.judgeDelete tag c = s.answer tag 0x0014 .held := by
  unfold judgeDelete
  rw [state]
  exact if_neg held

/-- R145: a READY cart that nothing holds and a TORN cart are removed. -/
theorem State.judgeDelete_removes (state : ((s.store.catalog.get c).state = .ready ∧ s.store.holds.get c = 0) ∨ (s.store.catalog.get c).state = .torn) :
    s.judgeDelete tag c = (s.setStore (s.store.remove c)).answer tag 0x0014 .done := by
  unfold judgeDelete
  rcases state with ⟨ready, free⟩ | torn
  · rw [ready]
    exact if_pos free
  · rw [torn]

/-- R146: the download of a LOADING cart is abandoned first. -/
theorem State.judgeDelete_loading (state : (s.store.catalog.get c).state = .loading) {d : Download} (had : s.store.download = some d) :
    s.judgeDelete tag c = (({ s with store := { s.store.remove c with download := none } } : State).answerClose d .torn).answer tag 0x0014 .done := by
  unfold judgeDelete State.abandonDownload
  rw [state]
  have had' : (s.setStore (s.store.remove c)).store.download = some d := had
  dsimp only
  rw [had']
  rfl

theorem State.answerClose_waiting (s : State) {d : Download} (code : ResultCode) {w : CloseWait} (had : d.close = some w) :
    s.answerClose d code = s.answer w.tag 0x0017 code (.close d.cart d.expected d.errors) := by
  unfold answerClose
  rw [had]

theorem State.answerClose_none (s : State) {d : Download} (code : ResultCode) (had : d.close = none) : s.answerClose d code = s := by
  unfold answerClose
  rw [had]

theorem Store.progress_own {t : Store} {d : Download} (had : t.download = some d) (own : d.cart = c) :
    t.progress c = some { phase := d.phase, expected := d.expected, errors := d.errors, programmed := d.programmed } := by
  unfold progress
  rw [had, Option.filter_some, if_pos (decide_eq_true own)]
  rfl

end

/-- Settles O50: the fields first, then the scan, and then the catalog entry or the units asked for. -/
theorem storeRequests : Obligations.StoreRequests := by
  unfold Obligations.StoreRequests
  refine ⟨fun s a tag cart first bank count reached => ⟨fun bad => ?_, fun bad => ?_, fun c hc present => ⟨fun scanning => ?_, fun scanned => ⟨fun steady => ?_,
    fun d loading had own => ?_⟩⟩, fun good => ?_⟩, fun s a tag cart reached => ⟨fun bad => ?_, fun c hc present => ⟨fun scanning => ?_, fun scanned => ?_⟩⟩⟩
  · rw [exec_cartQuery reached, cartField_outside bad]
  · rw [exec_unitQuery reached, unitRange_bad bad]
  · rw [exec_cartQuery reached, cartField_of hc present]
    exact congrArg Host.Outcome.next (if_neg (by simp [scanning]))
  · rw [exec_cartQuery reached, cartField_of hc present]
    dsimp only
    rw [if_pos scanned, if_neg steady]
  · rw [exec_cartQuery reached, cartField_of hc present]
    dsimp only
    rw [if_pos scanned, if_pos loading, Store.progress_own had own]
  · obtain ⟨b, hb⟩ := unitRange_bank good
    rw [exec_unitQuery reached, unitRange_good good hb]
    dsimp only
    refine ⟨fun scanning => ?_, fun scanned => ?_⟩
    · rw [if_neg (by simp [scanning])]
    · rw [if_pos scanned, hb]
      rfl
  · rw [exec_cartDelete reached, cartField_outside bad]
  · rw [exec_cartDelete reached, cartField_of hc present]
    exact congrArg Host.Outcome.next (if_neg (by simp [scanning]))
  · have judged : exec (.cartDelete a tag cart) s = .next (s.judgeDelete tag c) := by
      rw [exec_cartDelete reached, cartField_of hc present]
      exact congrArg Host.Outcome.next (if_pos scanned)
    rw [judged]
    refine ⟨fun empty => ?_, fun ready held => ?_, fun removes => ⟨(s.store.remove c).map, fun r had u inside => ?_, fun steady => ?_, fun d loading had => ?_⟩⟩
    · rw [State.judgeDelete_empty tag empty]
    · rw [State.judgeDelete_held tag ready held]
    · unfold Store.remove
      dsimp only
      rw [had]
      exact UnitMap.at_markRun _ _ _ _ _ inside
    · rw [State.judgeDelete_removes tag (removes.imp id fun h => h.resolve_right steady)]
      rfl
    · rw [State.judgeDelete_loading tag loading had]
      refine ⟨fun close => ?_, fun w close => ?_⟩
      · rw [State.answerClose_none _ _ close]
        rfl
      · rw [State.answerClose_waiting _ _ close]
        rfl

/-! ### The erase job (R147 to R149) -/

section
variable {s : State} {j : EraseJob} (had : s.store.job = some j)
include had

theorem State.finishJob_runs (runs : j.units ≠ []) : s.finishJob = s := by
  unfold finishJob
  rw [had]
  exact if_neg (by simp [runs])

theorem State.finishJob_ends (units : j.units = []) (flies : j.inFlight = none) :
    s.finishJob = ({ s with store := { s.store with job := none } } : State).answer j.tag 0x0015 .done (.erase j.erased j.failed) := by
  unfold finishJob
  rw [had]
  exact if_pos (by simp [units, flies])

end

/-- R147: the job of an accepted UNIT_ERASE. -/
def EraseJob.started (tag : BitVec 16) (b : Fin 4) (units : List Nat) : EraseJob :=
  { tag := tag, bank := b, units := units, inFlight := none, erased := 0, failed := 0 }

/-- R147: a UNIT_ERASE with a good range, after the scan. -/
def State.judgeErase (s : State) (tag : BitVec 16) (b : Fin 4) (first count : Nat) : State :=
  if s.store.job.isSome then s.answer tag 0x0015 .busy
  else if (s.store.unitsIn (unitNumber b first) count .claimed).isEmpty then
    (s.setStore { s.store with job := some (.started tag b (s.store.unitsIn (unitNumber b first) count .dirty)) }).finishJob
  else s.answer tag 0x0015 .state

theorem exec_unitErase {s : State} {a : Address} (reached : s.reached a) (tag first : BitVec 16) (bank count : Byte) :
    exec (.unitErase a tag bank first count) s = .next (match unitRange bank first count with
    | none => s.answer tag 0x0015 .badField
    | some (b, f, n) => if s.store.scan.done then s.judgeErase tag b f n else s.answer tag 0x0015 .scanning) :=
  congrArg Host.Outcome.next (s.atPart_reached a _ reached)

theorem Store.unitsIn_empty_iff (t : Store) (first count : Nat) (x : UnitState) :
    (t.unitsIn first count x).isEmpty = true ↔ ¬ ∃ i, i < count ∧ UnitMap.at t.map (first + i) = some x := by
  rw [List.isEmpty_iff, Store.unitsIn, List.filter_eq_nil_iff]
  simp

theorem Flash.read_write_solid (m : Flash) (n : Nat) {p : FlashPage} (solid : isBlank p = false) : Flash.read (m.write n p) n = trimPage p := by
  have found : (m.write n p).lookup n = some (trimPage p) := by
    induction m with
    | nil => simp [Flash.write, solid]
    | cons e rest ih =>
      obtain ⟨k, q⟩ := e
      unfold Flash.write
      rw [solid, if_neg Bool.false_ne_true, if_neg Bool.false_ne_true]
      split
      · exact List.lookup_cons_self
      · split
        · exact List.lookup_cons_self
        · next differs =>
          rw [List.lookup_cons, beq_eq_false_iff_ne.mpr differs]
          exact ih
  rw [Flash.read, found]
  rfl

/-- R138: after a failed erase page 0 of the unit holds the void mark. -/
theorem Flash.read_partErased_void (m : Flash) (fresh : Nat) {unit : Nat} (inside : unit < 4096) :
    Flash.read (m.partErased fresh unit .void) (unit * 64) = .void := by
  have place : pageNumber unit 0 = unit * 64 := rfl
  have near : unit * 64 < Flash.pages := by
    change unit * 64 < 4096 * 64
    omega
  unfold Flash.partErased Flash.program
  rw [place, if_pos near, Flash.read_write_solid _ _ rfl]
  rfl

/-- R148: after an erase every page of the unit is blank. -/
theorem Flash.read_eraseUnit_same (m : Flash) {unit n : Nat} (own : n / 64 = unit) : Flash.read (m.eraseUnit unit) n = blankPage := by
  have gone : (m.eraseUnit unit).lookup n = none := by
    rw [List.lookup_eq_none_iff]
    intro e listed
    obtain ⟨_, kept⟩ := List.mem_filter.mp listed
    rw [bne_iff_ne]
    intro same
    exact of_decide_eq_true kept (same ▸ own)
  rw [Flash.read, gone]
  rfl

/-- The flash after the erase of a unit, by its outcome. -/
theorem State.erasedFlash_eq (s : State) (unit : Nat) (success : Bool) : s.erasedFlash unit success = { s with
    flash := if success then Flash.eraseUnit s.flash unit else Flash.partErased s.flash s.fresh unit .void
    fresh := if success then s.fresh else s.fresh + 1 } := by
  cases success <;> rfl

theorem exec_eraseComplete {s : State} {b : Fin 4} {unit : Nat} (busy : s.arbiter.banks.get b = some (.erase unit))
    (free : s.arbiter.port = none) (success : Bool) :
    exec (.eraseComplete b success) s = .next (((s.freeBank b).erasedFlash unit success).eraseEnds unit success) := by
  have released : s.arbiter.released b = true := by
    unfold Arbiter.released
    rw [free]
  change execEraseComplete b success s = _
  unfold execEraseComplete
  rw [busy, released]

/-- The job at the completion of the erase of its unit in flight. -/
def EraseJob.counts (j : EraseJob) (success : Bool) : EraseJob :=
  { j with
    inFlight := none
    erased := if success then j.erased + 1 else j.erased
    failed := if success then j.failed else j.failed + 1 }

/-- A UNIT_BAD record with reason ERASE (R148). -/
def badEraseRecord (position : FrameNo) (unit : Nat) : Record :=
  { note .unitBad position with reason := some .badErase, detail := some (BitVec.ofNat 32 unit) }

/-- R148: the completion of an erase before its job may end. -/
theorem State.eraseEnds_eq (s : State) (unit : Nat) (success : Bool) {j : EraseJob} (had : s.store.job = some j) :
    s.eraseEnds unit success = ({ s with
      store := { s.store with
        job := some (j.counts success), map := UnitMap.mark s.store.map unit (if success then .erased else .bad) }
      log := if success then s.log else s.log.append (badEraseRecord s.time.pos unit) } : State).finishJob := by
  unfold eraseEnds
  rw [had]
  cases success <;> rfl

/-- Settles O51: the request by its judgement, the completion by the job it counts for. -/
theorem eraseJobRuns : Obligations.EraseJobRuns := by
  unfold Obligations.EraseJobRuns
  refine ⟨?_, ?_⟩
  · intro s a tag first bank count reached request bad unit claimed dirty
    refine ⟨fun bad => ?_, fun good scanning => ?_, fun good scanned => ?_⟩
    · rw [exec_unitErase reached, unitRange_bad bad]
    · obtain ⟨b, hb⟩ := unitRange_bank good
      rw [exec_unitErase reached, unitRange_good good hb]
      exact congrArg Host.Outcome.next (if_neg (by simp [scanning]))
    · obtain ⟨b, hb⟩ := unitRange_bank good
      have judged : exec request s = .next (s.judgeErase tag b first.toNat count.toNat) := by
        rw [exec_unitErase reached, unitRange_good good hb]
        exact congrArg Host.Outcome.next (if_pos scanned)
      have start : unit = (unitNumber b first.toNat + ·) := by
        funext i
        change bank.toNat * 1024 + first.toNat + i = _
        rw [hb]
        rfl
      have empty := s.store.unitsIn_empty_iff (unitNumber b first.toNat) count.toNat .claimed
      have claimed_iff : claimed ↔ ∃ i, i < count.toNat ∧ UnitMap.at s.store.map (unitNumber b first.toNat + i) = some .claimed := by
        change (∃ i, i < count.toNat ∧ UnitMap.at s.store.map (unit i) = some .claimed) ↔ _
        rw [start]
      have dirty_eq : dirty = s.store.unitsIn (unitNumber b first.toNat) count.toNat .dirty := by
        change ((List.range count.toNat).map unit).filter _ = _
        rw [start]
        rfl
      rw [judged, claimed_iff, dirty_eq]
      unfold State.judgeErase
      refine ⟨fun busy => ?_, fun none claimed => ?_, fun none calm clean => ?_, fun none calm some c hc => ?_⟩
      · rw [if_pos busy]
      · rw [if_neg (by rw [none]; decide), if_neg fun h => empty.mp h claimed]
      · rw [if_neg (by rw [none]; decide), if_pos (empty.mpr calm), State.finishJob_ends rfl clean rfl, clean, ← none]
        rfl
      · cases Fin.ext (hb.symm.trans hc)
        rw [if_neg (by rw [none]; decide), if_pos (empty.mpr calm), State.finishJob_runs rfl some]
        rfl
  · intro s b unit j success busy free had inside erased failed bad
    rw [exec_eraseComplete busy free, State.erasedFlash_eq, State.eraseEnds_eq (j := j)]
    case had => exact had
    refine ⟨UnitMap.mark s.store.map unit (if success then .erased else .bad),
      if success then Flash.eraseUnit s.flash unit else Flash.partErased s.flash s.fresh unit .void,
      if success then s.fresh else s.fresh + 1, fun u near => ?_, fun good p page => ?_, fun bad => ?_,
      fun p other => ?_, fun runs => ?_, fun last => ?_⟩
    rotate_left 4
    · exact congrArg Host.Outcome.next (State.finishJob_runs (j := j.counts success) rfl runs)
    · exact congrArg Host.Outcome.next (State.finishJob_ends (j := j.counts success) rfl last rfl)
    · rw [UnitMap.at_mark _ _ _ _ near]
    · cases good
      exact Flash.read_eraseUnit_same _ (by omega)
    · cases bad
      exact Flash.read_partErased_void _ _ inside
    · cases success
      · exact Flash.read_partErased_other _ _ _ other
      · exact Flash.read_eraseUnit_other _ other

end Sys2Proof.Machine

/-! Downloads: a segment judged and placed (O53), CART_CLOSE (O54), and the ends of programs and erases (O60). -/

namespace Sys2Proof.Machine

/-! ### The staging pages (R160, R161) -/

/-- The other of the two staging pages. -/
def StagingId.other (i : StagingId) : StagingId := if i = .x then .y else .x

theorem Store.runOf_eq {t : Store} {c : Fin 1024} {r : Run} (had : (t.catalog.get c).run = some r) : t.runOf c = r := by
  unfold runOf
  rw [had]
  rfl

theorem firstOfUnit_iff (j : Nat) : firstOfUnit j = true ↔ j = 0 ∨ (62 ≤ j ∧ (j - 62) % 63 = 0) := by
  simp only [firstOfUnit, Bool.or_eq_true, Bool.and_eq_true, decide_eq_true_eq]

section
variable {d : Download} {i : StagingId}

theorem Download.target_filling (filling : (d.staging i).state = .filling) (first : i = .x ∨ (d.staging i.other).state ≠ .filling) :
    d.target = some i := by
  unfold target
  cases i with
  | x => exact if_pos filling
  | y =>
    have calm : d.x.state ≠ .filling := first.resolve_left (by decide)
    rw [if_neg calm]
    exact if_pos filling

theorem Download.target_empty (empty : (d.staging i).state = .empty) (calm : (d.staging i.other).state ≠ .filling)
    (first : i = .x ∨ (d.staging i.other).state ≠ .empty) : d.target = some i := by
  unfold target
  cases i with
  | x =>
    have state : d.x.state = .empty := empty
    have other : d.y.state ≠ .filling := calm
    rw [if_neg (by simp [state]), if_neg other, if_pos state]
  | y =>
    have state : d.y.state = .empty := empty
    have other : d.x.state ≠ .filling := calm
    have full : d.x.state ≠ .empty := first.resolve_left (by decide)
    rw [if_neg other, if_neg (by simp [state]), if_neg full, if_pos state]

theorem Download.target_none (x : d.x.state = .pending ∨ d.x.state = .programming) (y : d.y.state = .pending ∨ d.y.state = .programming) :
    d.target = none := by
  unfold target
  rcases x with x | x <;> rcases y with y | y <;> simp [x, y]

/-- An accepted segment, the staging page given: placed, and the page pending where it is full. -/
def Download.placed (d : Download) (i : StagingId) (y : Staging) (nextPage : Nat) (audio : Audio) : Download :=
  { d.setStaging i y with nextPage := nextPage, check := checkOver d.check (audioBytes audio), expected := d.expected + 1 }

theorem Download.accept_empty (r : Run) (audio : Audio) (empty : (d.staging i).state = .empty) :
    d.accept r i audio = d.placed i { state := .filling, page := d.nextPage, frames := [audio] } (d.nextPage + 1) audio := by
  simp only [accept, empty, decide_true, if_true]
  exact if_pos (by simp [Config.framesPerPage])

theorem Download.accept_filling (r : Run) (audio : Audio) (filling : (d.staging i).state = .filling) :
    d.accept r i audio =
      if (d.staging i).frames.length < 7 then
        d.placed i { d.staging i with frames := (d.staging i).frames ++ [audio] } d.nextPage audio
      else (d.placed i { d.staging i with frames := (d.staging i).frames ++ [audio] } d.nextPage audio).pend r i := by
  have kept : decide ((d.staging i).state = .empty) = false := by rw [filling]; rfl
  simp only [accept, kept, Bool.false_eq_true, if_false]
  refine if_congr ?_ rfl rfl
  rw [List.length_append, List.length_singleton]
  simp only [Config.framesPerPage]
  omega

/-- R160: a page made pending, with its programs. -/
theorem Download.pend_eq (r : Run) : d.pend r i =
    { d.setStaging i { d.staging i with state := .pending } with
      queue := d.queue ++ contentPrograms d.cart r i { d.staging i with state := .pending } } := by
  cases i <;> rfl

theorem Download.staging_setStaging (x : Staging) : (d.setStaging i x).staging i = x := by
  cases i <;> rfl

theorem Download.staging_placed (y : Staging) (nextPage : Nat) (audio : Audio) : (d.placed i y nextPage audio).staging i = y := by
  cases i <;> rfl

end

/-! ### SEGMENT_FRAME (R159 to R163) -/

section
variable {s : State} {d : Download}

theorem exec_segmentFrame {a : Address} (reached : s.reached a) (cart : BitVec 16) (offset : BitVec 32) (audio : Audio) :
    exec (.segmentFrame a cart offset audio) s = .next (match s.store.download with
      | some d => if cart.toNat = d.cart.val then s.segment d offset audio else s
      | none => s) :=
  congrArg Host.Outcome.next (s.atPart_reached a _ reached)

theorem segmentLength_eq (z : Option CartLength) : z.elim 0 (·.length) = (z.map (·.length)).getD 0 := by
  cases z <;> rfl

theorem State.segment_closing (offset : BitVec 32) (audio : Audio) (closing : d.phase = .closing) : s.segment d offset audio = s :=
  if_pos closing

variable {offset : BitVec 32} {audio : Audio} (receiving : d.phase = .receiving)
include receiving

theorem State.segment_offset (wrong : offset.toNat ≠ d.expected ∨
      d.expected = ((s.store.catalog.get d.cart).size.map (·.length)).getD 0) :
    s.segment d offset audio = s.setDownload { d with errors := if d.errors < 0xFFFF then d.errors + 1 else d.errors } := by
  rw [← segmentLength_eq] at wrong
  unfold segment
  rw [receiving]
  exact (if_neg (by decide)).trans (if_pos wrong)

theorem State.segment_placed (next : offset.toNat = d.expected)
    (room : d.expected ≠ ((s.store.catalog.get d.cart).size.map (·.length)).getD 0) :
    s.segment d offset audio = match d.target with
      | some id => s.setDownload (d.accept (s.store.runOf d.cart) id audio)
      | none => s.overflow d := by
  rw [← segmentLength_eq] at room
  unfold segment
  rw [receiving]
  exact (if_neg (by decide)).trans (if_neg (not_or.mpr ⟨not_not_intro next, room⟩))

end

/-- The program of a content page, as the statements write it. -/
def contentProgram (r : Run) (i : StagingId) (x : Staging) : Program :=
  { kind := .content i, unit := r.start + (contentPlace x.page).1, ordinal := (contentPlace x.page).1
    page := (contentPlace x.page).2, contents := contentPage x.frames }

/-- The program of the unit header before it (R161). -/
def headerProgram (c : Fin 1024) (r : Run) (x : Staging) : Program :=
  { kind := .unitHeader, unit := r.start + (contentPlace x.page).1, ordinal := (contentPlace x.page).1, page := 0
    contents := unitHeaderPage c (contentPlace x.page).1 r.bank }

section
variable {c : Fin 1024} {r : Run} {i : StagingId} {x : Staging}

theorem contentPrograms_first (first : x.page = 0 ∨ (62 ≤ x.page ∧ (x.page - 62) % 63 = 0)) :
    contentPrograms c r i x = [headerProgram c r x, contentProgram r i x] :=
  if_pos ((firstOfUnit_iff x.page).mpr first)

theorem contentPrograms_inner (inner : ¬ (x.page = 0 ∨ (62 ≤ x.page ∧ (x.page - 62) % 63 = 0))) :
    contentPrograms c r i x = [contentProgram r i x] :=
  if_neg (mt (firstOfUnit_iff x.page).mp inner)

theorem contentPrograms_eq : contentPrograms c r i x =
    if x.page = 0 ∨ (62 ≤ x.page ∧ (x.page - 62) % 63 = 0) then [headerProgram c r x, contentProgram r i x] else [contentProgram r i x] :=
  if_congr (firstOfUnit_iff x.page) rfl rfl

end

/-- Settles O53: the context judges the segment, the staging pages place it, and an overflow tears the cart. -/
theorem segmentJudged : Obligations.SegmentJudged := by
  unfold Obligations.SegmentJudged
  intro s a cart offset audio reached frame
  refine ⟨fun absent => ?_, fun d had => ?_⟩
  · exact (exec_segmentFrame reached cart offset audio).trans (by rw [absent])
  intro length withDownload
  have judged : exec frame s = .next (if cart.toNat = d.cart.val then s.segment d offset audio else s) :=
    (exec_segmentFrame reached cart offset audio).trans (by rw [had])
  refine ⟨fun other => ?_, fun own receiving => ⟨fun wrong => ?_, fun next room => ⟨fun i => ?_, fun x y r run => ?_⟩⟩⟩
  · rw [judged]
    split
    · next own => rw [State.segment_closing offset audio (other.resolve_left (not_not_intro own))]
    · rfl
  · rw [judged, if_pos own, State.segment_offset receiving wrong]
    rfl
  · have placed : ∀ {id}, d.target = some id → exec frame s = .next (s.setDownload (d.accept (s.store.runOf d.cart) id audio)) := by
      intro id target
      rw [judged, if_pos own, State.segment_placed receiving next room, target]
    refine ⟨fun empty calm first => ?_, fun filling first short => ?_, fun r filling first full run => ?_⟩
    · rw [placed (Download.target_empty empty calm first), Download.accept_empty _ _ empty]
      cases i <;> rfl
    · rw [placed (Download.target_filling filling first), Download.accept_filling _ _ filling, if_pos short]
      cases i <;> rfl
    · intro place unit header content
      rw [placed (Download.target_filling filling first), Download.accept_filling _ _ filling, if_neg (by omega), Download.pend_eq,
        Download.staging_placed, contentPrograms_eq, Store.runOf_eq run]
      cases i <;> rfl
  · rw [judged, if_pos own, State.segment_placed receiving next room, Download.target_none x y]
    unfold State.overflow
    rw [Store.runOf_eq run]
    rfl

/-! ### A waiting close (R166, R167) -/

section
variable {s : State} {d : Download} (had : s.store.download = some d)
include had

theorem State.judgeClose_waits (waits : d.phase = .receiving ∨ d.queue ≠ [] ∨ d.inFlight.isSome = true ∨ d.x.state ≠ .empty ∨
      d.y.state ≠ .empty) : s.judgeClose = s := by
  have undrained : d.drained = false := by
    rw [Bool.eq_false_iff]
    intro drained
    simp only [Download.drained, Bool.and_eq_true, decide_eq_true_eq, List.isEmpty_iff, Option.isNone_iff_eq_none] at drained
    obtain ⟨⟨⟨⟨closing, queue⟩, flies⟩, x⟩, y⟩ := drained
    rcases waits with receiving | queued | flying | fullX | fullY
    · cases receiving.symm.trans closing
    · exact queued queue
    · rw [flies] at flying
      cases flying
    · exact fullX x
    · exact fullY y
  unfold judgeClose
  rw [had]
  dsimp only
  rw [undrained]

variable {w : CloseWait} {r : Run} {z : CartLength} (closing : d.phase = .closing) (close : d.close = some w) (queue : d.queue = [])
  (flies : d.inFlight = none) (x : d.x.state = .empty) (y : d.y.state = .empty) (run : (s.store.catalog.get d.cart).run = some r)
  (size : (s.store.catalog.get d.cart).size = some z)
include closing close queue flies x y run size

theorem State.judgeClose_judges : s.judgeClose =
    if d.expected = z.length ∧ checkFinal d.check = w.check then s.setDownload { d with queue := [cartHeaderProgram d r z w.check] }
    else ((s.setStore (s.store.tear d.cart)).append (tornRecord s.time.pos d r .tornClose)).answerClose d .torn := by
  have drained : d.drained = true := by
    simp [Download.drained, closing, queue, flies, x, y]
  unfold judgeClose
  rw [had]
  dsimp only
  rw [drained, close]
  dsimp only
  rw [Store.runOf_eq run, size]
  rfl

theorem State.judgeClose_good (length : d.expected = z.length) (check : checkFinal d.check = w.check) :
    s.judgeClose = s.setDownload { d with queue := [cartHeaderProgram d r z w.check] } :=
  (judgeClose_judges had closing close queue flies x y run size).trans (if_pos ⟨length, check⟩)

theorem State.judgeClose_bad (wrong : d.expected ≠ z.length ∨ checkFinal d.check ≠ w.check) :
    s.judgeClose = ((s.setStore (s.store.tear d.cart)).append (tornRecord s.time.pos d r .tornClose)).answerClose d .torn :=
  (judgeClose_judges had closing close queue flies x y run size).trans (if_neg (not_and_or.mpr wrong))

end

/-! ### CART_CLOSE (R166, R167) -/

/-- R166: a good CART_CLOSE of the download's cart: the context waits, its FILLING page filled up. -/
def Download.closed (d : Download) (tag : BitVec 16) (check : BitVec 32) : Download :=
  { d with phase := .closing, close := some { tag := tag, check := check } }

section
variable {s : State} {a : Address} (reached : s.reached a) (tag : BitVec 16) {cart : BitVec 16} (given : BitVec 32)
include reached

theorem exec_cartClose (cart : BitVec 16) : exec (.cartClose a tag cart given) s = .next (match cartField cart with
    | none => s.answer tag 0x0017 .badField
    | some c => if s.store.scan.done then match s.store.download.filter (fun d => decide (d.cart = c)) with
        | none => s.answer tag 0x0017 .state
        | some d => if d.phase = .closing then s.answer tag 0x0017 .busy
          else (s.setDownload (((d.closed tag given).padPage (s.store.runOf c) .x).padPage (s.store.runOf c) .y)).judgeClose
      else s.answer tag 0x0017 .scanning) :=
  congrArg Host.Outcome.next (s.atPart_reached a _ reached)

variable {c : Fin 1024} (hc : cart.toNat = c.val) (present : c ≠ 0)
include hc present

theorem exec_cartClose_scanning (scanning : s.store.scan.done = false) :
    exec (.cartClose a tag cart given) s = .next (s.answer tag 0x0017 .scanning) := by
  rw [exec_cartClose reached, cartField_of hc present]
  exact congrArg Host.Outcome.next (if_neg (by simp [scanning]))

variable (scanned : s.store.scan.done = true)
include scanned

theorem exec_cartClose_state (other : ∀ d, s.store.download = some d → d.cart ≠ c) :
    exec (.cartClose a tag cart given) s = .next (s.answer tag 0x0017 .state) := by
  have absent : s.store.download.filter (fun d => decide (d.cart = c)) = none := by
    rw [Option.filter_eq_none_iff]
    exact fun d had => by simpa using other d had
  rw [exec_cartClose reached, cartField_of hc present]
  dsimp only
  rw [if_pos scanned, absent]

theorem exec_cartClose_own {d : Download} (had : s.store.download = some d) (own : d.cart = c) :
    exec (.cartClose a tag cart given) s = .next (if d.phase = .closing then s.answer tag 0x0017 .busy
      else (s.setDownload (((d.closed tag given).padPage (s.store.runOf c) .x).padPage (s.store.runOf c) .y)).judgeClose) := by
  have mine : s.store.download.filter (fun d => decide (d.cart = c)) = some d := by
    rw [had, Option.filter_some, if_pos (decide_eq_true own)]
  rw [exec_cartClose reached, cartField_of hc present]
  dsimp only
  rw [if_pos scanned, mine]

end

section
variable {d : Download} {i : StagingId} (r : Run)

theorem Download.padPage_other (h : (d.staging i).state ≠ .filling) : d.padPage r i = d := if_neg h

/-- R166: a staging page filled up with silence, and pending. -/
def Staging.padded (x : Staging) : Staging :=
  { x with state := .pending, frames := x.frames ++ List.replicate (8 - x.frames.length) (List.replicate 384 0) }

theorem Download.padPage_filling (h : (d.staging i).state = .filling) : d.padPage r i =
    { d.setStaging i (d.staging i).padded with queue := d.queue ++ contentPrograms d.cart r i (d.staging i).padded } := by
  have pads : d.padPage r i = _ := if_pos h
  rw [pads]
  cases i <;> rfl

/-- R166: with one page FILLING, that page alone is filled up. -/
theorem Download.padPages_filling (filling : (d.staging i).state = .filling) (other : (d.staging i.other).state ≠ .filling) :
    (d.padPage r .x).padPage r .y = d.padPage r i := by
  cases i with
  | x => exact padPage_other r (i := .y) (by rw [padPage_filling r filling]; exact other)
  | y =>
    have first : d.padPage r .x = d := padPage_other r other
    rw [first]

theorem Download.padPages_none (x : d.x.state ≠ .filling) (y : d.y.state ≠ .filling) : (d.padPage r .x).padPage r .y = d := by
  have first : d.padPage r .x = d := padPage_other r x
  rw [first]
  exact padPage_other r y

end

/-- Settles O54: refused by the fields, the scan or the context; otherwise the context waits, or is judged at once. -/
theorem cartCloseRequest : Obligations.CartCloseRequest := by
  unfold Obligations.CartCloseRequest
  intro s a tag cart given reached request
  refine ⟨fun bad => ?_, fun c hc present => ⟨fun scanning => exec_cartClose_scanning reached tag given hc present scanning,
    fun scanned => ⟨fun other => exec_cartClose_state reached tag given hc present scanned other, fun d had own => ?_⟩⟩⟩
  · exact (exec_cartClose reached tag given cart).trans (by rw [cartField_outside bad])
  intro closing
  have judged := exec_cartClose_own reached tag given hc present scanned had own
  refine ⟨fun waits => ?_, fun receiving x y busy => ?_, fun i r receiving filling other run => ?_, fun receiving x y queue flies r z run size => ?_⟩
  · exact judged.trans (congrArg Host.Outcome.next (if_pos waits))
  all_goals
    rw [if_neg (by simp [receiving])] at judged
  · rw [Download.padPages_none (d := d.closed tag given) _ x y] at judged
    exact judged.trans (congrArg Host.Outcome.next (State.judgeClose_waits (d := closing) rfl (.inr busy)))
  · intro x place unit full queued content first
    subst own
    have staging : (d.closed tag given).staging i = d.staging i := by
      cases i <;> rfl
    have other' : ((d.closed tag given).staging i.other).state ≠ .filling := by
      cases i <;> exact other
    rw [Download.padPages_filling _ (by rw [staging]; exact filling) other', Download.padPage_filling _ (by rw [staging]; exact filling),
      staging, Store.runOf_eq run] at judged
    have waits := judged.trans (congrArg Host.Outcome.next (State.judgeClose_waits rfl (.inr (.inr (.inr ?_)))))
    · refine ⟨fun begins => ?_, fun inner => ?_⟩
      · rw [contentPrograms_first (x := x.padded) begins] at waits
        exact waits
      · rw [contentPrograms_inner (x := x.padded) inner] at waits
        exact waits
    · cases i
      · exact .inl fun (empty : StagingState.pending = .empty) => by cases empty
      · exact .inr fun (empty : StagingState.pending = .empty) => by cases empty
  · subst own
    have calmX : (d.closed tag given).x.state ≠ .filling := fun filling => by cases filling.symm.trans x
    have calmY : (d.closed tag given).y.state ≠ .filling := fun filling => by cases filling.symm.trans y
    rw [Download.padPages_none _ calmX calmY] at judged
    refine ⟨fun wrong => ?_, fun length check => ?_⟩
    · have torn := State.judgeClose_bad (s := s.setDownload closing) (d := closing) rfl rfl rfl queue flies x y run size wrong
      rw [State.answerClose_waiting (w := { tag := tag, check := given }) _ _ rfl] at torn
      exact judged.trans (congrArg Host.Outcome.next torn)
    · have good := State.judgeClose_good (s := s.setDownload closing) (d := closing) rfl rfl rfl queue flies x y run size length check
      exact judged.trans (congrArg Host.Outcome.next good)

end Sys2Proof.Machine

/-! The ends of transfers, programs and erases on the media port (O60). -/

namespace Sys2Proof.Machine

/-! ### A cart that becomes READY (R104) -/

theorem Desk.retryFill_calm (e : Env) (d : Desk) (calm : d.ch.fill.wait = false) : d.retryFill e = d := by
  unfold retryFill
  rw [if_neg (by simp [calm])]

/-- R104 where no channel waits for a fill cart. -/
theorem State.cartReady_calm {s : State} (calm : ∀ n, (s.channels.get n).fill.wait = false) : s.cartReady = s :=
  s.onChannels_same (fun e d => d.retryFill e) fun n => Desk.retryFill_calm (s.env n) (s.desk n) (calm n)

/-! ### The flash after a program (R138, R169) -/

theorem State.programmedFlash_good (s : State) (p : Program) :
    s.programmedFlash p true = { s with flash := Flash.program s.flash (p.unit * 64 + p.page) p.contents } := rfl

/-- The page that a failed program leaves (log 9). -/
def loosePageOf (s : State) (p : Program) : FlashPage := Flash.loosePage s.fresh (p.unit * 64 + p.page)

theorem State.programmedFlash_bad (s : State) (p : Program) : s.programmedFlash p false =
    { s with flash := Flash.program s.flash (p.unit * 64 + p.page) (loosePageOf s p), fresh := s.fresh + 1 } := rfl

theorem loosePageOf_page1 (s : State) {p : Program} (page : p.page = 1) : checkGood (loosePageOf s p) 20 = false := by
  refine Flash.loosePage_page1 _ _ ?_
  simp only [Config.pagesPerUnit]
  omega

/-- R139: the run cut before the unit of a failed program. -/
theorem at_cutMap (map : UnitMap) (count ordinal unit u : Nat) (inside : u < 4096) :
    UnitMap.at (UnitMap.mark (UnitMap.markRun map (unit + 1) .dirty (count - (ordinal + 1))) unit .bad) u =
      if u = unit then some .bad
      else if unit < u ∧ u < unit + (count - ordinal) then some .dirty else UnitMap.at map u := by
  rw [UnitMap.at_mark _ _ _ _ inside, UnitMap.at_markRun _ _ _ _ _ inside]
  refine if_congr Iff.rfl rfl (if_congr ?_ rfl rfl)
  omega

/-! ### The completion of a program (R162, R164) -/

section
variable {s : State} {b : Fin 4} {p : Program} {c : Fin 1024} {tag : BitVec 32}

theorem exec_programComplete (busy : s.arbiter.banks.get b = some (.program p c tag)) (free : s.arbiter.port = none) (success : Bool) :
    exec (.programComplete b success) s = .next (((s.freeBank b).programmedFlash p success).programEnds p c tag success) := by
  have released : s.arbiter.released b = true := by
    unfold Arbiter.released
    rw [free]
  change execProgramComplete b success s = _
  unfold execProgramComplete
  rw [busy, released]

theorem State.programEnds_own {d : Download} (had : s.store.download = some d) (success : Bool) :
    s.programEnds p c d.number success = if success then s.programDone d p else s.failProgram d p := by
  have own : s.store.download.filter (fun x => decide (x.number = d.number)) = some d := by
    rw [had, Option.filter_some, if_pos (decide_eq_true rfl)]
  unfold programEnds
  rw [own]

theorem State.programEnds_late (other : ∀ d, s.store.download = some d → d.number ≠ tag) (success : Bool) :
    s.programEnds p c tag success = s.lateProgram p c tag success := by
  have absent : s.store.download.filter (fun x => decide (x.number = tag)) = none := by
    rw [Option.filter_eq_none_iff]
    exact fun d had => by simpa using other d had
  unfold programEnds
  rw [absent]

theorem State.lateProgram_good : s.lateProgram p c tag true = s :=
  if_neg fun ⟨_, _, failed⟩ => by cases failed

theorem State.lateProgram_other (other : ¬ ((s.store.catalog.get c).state = .torn ∧ (s.store.catalog.get c).download = some tag)) :
    s.lateProgram p c tag false = s :=
  if_neg fun ⟨torn, by', _⟩ => other ⟨torn, by'⟩

theorem State.lateProgram_torn (torn : (s.store.catalog.get c).state = .torn ∧ (s.store.catalog.get c).download = some tag) :
    s.lateProgram p c tag false =
      (s.setStore (s.store.cutRun c p.ordinal p.unit)).append (badProgramRecord s.time.pos c p.unit) :=
  if_pos ⟨torn.1, torn.2, rfl⟩

end

/-- R162: the context after the program of a content page. -/
def Download.programmedPage (d : Download) (i : StagingId) : Download :=
  { d with inFlight := none, programmed := d.programmed + 1
           x := if i = .x then Staging.empty else d.x, y := if i = .y then Staging.empty else d.y }

section
variable (s : State) (d : Download) {p : Program}

theorem State.programDone_header (kind : p.kind = .unitHeader) :
    s.programDone d p = (s.setDownload { d with inFlight := none }).judgeClose := by
  unfold programDone
  rw [kind]

theorem State.programDone_content {i : StagingId} (kind : p.kind = .content i) :
    s.programDone d p = (s.setDownload (d.programmedPage i)).judgeClose := by
  unfold programDone
  rw [kind]
  cases i <;> rfl

theorem State.programDone_last (kind : p.kind = .cartHeader) : s.programDone d p = s.finishClose { d with inFlight := none } := by
  unfold programDone
  rw [kind]

end

/-- R164: a failed program of the present download, before a waiting close is answered. -/
theorem State.failProgram_eq (s : State) (d : Download) (p : Program) {r : Run} (run : (s.store.catalog.get d.cart).run = some r) :
    s.failProgram d p = ({ s with
      store := { s.store with
        map := UnitMap.mark (UnitMap.markRun s.store.map (p.unit + 1) .dirty (r.count - (p.ordinal + 1))) p.unit .bad
        catalog := put s.store.catalog d.cart { s.store.catalog.get d.cart with state := .torn, run := some { r with count := p.ordinal } }
        download := none }
      log := (s.log.append (badProgramRecord s.time.pos d.cart p.unit)).append (tornRecord s.time.pos d r .tornProgram) } :
        State).answerClose d .torn := by
  unfold failProgram
  dsimp only
  unfold Store.cutRun Store.tear
  simp only [Store.runOf_eq run, State.setStore, State.append, get_put_same, put_put]

/-- Settles O60: the port freed, a program of the present download by its kind and its outcome, and one that has come late. -/
theorem programsAndErasesEnd : Obligations.ProgramsAndErasesEnd := by
  unfold Obligations.ProgramsAndErasesEnd
  refine ⟨fun s b => ⟨fun held => ?_, fun held => ?_⟩, ?_, ?_⟩
  · change execProgramTransferEnd s = _
    unfold execProgramTransferEnd
    rw [held]
    rfl
  · change execEraseCommandEnd s = _
    unfold execEraseCommandEnd
    rw [held]
    rfl
  · intro s b p c d busy free had freed number wrote kept entry empty emptied torn answered
    have good : exec (.programComplete b true) s = .next (wrote.programDone d p) := by
      have ends := State.programEnds_own (s := wrote) (p := p) (c := c) had true
      exact (exec_programComplete busy free true).trans (congrArg Host.Outcome.next ends)
    have bad : exec (.programComplete b false) s = .next (((s.freeBank b).programmedFlash p false).failProgram d p) := by
      have ends := State.programEnds_own (s := (s.freeBank b).programmedFlash p false) (p := p) (c := c) had false
      exact (exec_programComplete busy free false).trans (congrArg Host.Outcome.next ends)
    refine ⟨fun kind waits => ?_, fun i kind waits => ?_, fun i w r z kind closing close queue x y run size => ⟨fun length check => ?_, fun wrong => ?_⟩,
      fun w kind close calm => ?_, fun r run => ?_⟩
    · rw [good, State.programDone_header _ _ kind]
      refine congrArg Host.Outcome.next (State.judgeClose_waits (d := { d with inFlight := none }) rfl ?_)
      exact waits.imp id .inl
    · rw [good, State.programDone_content _ _ kind]
      refine congrArg Host.Outcome.next (State.judgeClose_waits (d := d.programmedPage i) rfl ?_)
      exact waits.imp id fun more => more.imp id fun pages => .inr pages
    · rw [good, State.programDone_content _ _ kind]
      exact congrArg Host.Outcome.next (State.judgeClose_good (s := wrote.setDownload (d.programmedPage i)) (d := d.programmedPage i)
        rfl closing close queue rfl x y run size length check)
    · rw [good, State.programDone_content _ _ kind]
      have judged := State.judgeClose_bad (s := wrote.setDownload (d.programmedPage i)) (d := d.programmedPage i)
        rfl closing close queue rfl x y run size wrong
      rw [State.answerClose_waiting (d := d.programmedPage i) (w := w) _ _ close] at judged
      exact congrArg Host.Outcome.next judged
    · rw [good, State.programDone_last _ _ kind]
      unfold State.finishClose
      dsimp only
      rw [State.answerClose_waiting (d := { d with inFlight := none }) (w := w) _ _ close, close, State.cartReady_calm]
      · rfl
      · exact calm
    · refine ⟨_, loosePageOf s p, fun u inside => at_cutMap s.store.map r.count p.ordinal p.unit u inside, loosePageOf_page1 s, ?_⟩
      rw [bad, State.failProgram_eq ((s.freeBank b).programmedFlash p false) d p run]
      intro after
      refine ⟨fun close => ?_, fun w close => ?_⟩
      · rw [State.answerClose_none _ _ close]
        rfl
      · rw [State.answerClose_waiting _ _ close]
        rfl
  · intro s b p c tag busy free other freed number entry torn
    have ends (success : Bool) : exec (.programComplete b success) s =
        .next (((s.freeBank b).programmedFlash p success).lateProgram p c tag success) := by
      have store : ((s.freeBank b).programmedFlash p success).store = s.store := by
        cases success <;> rfl
      have ends := State.programEnds_late (s := (s.freeBank b).programmedFlash p success) (p := p) (c := c) (tag := tag)
        (by rw [store]; exact other) success
      exact (exec_programComplete busy free success).trans (congrArg Host.Outcome.next ends)
    refine ⟨?_, loosePageOf s p, loosePageOf_page1 s, fun calm => ?_, fun hit r run => ⟨_, fun u inside =>
      at_cutMap s.store.map r.count p.ordinal p.unit u inside, ?_⟩⟩
    · rw [ends, State.lateProgram_good]
      rfl
    · rw [ends, State.lateProgram_other (s := (s.freeBank b).programmedFlash p false) calm]
      rfl
    · rw [ends, State.lateProgram_torn (s := (s.freeBank b).programmedFlash p false) hit]
      unfold Store.cutRun
      have cut : ((s.freeBank b).programmedFlash p false).store.runOf c = r := Store.runOf_eq run
      rw [cut]
      rfl

end Sys2Proof.Machine

/-! The reads of the start-up scan (O58). -/

namespace Sys2Proof.Machine

/-! ### Pages as the scan sees them (R136, R137) -/

section
variable {b : Fin 4} {unit : Nat} {p : FlashPage}

theorem classOf_blank (blank : isBlank p = true) : classOf b unit p = some .blank := if_pos blank

theorem classOf_void (solid : isBlank p = false) (void : p = .void) : classOf b unit p = some .void := by
  unfold classOf
  rw [solid, if_neg Bool.false_ne_true, if_pos void]

theorem classOf_bad (solid : isBlank p = false) (void : p ≠ .void) (bad : pageBytes p 0 8 = badMark) : classOf b unit p = some .bad := by
  unfold classOf
  rw [solid, if_neg Bool.false_ne_true, if_neg void, if_pos bad]

theorem classOf_checked (solid : isBlank p = false) (void : p ≠ .void) (bad : pageBytes p 0 8 ≠ badMark) :
    classOf b unit p = if checkGood p 8 then some (headerClass b unit p) else none := by
  unfold classOf
  rw [solid, if_neg Bool.false_ne_true, if_neg void, if_neg bad]

/-- R136: what a unit header must say to name a cart. -/
def NamesCart (b : Fin 4) (unit : Nat) (p : FlashPage) (c : Fin 1024) : Prop :=
  c ≠ 0 ∧ numberOf (pageBytes p 0 2) = c.val ∧ numberOf (pageBytes p 4 1) = b.val ∧ numberOf (pageBytes p 2 2) ≤ unit

theorem headerClass_valid {c : Fin 1024} (names : NamesCart b unit p c) :
    headerClass b unit p = .header c (numberOf (pageBytes p 2 2)) := by
  obtain ⟨present, cart, bank, ordinal⟩ := names
  unfold headerClass
  rw [field_eq_some c cart]
  exact if_pos ⟨present, bank, ordinal⟩

theorem headerClass_damaged (none : ∀ c, ¬ NamesCart b unit p c) : headerClass b unit p = .damaged := by
  unfold headerClass
  by_cases inside : numberOf (pageBytes p 0 2) < 1024
  · rw [field_inside inside]
    exact if_neg fun ⟨present, bank, ordinal⟩ => none ⟨_, inside⟩ ⟨present, rfl, bank, ordinal⟩
  · rw [field_outside inside]

/-- R137: what a cart header must say to be valid for a cart. -/
def HeaderValid (c : Fin 1024) (p : FlashPage) : Prop :=
  numberOf (pageBytes p 0 2) = c.val ∧ 1 ≤ numberOf (pageBytes p 16 2) ∧ numberOf (pageBytes p 16 2) ≤ 1024 ∧
    1 ≤ numberOf (pageBytes p 4 4) ∧ numberOf (pageBytes p 4 4) ≤ (63 * numberOf (pageBytes p 16 2) - 1) * 8 ∧
      numberOf (pageBytes p 8 4) < numberOf (pageBytes p 4 4)

theorem headerValid_iff (c : Fin 1024) (p : FlashPage) : HeaderValid c p ↔
    numberOf (pageBytes p 0 2) = c.val ∧ inRange 1 1024 (numberOf (pageBytes p 16 2)) = true ∧
      inRange 1 (runCapacity (numberOf (pageBytes p 16 2))) (numberOf (pageBytes p 4 4)) = true ∧
        numberOf (pageBytes p 8 4) < numberOf (pageBytes p 4 4) := by
  have capacity : runCapacity (numberOf (pageBytes p 16 2)) = (63 * numberOf (pageBytes p 16 2) - 1) * 8 := rfl
  rw [HeaderValid, inRange_iff, inRange_iff, capacity]
  simp only [and_assoc]

/-- The cart header that a valid page 1 carries. -/
def headerOf (p : FlashPage) : CartHeader :=
  { length := numberOf (pageBytes p 4 4), segueOut := numberOf (pageBytes p 8 4)
    check := BitVec.ofNat 32 (numberOf (pageBytes p 12 4)), count := numberOf (pageBytes p 16 2) }

theorem cartHeaderOf_valid {c : Fin 1024} (valid : HeaderValid c p) : cartHeaderOf c p = some (headerOf p) :=
  if_pos ((headerValid_iff c p).mp valid)

theorem cartHeaderOf_invalid {c : Fin 1024} (invalid : ¬ HeaderValid c p) : cartHeaderOf c p = none :=
  if_neg (mt (headerValid_iff c p).mpr invalid)

theorem nextUnit_eq (unit : Nat) :
    nextUnit unit = { read := if unit < 1023 then some { unit := unit + 1, page1 := false } else none, attempt := 1 } := by
  unfold nextUnit
  by_cases more : unit < 1023
  · rw [if_pos more]
    exact if_pos (Nat.add_lt_add_right more 1)
  · rw [if_neg more]
    exact if_neg fun less => more (Nat.lt_of_add_lt_add_right less)

end

/-! ### The reads of a bank (R151, R152) -/

section
variable (t : Scan) (b : Fin 4) (k : BankScan) (unit : Nat)

/-- The scan with a class for the unit and its bank gone on. -/
def Scan.marked (t : Scan) (b : Fin 4) (unit : Nat) (x : UnitClass) (k : BankScan) : Scan :=
  { t with classes := t.classes.setIfInBounds (b.val * 1024 + unit) (some x), banks := put t.banks b k }

theorem Scan.page0Read_classed {p : FlashPage} {x : UnitClass} (class' : classOf b unit p = some x) (plain : ∀ c, x ≠ .header c 0) :
    t.page0Read b k unit (some p) = t.marked b unit x (nextUnit unit) := by
  unfold page0Read
  rw [Option.bind_some, class']
  dsimp only
  split
  · next c => exact absurd rfl (plain c)
  · rfl

theorem Scan.page0Read_head {p : FlashPage} {c : Fin 1024} (class' : classOf b unit p = some (.header c 0)) :
    t.page0Read b k unit (some p) = t.marked b unit (.header c 0) { read := some { unit := unit, page1 := true }, attempt := 1 } := by
  unfold page0Read
  rw [Option.bind_some, class']
  rfl

theorem Scan.page0Read_failed {contents : Option FlashPage} (none : contents.bind (classOf b unit) = none) :
    t.page0Read b k unit contents = if k.attempt < 4 then t.setBank b { k with attempt := k.attempt + 1 }
      else t.marked b unit .damaged (nextUnit unit) := by
  unfold page0Read
  rw [none]
  rfl

theorem Scan.page1Read_failed {contents : Option FlashPage} (bad : ∀ p, contents = some p → isBlank p = false ∧ checkGood p 20 = false) :
    t.page1Read b k unit contents = if k.attempt < 4 then t.setBank b { k with attempt := k.attempt + 1 }
      else t.setBank b (nextUnit unit) := by
  unfold page1Read
  cases contents with
  | none => rfl
  | some p =>
    obtain ⟨solid, check⟩ := bad p rfl
    dsimp only
    rw [solid, if_neg Bool.false_ne_true, check, if_neg Bool.false_ne_true]
    rfl

theorem Scan.page1Read_blank {p : FlashPage} (blank : isBlank p = true) : t.page1Read b k unit (some p) = t.setBank b (nextUnit unit) :=
  if_pos blank

theorem Scan.page1Read_checked {p : FlashPage} {c : Fin 1024} {ordinal : Nat} (solid : isBlank p = false) (good : checkGood p 20 = true)
    (head : t.classes[b.val * 1024 + unit]? = some (some (.header c ordinal))) : t.page1Read b k unit (some p) =
      match cartHeaderOf c p with
      | some h => { t.setBank b (nextUnit unit) with headers := t.headers ++ [(b.val * 1024 + unit, h)] }
      | none => t.setBank b (nextUnit unit) := by
  have class' : t.classAt (unitNumber b unit) = some (.header c ordinal) := congrArg Option.join head
  unfold page1Read
  dsimp only
  rw [solid, if_neg Bool.false_ne_true, if_pos good, class']
  rfl

end

/-! ### The completion of a scan read -/

/-- What a scan read brings: another page, or the stored one. -/
theorem State.contents_brings {s : State} {outcome : ReadOutcome} {p : FlashPage} {n : Nat}
    (brings : outcome = .other p ∨ (outcome = .stored ∧ p = Flash.read s.flash n)) : s.contents n outcome = some p := by
  rcases brings with rfl | ⟨rfl, rfl⟩
  · rfl
  · rfl

section
variable {s : State} {b : Fin 4} {r : ScanRead} {attempt : Nat} (held : s.arbiter.port = some (.scanRead b))
  (bank : s.store.scan.banks.get b = { read := some r, attempt := attempt }) {outcome : ReadOutcome} {scan : Scan}
include held bank

theorem exec_scanRead (reads : (if r.page1 then s.store.scan.page1Read b { read := some r, attempt := attempt } r.unit (s.contents (r.storePage b) outcome)
      else s.store.scan.page0Read b { read := some r, attempt := attempt } r.unit (s.contents (r.storePage b) outcome)) = scan) :
    exec (.scanReadComplete outcome) s = .next (if scan.banks.toList.all (fun x => x.read.isNone)
      then ((s.freed b).setStore { s.store with scan := scan }).endScan else (s.freed b).setStore { s.store with scan := scan }) := by
  have bank' : (s.freePort.freeBank b).store.scan.banks.get b = { read := some r, attempt := attempt } := bank
  change execScanReadComplete outcome s = _
  unfold execScanReadComplete
  rw [held]
  dsimp only
  rw [bank]
  dsimp only
  unfold State.scanRead
  rw [bank', ← reads]
  rfl

/-- A scan read after which the scan goes on. -/
theorem exec_scanRead_goes (reads : (if r.page1 then s.store.scan.page1Read b { read := some r, attempt := attempt } r.unit (s.contents (r.storePage b) outcome)
      else s.store.scan.page0Read b { read := some r, attempt := attempt } r.unit (s.contents (r.storePage b) outcome)) = scan)
    (goes : ∃ m, (scan.banks.get m).read.isSome = true) :
    exec (.scanReadComplete outcome) s = .next ((s.freed b).setStore { s.store with scan := scan }) := by
  rw [exec_scanRead held bank reads]
  refine congrArg Host.Outcome.next (if_neg fun all => ?_)
  obtain ⟨m, some'⟩ := goes
  have none := List.all_eq_true.mp all _ ((mem_toList_iff_get scan.banks _).mpr ⟨m, rfl⟩)
  rw [Option.isNone_iff_eq_none] at none
  rw [none] at some'
  cases some'

end

theorem reading_put {banks : Vector BankScan 4} {b : Fin 4} {k : BankScan}
    (h : k.read.isSome = true ∨ ∃ m, m ≠ b ∧ (banks.get m).read.isSome = true) : ∃ m, ((put banks b k).get m).read.isSome = true := by
  rcases h with own | ⟨m, other, reads⟩
  · exact ⟨b, by rw [get_put_same]; exact own⟩
  · exact ⟨m, by rw [get_put_other _ _ _ _ other.symm]; exact reads⟩

/-- Settles O58: page 0 by its class, page 1 by its header, each with its four attempts. -/
theorem scanReads : Obligations.ScanReads := by
  unfold Obligations.ScanReads
  intro s b unit attempt page1 outcome p bank held reading more number freed scanned next again marked brings read
  have next_eq : nextUnit unit = next := nextUnit_eq unit
  have goes : next.read.isSome = true ∨ ∃ m, m ≠ b ∧ (s.store.scan.banks.get m).read.isSome = true := by
    rcases more with inner | ⟨_, other⟩
    · have asks : next.read = some { unit := unit + 1, page1 := false } := if_pos inner
      exact .inl (by rw [asks]; rfl)
    · exact .inr other
  have page : ({ unit := unit, page1 := page1 } : ScanRead).storePage b = number * 64 + if page1 then 1 else 0 := rfl
  refine ⟨fun first => ?_, fun second => ?_⟩
  · subst first
    have contents (brought : brings) : s.contents (number * 64 + 0) outcome = some p := State.contents_brings brought
    have done {scan : Scan} (reads : s.store.scan.page0Read b bank unit (s.contents (number * 64 + 0) outcome) = scan)
        (goes : ∃ m, (scan.banks.get m).read.isSome = true) :
        exec (.scanReadComplete outcome) s = .next ((s.freed b).setStore { s.store with scan := scan }) :=
      exec_scanRead_goes held reading reads goes
    have classed (brought : brings) {x : UnitClass} (class' : classOf b unit p = some x) (plain : ∀ c, x ≠ .header c 0) :
        exec read s = .next (marked x next) := by
      refine done (scan := s.store.scan.marked b unit x next) ?_ (reading_put goes)
      rw [contents brought, Scan.page0Read_classed _ _ _ _ class' plain, next_eq]
    refine ⟨fun bad => ?_, fun brought => ⟨fun blank => classed brought (classOf_blank blank) (by simp), fun void => ?_,
      fun solid void mark => classed brought (classOf_bad solid void mark) (by simp), fun solid void mark good => ?_⟩⟩
    · have none : (s.contents (number * 64 + 0) outcome).bind (classOf b unit) = none := by
        rcases bad with rfl | ⟨brought, solid, void, mark, check⟩
        · rfl
        · rw [contents brought, Option.bind_some, classOf_checked solid void mark, check]
          rfl
      have failed := s.store.scan.page0Read_failed b bank unit none
      refine ⟨fun few => ?_, fun many => ?_⟩
      · exact done (failed.trans (if_pos few)) (reading_put (.inl rfl))
      · rw [next_eq, if_neg (Nat.not_lt.mpr many)] at failed
        exact done failed (reading_put goes)
    · have solid : isBlank p = false := by
        rw [void]
        rfl
      exact classed brought (classOf_void solid void) (by simp)
    · have class' : classOf b unit p = some (headerClass b unit p) := by
        rw [classOf_checked solid void mark, if_pos good]
      refine ⟨fun none => ?_, fun c valid => ⟨fun later => ?_, fun head => ?_⟩⟩
      · rw [headerClass_damaged none] at class'
        exact classed brought class' (by simp)
      · rw [headerClass_valid valid] at class'
        refine classed brought class' fun c same => later ?_
        exact (UnitClass.header.inj same).2
      · have zero : numberOf (pageBytes p 2 2) = 0 := head
        rw [headerClass_valid valid, zero] at class'
        refine done (scan := s.store.scan.marked b unit (.header c 0) { read := some { unit := unit, page1 := true }, attempt := 1 }) ?_
          (reading_put (.inl rfl))
        rw [contents brought, Scan.page0Read_head _ _ _ _ class']
  · subst second
    have contents (brought : brings) : s.contents (number * 64 + 1) outcome = some p := State.contents_brings brought
    have done {scan : Scan} (reads : s.store.scan.page1Read b bank unit (s.contents (number * 64 + 1) outcome) = scan)
        (goes : ∃ m, (scan.banks.get m).read.isSome = true) :
        exec (.scanReadComplete outcome) s = .next ((s.freed b).setStore { s.store with scan := scan }) :=
      exec_scanRead_goes held reading reads goes
    refine ⟨fun bad => ?_, fun brought => ⟨fun blank => ?_, fun c ordinal solid good head => ?_⟩⟩
    · have none : ∀ q, s.contents (number * 64 + 1) outcome = some q → isBlank q = false ∧ checkGood q 20 = false := by
        rcases bad with rfl | ⟨brought, solid, check⟩
        · intro q brings
          cases brings
        · intro q brings
          cases (contents brought).symm.trans brings
          exact ⟨solid, check⟩
      have failed := s.store.scan.page1Read_failed b bank unit none
      refine ⟨fun few => ?_, fun many => ?_⟩
      · exact done (failed.trans (if_pos few)) (reading_put (.inl rfl))
      · rw [next_eq, if_neg (Nat.not_lt.mpr many)] at failed
        exact done failed (reading_put goes)
    · refine done (scan := s.store.scan.setBank b next) ?_ (reading_put goes)
      rw [contents brought, Scan.page1Read_blank _ _ _ _ blank, next_eq]
    · have checked := s.store.scan.page1Read_checked b bank unit solid good head
      rw [next_eq] at checked
      refine ⟨fun invalid => ?_, fun valid => ?_⟩
      · rw [cartHeaderOf_invalid invalid] at checked
        refine done (scan := s.store.scan.setBank b next) ?_ (reading_put goes)
        rw [contents brought, checked]
      · rw [cartHeaderOf_valid valid] at checked
        refine done (scan := { s.store.scan.setBank b next with headers := s.store.scan.headers ++ [(number, headerOf p)] }) ?_ (reading_put goes)
        rw [contents brought, checked]

end Sys2Proof.Machine

/-! The fill table and the fill choice (O41). -/

namespace Sys2Proof.Machine

/-! ### The range and its orders (R98, R102) -/

section
variable (t : FillTable)

theorem FillTable.range_length : t.range.length = (t.stop - t.start).val + 1 := by
  simp [range]

theorem FillTable.range_get {i : Nat} (inside : i ≤ (t.stop - t.start).val) : t.range[i]? = some (t.start + Fin.ofNat 16 i) := by
  unfold range
  rw [List.getElem?_map, List.getElem?_range (by omega)]
  rfl

/-- Slot i after the start slot, as a number. -/
theorem slot_after (start : Fin 16) {i : Nat} (small : i < 16) : (start + Fin.ofNat 16 i - start).val = i := by
  rw [add_sub_cancel_left]
  exact Nat.mod_eq_of_lt small

theorem FillTable.mem_range (x : Fin 16) : x ∈ t.range ↔ x - t.start ≤ t.stop - t.start := by
  unfold range
  rw [List.mem_map]
  constructor
  · rintro ⟨i, near, rfl⟩
    rw [List.mem_range] at near
    rw [Fin.le_def, slot_after _ (by omega)]
    omega
  · intro inside
    rw [Fin.le_def] at inside
    refine ⟨(x - t.start).val, List.mem_range.mpr (by omega), ?_⟩
    have self : Fin.ofNat 16 (x - t.start).val = x - t.start := Fin.ext (Nat.mod_eq_of_lt (x - t.start).isLt)
    rw [self, add_sub_cancel]

theorem FillTable.range_nodup : t.range.Nodup := by
  unfold range
  refine List.Nodup.map_on ?_ List.nodup_range
  intro i near j near' same
  rw [List.mem_range] at near near'
  have value : (t.start + Fin.ofNat 16 i - t.start).val = (t.start + Fin.ofNat 16 j - t.start).val := by rw [same]
  rwa [slot_after _ (by omega), slot_after _ (by omega)] at value

theorem FillTable.range_stop : t.range[(t.stop - t.start).val]? = some t.stop := by
  rw [t.range_get (Nat.le_refl _)]
  have self : Fin.ofNat 16 (t.stop - t.start).val = t.stop - t.start := Fin.ext (Nat.mod_eq_of_lt (t.stop - t.start).isLt)
  rw [self, add_sub_cancel]

/-- The slots before the last are followed by the slot one higher. -/
theorem FillTable.range_succ {i : Nat} {x y : Fin 16} (this : t.range[i]? = some x) (next : t.range[i + 1]? = some y) :
    x ≠ t.stop ∧ y = x + 1 := by
  obtain ⟨near, _⟩ := List.getElem?_eq_some_iff.mp next
  rw [t.range_length] at near
  have slot := t.range_get (i := i) (by omega)
  have after := t.range_get (i := i + 1) (by omega)
  cases slot.symm.trans this
  cases after.symm.trans next
  refine ⟨fun stop => ?_, ?_⟩
  · have value : (t.start + Fin.ofNat 16 i - t.start).val = (t.stop - t.start).val := by rw [stop]
    rw [slot_after _ (by omega)] at value
    omega
  · have step : Fin.ofNat 16 (i + 1) = Fin.ofNat 16 i + 1 := by
      refine Fin.ext ?_
      change (i + 1) % 16 = (i % 16 + 1) % 16
      omega
    rw [step, add_assoc]

/-- The place of a slot in the range: where it does not lie there, the length of the range. -/
def FillTable.placeOf (t : FillTable) (p : Fin 16) : Nat := t.range.findIdx (fun s => !(s != p))

theorem FillTable.placeOf_le (p : Fin 16) : t.placeOf p ≤ t.range.length := List.findIdx_le_length

theorem FillTable.range_placeOf {p : Fin 16} (inside : p - t.start ≤ t.stop - t.start) :
    t.placeOf p ≤ (t.stop - t.start).val ∧ t.range[t.placeOf p]? = some p := by
  have near : t.placeOf p < t.range.length := List.findIdx_lt_length_of_exists ⟨p, (t.mem_range p).mpr inside, by simp⟩
  have found : (!(t.range[t.placeOf p] != p)) = true := List.findIdx_getElem (w := near)
  have self : t.range[t.placeOf p] = p := by simpa using found
  refine ⟨?_, List.getElem?_eq_some_iff.mpr ⟨near, self⟩⟩
  rw [t.range_length] at near
  omega

theorem FillTable.passFrom_eq (p : Fin 16) : t.passFrom p = t.range.drop (t.placeOf p) :=
  List.dropWhile_eq_drop_findIdx_not

/-- R102: a full pass is the range begun at the cursor. -/
theorem FillTable.fullPass_eq : t.fullPass = t.range.rotate (t.placeOf t.cursor) := by
  rw [List.rotate_eq_drop_append_take (t.placeOf_le t.cursor)]
  unfold fullPass
  dsimp only
  rw [List.dropWhile_eq_drop_findIdx_not, List.takeWhile_eq_take_findIdx_not]
  rfl

theorem FillTable.mem_fullPass (x : Fin 16) : x ∈ t.fullPass ↔ x - t.start ≤ t.stop - t.start := by
  rw [t.fullPass_eq, List.mem_rotate, t.mem_range]

theorem FillTable.fullPass_get {i : Nat} {x : Fin 16} (this : t.fullPass[i]? = some x) :
    i ≤ (t.stop - t.start).val ∧ t.range[(i + t.placeOf t.cursor) % ((t.stop - t.start).val + 1)]? = some x := by
  rw [t.fullPass_eq] at this
  obtain ⟨near, _⟩ := List.getElem?_eq_some_iff.mp this
  rw [List.length_rotate, t.range_length] at near
  rw [List.getElem?_rotate (by rw [t.range_length]; exact near), t.range_length] at this
  exact ⟨by omega, this⟩

theorem mod_succ_cases (i n : Nat) : (i % (n + 1) = n ∧ (i + 1) % (n + 1) = 0) ∨ (i + 1) % (n + 1) = i % (n + 1) + 1 := by
  have small : i % (n + 1) < n + 1 := Nat.mod_lt i (Nat.succ_pos n)
  rw [Nat.add_mod_eq_sub]
  by_cases one : n = 0
  · subst one
    left
    omega
  · rw [Nat.mod_eq_of_lt (a := 1) (by omega)]
    split <;> omega

/-- R98: each slot of a full pass is followed by the slot after it in the range, the last by the first. -/
theorem FillTable.fullPass_succ {i : Nat} {x y : Fin 16} (this : t.fullPass[i]? = some x) (next : t.fullPass[i + 1]? = some y) :
    y = if x = t.stop then t.start else x + 1 := by
  obtain ⟨_, this⟩ := t.fullPass_get this
  obtain ⟨_, next⟩ := t.fullPass_get next
  rw [Nat.add_right_comm] at next
  rcases mod_succ_cases (i + t.placeOf t.cursor) (t.stop - t.start).val with ⟨last, first⟩ | step
  · rw [last, t.range_stop] at this
    rw [first, t.range_get (Nat.zero_le _)] at next
    cases this
    cases next
    rw [if_pos rfl]
    exact add_zero t.start
  · rw [step] at next
    obtain ⟨inner, follows⟩ := t.range_succ this next
    rw [if_neg inner, follows]

theorem FillTable.fullPass_head (inside : t.cursor - t.start ≤ t.stop - t.start) : t.fullPass.head? = some t.cursor := by
  obtain ⟨near, self⟩ := t.range_placeOf inside
  rw [t.fullPass_eq, List.head?_rotate (by rw [t.range_length]; omega), self]

end

/-! ### A fill choice (R101, R102) -/

/-- R101: the slot holds a cart whose hold claim would be granted. -/
def SlotGranted (e : Env) (d : Desk) (s : Fin 16) : Prop :=
  d.ch.fill.slots.get s ≠ 0 ∧ (e.catalog.get (d.ch.fill.slots.get s)).state = .ready ∧ d.holds.get (d.ch.fill.slots.get s) < 255

namespace Desk

theorem slotGranted_iff (e : Env) (d : Desk) (s : Fin 16) : d.slotGranted e s = true ↔ SlotGranted e d s := by
  simp only [slotGranted, SlotGranted, grantable, Bool.and_eq_true, decide_eq_true_eq]

section
variable {d : Desk} {e : Env} {mode : StartMode} {id : DeckId}

theorem idleDeck_a (a : d.ch.deckA.state = .idle) : d.idleDeck = some .a := if_pos a

theorem idleDeck_of (free : if d.ch.deckA.state = .idle then id = .a else d.ch.deckB.state = .idle ∧ id = .b) : d.idleDeck = some id := by
  unfold idleDeck
  split
  · next a =>
    rw [if_pos a] at free
    rw [free]
  · next a =>
    rw [if_neg a] at free
    rw [if_pos free.1, free.2]

theorem scanSlots_plain (split : d.ch.split = none) (plan : d.ch.plan = none) : d.scanSlots = some d.ch.fill.fullPass := by
  unfold scanSlots planPrimed
  rw [split, plan]
  dsimp only
  rw [Bool.and_false]
  rfl

theorem scanSlots_rotate (split : d.ch.split.isSome = true) (mode : d.ch.settings.fillMode ≠ .onePass) :
    d.scanSlots = some d.ch.fill.fullPass := by
  obtain ⟨x, had⟩ := Option.isSome_iff_exists.mp split
  unfold scanSlots
  rw [had]
  dsimp only
  rw [decide_eq_false mode]
  rfl

theorem scanSlots_onePass {x : Split} (split : d.ch.split = some x) (mode : d.ch.settings.fillMode = .onePass) :
    d.scanSlots = if x.exhausted then none else some (d.ch.fill.passFrom x.pass) := by
  unfold scanSlots
  rw [split]
  dsimp only
  rw [decide_eq_true mode]
  rfl

theorem chooseFill_exhausted (slots : d.scanSlots = none) : d.chooseFill e mode = d := by
  unfold chooseFill
  rw [slots]
  split
  · next some' => cases some'
  · rfl

variable (idle : d.idleDeck = some id) (none : d.candidateDeck = none) {scan : List (Fin 16)} (slots : d.scanSlots = some scan)
include idle none slots

theorem chooseFill_eq : d.chooseFill e mode = match scan.find? (d.slotGranted e) with
    | some s => ((d.takeHold (d.ch.fill.slots.get s)).markChosen s).load e id (.fill s) (d.ch.fill.slots.get s) mode
    | Option.none => { d with ch := { d.ch with fill := { d.ch.fill with wait := true } } } := by
  unfold chooseFill
  rw [idle, none, slots] <;> rfl

theorem chooseFill_waits (refused : ∀ s ∈ scan, ¬ SlotGranted e d s) :
    d.chooseFill e mode = { d with ch := { d.ch with fill := { d.ch.fill with wait := true } } } := by
  have find : scan.find? (d.slotGranted e) = Option.none :=
    List.find?_eq_none.mpr fun s mem => mt (d.slotGranted_iff e s).mp (refused s mem)
  rw [chooseFill_eq idle none slots, find]

theorem chooseFill_first {before rest : List (Fin 16)} {s : Fin 16} (order : scan = before ++ s :: rest)
    (refused : ∀ x ∈ before, ¬ SlotGranted e d x) (granted : SlotGranted e d s) : d.chooseFill e mode =
      ((d.takeHold (d.ch.fill.slots.get s)).markChosen s).load e id (.fill s) (d.ch.fill.slots.get s) mode := by
  have find : scan.find? (d.slotGranted e) = some s := by
    rw [order, List.find?_append,
      List.find?_eq_none.mpr fun x mem => mt (d.slotGranted_iff e x).mp (refused x mem),
      List.find?_cons_of_pos ((d.slotGranted_iff e s).mpr granted)]
    rfl
  rw [chooseFill_eq idle none slots, find]

end

/-- R177: a fill item loaded, in the deck's fields. -/
theorem loaded_eq (k : Deck) {entry : CatalogEntry} {r : Run} {z : CartLength} (run : entry.run = some r) (size : entry.size = some z)
    (item : DeckItem) (cart : Fin 1024) (order : Nat) (mode : StartMode) : k.loaded entry item cart order mode = { Deck.reset with
      state := .priming, item := some item, cart := cart, load := k.load + 1, read := k.read, allowanceUsed := k.allowanceUsed
      source := some { bank := r.bank, firstUnit := r.first, length := z.length, segueOut := z.segueOut }
      due := z.length, order := order, mode := mode } := by
  unfold Deck.loaded
  rw [run, size]
  rfl

/-! ### A candidate given up (R105) -/

theorem giveUp_fill (d : Desk) {id : DeckId} {slot : Fin 16} (item : (d.deck id).item = some (.fill slot)) :
    d.giveUp id = if (d.deck id).rangeMark then (d.releaseHold (d.deck id).cart).setDeck id (d.deck id).idled
      else { (d.releaseHold (d.deck id).cart).setDeck id (d.deck id).idled with
        ch := { ((d.releaseHold (d.deck id).cart).setDeck id (d.deck id).idled).ch with
          fill := { d.ch.fill with cursor := slot }
          split := if d.ch.settings.fillMode = .onePass then d.ch.split.map (Split.passAt slot) else d.ch.split } } := by
  unfold giveUp
  dsimp only
  rw [fillItem_of item]
  cases id <;> rfl

/-! ### The choice that a plan without items calls for (R81, R103) -/

/-- After a choice for an IDLE deck either the choice waits, or a candidate is loaded. -/
theorem chooseFill_candidateDeck {d : Desk} {e : Env} {mode : StartMode} (idle : d.idleDeck = some .a) (none : d.candidateDeck = none)
    {scan : List (Fin 16)} (slots : d.scanSlots = some scan) :
    (d.chooseFill e mode).ch.plan = d.ch.plan ∧ (d.chooseFill e mode).ch.held = d.ch.held ∧
      ((d.chooseFill e mode).candidateDeck.isSome = true ↔ (d.chooseFill e mode).ch.fill.wait ≠ true) := by
  rw [chooseFill_eq idle none slots]
  cases scan.find? (d.slotGranted e) with
  | none =>
    have still : ({ d with ch := { d.ch with fill := { d.ch.fill with wait := true } } } : Desk).candidateDeck = Option.none := none
    refine ⟨rfl, rfl, ?_⟩
    dsimp only
    rw [still]
    simp
  | some s =>
    have loaded : (((d.takeHold (d.ch.fill.slots.get s)).markChosen s).load e .a (.fill s) (d.ch.fill.slots.get s) mode).candidateDeck =
        some .a := rfl
    refine ⟨rfl, rfl, ?_⟩
    dsimp only
    rw [loaded]
    simp [load, setDeck, markChosen, Channel.setDeck]

/-- R81: a plan with no included item. -/
theorem emptyPlan_of {d : Desk} {p : Plan} (plan : d.ch.plan = some p) (items : ∀ x ∈ p.items, x.inclusion ≠ .included) :
    d.emptyPlan = true := by
  unfold emptyPlan Plan.noneIncluded
  rw [plan]
  exact List.all_eq_true.mpr fun x mem => decide_eq_true (items x mem)

/-- R81, R103: the priming of a plan with no included item makes the one choice that it calls for. -/
theorem planPrimes_chooses {d : Desk} {e : Env} {p : Plan} (plan : d.ch.plan = some p) (unprimed : p.primed = false)
    (items : ∀ x ∈ p.items, x.inclusion ≠ .included) (long : d.ch.settings.pad < p.length.toNat)
    (due : atOrAfter e.pos (p.start - 8) = true) (a : d.ch.deckA.state = .idle)
    (b : d.ch.deckB.candidate = false) :
    d.planPrimes e = (({ d with ch := { d.ch with
      plan := some { p with primed := true, wantFill := true }, fill := { d.ch.fill with wait := false } } } : Desk).chooseCalled e) := by
  have empty : p.noneIncluded = true := List.all_eq_true.mpr fun x mem => decide_eq_true (items x mem)
  have want : (p.noneIncluded && decide (p.length.toNat > d.ch.settings.pad)) = true := by
    rw [empty, decide_eq_true long]
    rfl
  unfold planPrimes
  rw [plan]
  dsimp only
  rw [if_pos (by rw [unprimed]; exact due)]
  unfold primePlan
  rw [want]
  dsimp only
  rw [if_pos rfl, giveUpCandidate_none]
  · unfold servicePlan
    rw [if_pos (emptyPlan_of (p := { p with primed := true, wantFill := true }) rfl items)]
    rfl
  · exact not_candidate (idle_not_waiting a)
  · exact b

end Desk

/-- Settles O41: the orders of the slots, the choice by the first slot granted, and the one choice of a plan without items. -/
theorem fillChoice : Obligations.FillChoice := by
  unfold Obligations.FillChoice
  refine ⟨fun t p => ⟨t.mem_fullPass, ?_, fun i x y => t.fullPass_succ, t.fullPass_head, fun inside => ?_⟩,
    fun e d mode id scan => ?_, fun d id slot => ?_, fun e d => ?_⟩
  · rw [t.fullPass_eq, List.nodup_rotate]
    exact t.range_nodup
  · obtain ⟨near, self⟩ := t.range_placeOf inside
    rw [t.passFrom_eq]
    refine ⟨?_, ?_, fun i x y this next => ?_⟩
    · rw [List.head?_drop, self]
    · have last : t.range.getLast? = some t.stop := by
        rw [List.getLast?_eq_getElem?, t.range_length]
        exact t.range_stop
      rw [List.getLast?_drop, if_neg (by rw [t.range_length]; omega), last]
    · rw [List.getElem?_drop] at this next
      exact t.range_succ this next
  · intro c onePass granted marked free a b
    have idle := Desk.idleDeck_of free
    have none : d.candidateDeck = none := d.candidateDeck_none a b
    refine ⟨fun x split mode' done => ?_, fun order => ?_⟩
    · refine Desk.chooseFill_exhausted ?_
      rw [Desk.scanSlots_onePass split mode', if_pos done]
    · have slots : d.scanSlots = some scan := by
        rcases order with ⟨split, plan, rfl⟩ | ⟨split, rotate, rfl⟩ | ⟨x, split, mode', open', rfl⟩
        · exact Desk.scanSlots_plain split plan
        · exact Desk.scanSlots_rotate split rotate
        · rw [Desk.scanSlots_onePass split mode', if_neg (by rw [open']; exact Bool.false_ne_true)]
      refine ⟨Desk.chooseFill_waits idle none slots, fun before s rest order refused granted => ?_⟩
      intro k r z run size
      rw [Desk.chooseFill_first idle none slots order refused granted]
      unfold Desk.load
      rw [Desk.loaded_eq _ run size]
      cases id <;> rfl
  · intro k idle freed item
    rw [d.giveUp_fill item]
    refine ⟨fun changed => ?_, fun kept => ?_⟩
    · rw [if_pos changed]
      rfl
    · rw [if_neg (by rw [show (d.deck id).rangeMark = false from kept]; exact Bool.false_ne_true)]
      cases id <;> rfl
  · intro c
    refine ⟨fun p plan unprimed items long due split a b => ?_, fun state => ⟨fun p plan primed settled items => ?_, fun h plan held stage => ?_⟩⟩
    · intro called
      rw [Desk.planPrimes_chooses plan unprimed items long due a b]
      let primed : Desk := { d with ch := { d.ch with
        plan := some { p with primed := true, wantFill := true }, fill := { d.ch.fill with wait := false } } }
      have none : primed.candidateDeck = none := primed.candidateDeck_none (Desk.not_candidate (Desk.idle_not_waiting a)) b
      have slots : ∃ scan, primed.scanSlots = some scan := by
        unfold Desk.scanSlots
        rw [show primed.ch.split = Option.none from split]
        dsimp only
        split
        · exact ⟨_, rfl⟩
        · exact ⟨_, rfl⟩
      obtain ⟨scan, slots⟩ := slots
      obtain ⟨plan', held', answered⟩ := Desk.chooseFill_candidateDeck (e := e) (mode := .named) (Desk.idleDeck_a (d := primed) a) none slots
      unfold Desk.chooseCalled
      rw [if_neg Bool.false_ne_true]
      dsimp only
      by_cases waits : called.ch.fill.wait = true
      · rw [if_pos waits, if_neg (mt answered.mp (not_not_intro waits))]
      · rw [if_neg waits, if_pos (answered.mpr waits)]
        unfold Desk.noFillCalled
        rw [plan', held']
        rfl
    · have serves : d.service e = d.servicePlan e p := by
        unfold Desk.service Desk.serviceAs
        rcases state with state | state
        all_goals
          rw [state, plan]
          exact if_pos primed
      rw [serves]
      unfold Desk.servicePlan
      rw [if_pos (Desk.emptyPlan_of plan items), settled]
      rfl
    · unfold Desk.service Desk.serviceAs
      rcases state with state | state
      all_goals
        rw [state, plan, held]
        dsimp only
        unfold Desk.serviceHeld
        rw [stage]

end Sys2Proof.Machine

/-! Channel requests: mode and timer (O36), settings (O37), and the fill requests (O40). -/

namespace Sys2Proof.Machine

/-! ### CHANNEL_MODE and TIMER_SET (R46, R47, R56) -/

/-- The channel in a state, with no fill choice waiting (R104). -/
def Channel.enters (c : Channel) (x : ChannelState) : Channel := { c with state := x, fill := { c.fill with wait := false } }

theorem State.onChannel_quiet {s : State} {n : Fin 4} {rule : Env → Desk → Desk} {c : Channel}
    (h : rule (s.env n) (s.desk n) = { s.desk n with ch := c }) : s.onChannel n rule = s.withChannel n c := by
  unfold onChannel
  rw [h]
  exact s.putDesk_channel n rfl rfl

theorem State.mayBypass_iff (s : State) (n : Fin 4) : (s.desk n).mayBypass = true ↔
    (s.channels.get n).state = .pass ∧ (s.channels.get n).free ∧ (s.channels.get n).deckA.sounding = false ∧
      (s.channels.get n).deckB.sounding = false := by
  change (decide ((s.channels.get n).state = .pass) && !((s.channels.get n).plan.isSome || (s.channels.get n).held.isSome) &&
    !((s.channels.get n).deckA.sounding || (s.channels.get n).deckB.sounding)) = true ↔ _
  simp only [Channel.free, Bool.and_eq_true, decide_eq_true_eq, Bool.not_eq_true', Bool.or_eq_false_iff, Option.isSome_eq_false_iff,
    Option.isNone_iff_eq_none, and_assoc]

section
variable {s : State} {a : Address} (reached : s.reached a) (tag : BitVec 16)
include reached

theorem exec_modeInService (channel mode : Byte) : exec (.channelModeInService a tag channel mode) s =
    .next ((field 4 channel.toNat).elim (s.answer tag 0x0008 .badField) fun n =>
      if mode = 0 then s.inService tag n else if mode = 1 then s.toBypass tag n else s.answer tag 0x0008 .badField) := by
  refine congrArg Host.Outcome.next ((s.atPart_reached a _ reached).trans ?_)
  cases field 4 channel.toNat <;> rfl

theorem exec_modeBypass (channel : Byte) : exec (.channelModeBypass a tag channel) s =
    .next ((field 4 channel.toNat).elim (s.answer tag 0x0008 .badField) (s.toBypass tag)) := by
  refine congrArg Host.Outcome.next ((s.atPart_reached a _ reached).trans ?_)
  cases field 4 channel.toNat <;> rfl

theorem exec_timerSet (channel mode : Byte) (target : FrameNo) (period : BitVec 32) : exec (.timerSet a tag channel mode target period) s =
    .next ((field 4 channel.toNat).elim (s.answer tag 0x000B .badField) fun n =>
      (switch mode).elim (s.answer tag 0x000B .badField) fun on =>
        if on then
          if period.toNat ≤ 21600000 then
            if isAfter target s.time.pos then (s.setTimer n (some { target := target, period := period.toNat })).answer tag 0x000B .done
            else s.answer tag 0x000B .range
          else s.answer tag 0x000B .badField
        else (s.setTimer n none).answer tag 0x000B .done) := by
  refine congrArg Host.Outcome.next ((s.atPart_reached a _ reached).trans ?_)
  cases field 4 channel.toNat with
  | none => rfl
  | some n =>
    cases switch mode with
    | none => rfl
    | some on => cases on <;> rfl

end

/-- A request whose byte is neither of the two that a switch codes. -/
theorem byte_uncoded {b : Byte} (h : 2 ≤ b.toNat) : b ≠ 0 ∧ b ≠ 1 := by
  constructor
  · rintro rfl
    exact absurd h (by decide)
  · rintro rfl
    exact absurd h (by decide)

/-- Settles O36: the mode by the channel's state, and the timer by its mode and target. -/
theorem channelModeAndTimer : Obligations.ChannelModeAndTimer := by
  unfold Obligations.ChannelModeAndTimer
  refine ⟨fun s a tag channel mode reached => ⟨fun bad => ?_, fun outside => ?_, ?_, fun n hn => ?_⟩, ?_⟩
  · rw [exec_modeInService reached]
    rcases bad with outside | uncoded
    · rw [field_outside (Nat.not_lt.mpr outside)]
      rfl
    · obtain ⟨zero, one⟩ := byte_uncoded uncoded
      cases field 4 channel.toNat with
      | none => rfl
      | some n => rw [Option.elim_some, if_neg zero, if_neg one]
  · rw [exec_modeBypass reached, field_outside (Nat.not_lt.mpr outside)]
    rfl
  · rw [exec_modeBypass reached, exec_modeInService reached]
    rfl
  · intro c moved may
    rw [exec_modeBypass reached, exec_modeInService reached, field_eq_some n hn, Option.elim_some, Option.elim_some, if_pos rfl]
    unfold State.inService State.toBypass
    refine ⟨fun scanning => ?_, fun scanned busy => ?_, fun scanned bypass free => ?_, fun may => ?_, fun not => ?_⟩
    · rw [if_neg (by simp [scanning])]
    · rw [if_pos scanned, if_neg busy]
    · rw [if_pos scanned, if_pos bypass, State.onChannel_quiet (c := c.enters .pass)]
      · rfl
      · exact Desk.serviceAs_pass (s.env n) ((s.desk n).setState .pass) false rfl free
    · rw [if_pos ((s.mayBypass_iff n).mpr may), State.onChannel_quiet (c := c.enters .bypass)]
      · rfl
      · rfl
    · rw [if_neg (mt (s.mayBypass_iff n).mp not)]
  · intro s a tag channel mode target period reached request
    have judged : exec request s = _ := exec_timerSet reached tag channel mode target period
    rw [judged]
    refine ⟨fun bad => ?_, fun n hn => ?_⟩
    · by_cases inside : channel.toNat < 4
      · rw [field_inside inside, Option.elim_some]
        by_cases coded : mode.toNat < 2
        · obtain ⟨rfl, far⟩ : mode = 1 ∧ 21600000 < period.toNat := by
            rcases bad with outside | uncoded | far
            · exact absurd inside (by omega)
            · exact absurd coded (by omega)
            · exact far
          rw [switch_coded coded, Option.elim_some, if_pos (by decide), if_neg (by omega)]
        · rw [switch_uncoded (by omega), Option.elim_none]
      · rw [field_outside inside, Option.elim_none]
    · rw [field_eq_some n hn, Option.elim_some]
      refine ⟨fun off => ?_, fun on near => ?_⟩
      · subst off
        rfl
      · subst on
        rw [switch_coded (by decide), Option.elim_some, if_pos (by decide), if_pos near]
        refine ⟨fun later => ?_, fun past => ?_⟩
        · exact congrArg Host.Outcome.next (if_pos later)
        · exact congrArg Host.Outcome.next (if_neg (by rw [Bool.not_eq_true]; exact past))

/-! ### CHANNEL_SET (R48, R49) -/

theorem sourceOf_coded {b : Byte} (h : b.toNat < 4) :
    sourceOf b = some (if b = 0 then .cue else if b = 1 then .line else if b = 2 then .timer else .command) := by
  obtain rfl | rfl | rfl | rfl : b = 0 ∨ b = 1 ∨ b = 2 ∨ b = 3 := by bv_omega
  · rfl
  · rfl
  · rfl
  · rfl

theorem sourceOf_uncoded {b : Byte} (h : 4 ≤ b.toNat) : sourceOf b = none := by
  have h0 : b ≠ 0 := by rintro rfl; exact absurd h (by decide)
  have h1 : b ≠ 1 := by rintro rfl; exact absurd h (by decide)
  have h2 : b ≠ 2 := by rintro rfl; exact absurd h (by decide)
  have h3 : b ≠ 3 := by rintro rfl; exact absurd h (by decide)
  rw [sourceOf, if_neg h0, if_neg h1, if_neg h2, if_neg h3]

theorem policyOf_coded {b : Byte} (h : b.toNat < 2) : policyOf b = some (if b = 0 then .passNetwork else .fill) := by
  obtain rfl | rfl : b = 0 ∨ b = 1 := by bv_omega
  · rfl
  · rfl

theorem policyOf_uncoded {b : Byte} (h : 2 ≤ b.toNat) : policyOf b = none := by
  obtain ⟨zero, one⟩ := byte_uncoded h
  rw [policyOf, if_neg zero, if_neg one]

theorem fillModeOf_coded {b : Byte} (h : b.toNat < 2) : fillModeOf b = some (if b = 0 then .onePass else .rotate) := by
  obtain rfl | rfl : b = 0 ∨ b = 1 := by bv_omega
  · rfl
  · rfl

theorem fillModeOf_uncoded {b : Byte} (h : 2 ≤ b.toNat) : fillModeOf b = none := by
  obtain ⟨zero, one⟩ := byte_uncoded h
  rw [fillModeOf, if_neg zero, if_neg one]

/-- The settings that a good CHANNEL_SET carries. -/
def carriedSettings (source policy fade pad : Byte) (guard : BitVec 32) (fallback mode : Byte) : Settings :=
  { source := if source = 0 then .cue else if source = 1 then .line else if source = 2 then .timer else .command
    policy := if policy = 0 then .passNetwork else .fill, fade := fade.toNat, pad := pad.toNat, guard := guard.toNat
    silenceFallback := decide (fallback = 1), fillMode := if mode = 0 then .onePass else .rotate }

/-- R48: the fields beside the channel that CHANNEL_SET may not carry. -/
def BadSettings (source policy fade pad : Byte) (guard : BitVec 32) (fallback mode : Byte) : Prop :=
  4 ≤ source.toNat ∨ 2 ≤ policy.toNat ∨ fade.toNat < 4 ∨ 64 < fade.toNat ∨ 250 < pad.toNat ∨
    (guard ≠ 0 ∧ (guard.toNat < 250 ∨ 75000 < guard.toNat)) ∨ 2 ≤ fallback.toNat ∨ 2 ≤ mode.toNat

section
variable {source policy fade pad fallback mode : Byte} {guard : BitVec 32}

theorem settingsOf_coded (so : source.toNat < 4) (po : policy.toNat < 2) (fa : fallback.toNat < 2) (mo : mode.toNat < 2) :
    settingsOf source policy fade pad guard fallback mode =
      if (4 ≤ fade.toNat ∧ fade.toNat ≤ 64) ∧ pad.toNat ≤ 250 ∧ (guard.toNat = 0 ∨ (250 ≤ guard.toNat ∧ guard.toNat ≤ 75000)) then
        some (carriedSettings source policy fade pad guard fallback mode) else none := by
  unfold settingsOf
  rw [sourceOf_coded so, policyOf_coded po, switch_coded fa, fillModeOf_coded mo]
  refine if_congr ?_ rfl rfl
  simp only [Bool.and_eq_true, Bool.or_eq_true, decide_eq_true_eq, inRange_iff, Nat.zero_le, true_and, and_assoc]

theorem settingsOf_good (good : ¬ BadSettings source policy fade pad guard fallback mode) :
    settingsOf source policy fade pad guard fallback mode = some (carriedSettings source policy fade pad guard fallback mode) := by
  have zero : guard = 0 ↔ guard.toNat = 0 := by rw [← BitVec.toNat_inj]; rfl
  rw [BadSettings, ne_eq, zero] at good
  rw [settingsOf_coded (by omega) (by omega) (by omega) (by omega), if_pos (by omega)]

theorem settingsOf_bad (bad : BadSettings source policy fade pad guard fallback mode) :
    settingsOf source policy fade pad guard fallback mode = none := by
  by_cases so : source.toNat < 4
  · by_cases po : policy.toNat < 2
    · by_cases fa : fallback.toNat < 2
      · by_cases mo : mode.toNat < 2
        · have zero : guard = 0 ↔ guard.toNat = 0 := by rw [← BitVec.toNat_inj]; rfl
          rw [BadSettings, ne_eq, zero] at bad
          rw [settingsOf_coded so po fa mo, if_neg (by omega)]
        · unfold settingsOf
          rw [fillModeOf_uncoded (by omega)]
          split <;> simp_all
      · unfold settingsOf
        rw [switch_uncoded (by omega)]
        split <;> simp_all
    · unfold settingsOf
      rw [policyOf_uncoded (by omega)]
      split <;> simp_all
  · unfold settingsOf
    rw [sourceOf_uncoded (by omega)]

end

/-- R49: the split with its fade start computed anew from F. -/
def Split.refaded (f : FrameNo) (y : Split) : Split :=
  if y.phase = .closing then y else { y with fadeStart := match y.rejoin with
    | some r => r - f
    | none => if isBefore (y.stop - f) y.start then y.start else y.stop - f }

/-- R49: the break with its guard point computed anew from the guard. -/
def BreakCtx.guarded (g : Nat) (y : BreakCtx) : BreakCtx :=
  if y.closing = .none then { y with guardPoint := if g = 0 then none else y.start.map (· + BitVec.ofNat 32 g) } else y

theorem Desk.changeSettings_eq (d : Desk) (x : Settings) : d.changeSettings x = { d with ch := { d.ch with
    settings := x, split := d.ch.split.map (Split.refaded (BitVec.ofNat 32 x.fade)), brk := d.ch.brk.map (BreakCtx.guarded x.guard) } } := by
  have refades : ({ d with ch := { d.ch with settings := x } } : Desk).refade = { d with ch := { d.ch with
      settings := x, split := d.ch.split.map (Split.refaded (BitVec.ofNat 32 x.fade)) } } := by
    unfold refade
    dsimp only
    split
    · next y had =>
      rw [had, Option.map_some]
      unfold Split.refaded
      split
      · rfl
      · cases rejoin : y.rejoin <;> rfl
    · next had =>
      rw [had]
      rfl
  unfold changeSettings
  rw [refades]
  rfl

theorem exec_channelSet {s : State} {a : Address} (reached : s.reached a) (tag : BitVec 16)
    (channel source policy fade pad : Byte) (guard : BitVec 32) (fallback mode : Byte) :
    exec (.channelSet a tag channel source policy fade pad guard fallback mode) s =
      .next ((field 4 channel.toNat).elim (s.answer tag 0x0009 .badField) fun n =>
        (settingsOf source policy fade pad guard fallback mode).elim (s.answer tag 0x0009 .badField) fun x =>
          if x.source ≠ (s.channels.get n).settings.source ∧ (s.channels.get n).state ≠ .bypass then s.answer tag 0x0009 .state
          else (s.onChannel n (fun _ d => d.changeSettings x)).answer tag 0x0009 .done) := by
  refine congrArg Host.Outcome.next ((s.atPart_reached a _ reached).trans ?_)
  cases field 4 channel.toNat with
  | none => rfl
  | some n => cases settingsOf source policy fade pad guard fallback mode <;> rfl

/-- Settles O37: refused by a field or by a new source in service, else all seven settings take effect. -/
theorem channelSetRequest : Obligations.ChannelSetRequest := by
  unfold Obligations.ChannelSetRequest
  intro s a tag channel source policy fade pad guard fallback mode reached request bad x
  have judged : exec request s = _ := exec_channelSet reached tag channel source policy fade pad guard fallback mode
  rw [judged]
  refine ⟨fun bad => ?_, fun good n hn => ?_⟩
  · by_cases inside : channel.toNat < 4
    · rw [field_inside inside, Option.elim_some, settingsOf_bad (bad.resolve_left (by omega)), Option.elim_none]
    · rw [field_outside inside, Option.elim_none]
  · intro c
    have carried : settingsOf source policy fade pad guard fallback mode = some x := settingsOf_good (not_or.mp good).2
    rw [field_eq_some n hn, Option.elim_some, carried, Option.elim_some]
    refine ⟨fun other serves => ?_, fun allowed => ?_⟩
    · rw [if_pos ⟨other, serves⟩]
    · intro f refaded guarded
      have refaded_eq : refaded = Split.refaded (BitVec.ofNat 32 x.fade) := rfl
      have guarded_eq : guarded = BreakCtx.guarded x.guard := by
        funext y
        have number : BitVec.ofNat 32 x.guard = guard := (BitVec.ofNat_toNat 32 guard).trans (BitVec.setWidth_eq guard)
        have zero : (guard = 0) = (x.guard = 0) := by
          rw [← BitVec.toNat_inj]
          rfl
        unfold BreakCtx.guarded
        rw [number]
        simp only [← zero]
        rfl
      rw [if_neg fun ⟨other, serves⟩ => allowed.elim other serves,
        State.onChannel_quiet (s := s) (n := n) (rule := fun _ d => d.changeSettings x) (Desk.changeSettings_eq (s.desk n) x),
        refaded_eq, guarded_eq]
      rfl

end Sys2Proof.Machine

/-! The fill requests (O40). -/

namespace Sys2Proof.Machine

namespace Desk

section
variable {d : Desk} {e : Env} {mode : StartMode} {id : DeckId} (idle : d.idleDeck = some id) (none : d.candidateDeck = none)
  {scan : List (Fin 16)} (slots : d.scanSlots = some scan)
include idle none slots

/-- A choice where one slot alone of those scanned is granted. -/
theorem chooseFill_only {s : Fin 16} (mem : s ∈ scan) (granted : SlotGranted e d s) (others : ∀ x, x ≠ s → ¬ SlotGranted e d x) :
    d.chooseFill e mode = ((d.takeHold (d.ch.fill.slots.get s)).markChosen s).load e id (.fill s) (d.ch.fill.slots.get s) mode := by
  have find : scan.find? (d.slotGranted e) = some s := by
    cases found : scan.find? (d.slotGranted e) with
    | none => exact absurd ((d.slotGranted_iff e s).mpr granted) (List.find?_eq_none.mp found s mem)
    | some x =>
      have given := (d.slotGranted_iff e x).mp (List.find?_some found)
      by_contra other
      exact others x (fun same => other (congrArg some same)) given
  rw [chooseFill_eq idle none slots, find]

end

/-- R104 in FALLBACK: a choice that waits is made anew, and opens. -/
theorem retryFill_fallback {d : Desk} (e : Env) (waits : d.ch.fill.wait = true) (state : d.ch.state = .fallback) (free : d.ch.free) :
    d.retryFill e = d.noFillWait.chooseFill e .whenReady := by
  unfold retryFill
  rw [if_pos waits]
  exact serviceAs_fallback e d.noFillWait true state free

theorem service_candidate {d : Desk} (e : Env) {id : DeckId} (state : d.ch.state = .fallback) (free : d.ch.free)
    (candidate : d.candidateDeck = some id) : d.service e = d := by
  refine (serviceAs_fallback e d false state free).trans ?_
  rw [d.chooseFill_candidate e _ candidate, ite_self]

/-! ### A range set (R100) -/

theorem markRange_state (k : Deck) : (markRange k).state = k.state := by
  unfold markRange
  split <;> rfl

theorem markRange_item (k : Deck) : (markRange k).item = k.item := by
  unfold markRange
  split <;> rfl

/-- A field that the mark leaves is kept. -/
theorem markRange_kept {α : Type} (k : Deck) (f : Deck → α) (same : ∀ k, f { k with rangeMark := true } = f k) : f (markRange k) = f k := by
  unfold markRange
  split
  · exact same k
  · rfl

theorem markRange_ringItem (k : Deck) : (markRange k).ringItem = k.ringItem := by
  unfold markRange
  split <;> rfl

theorem markRange_fillItem (k : Deck) : (markRange k).fillItem = k.fillItem := by
  unfold markRange
  split <;> rfl

theorem noFill_not_candidate {k : Deck} (fill : k.fillItem = none) : k.candidate = false := by
  unfold Deck.candidate
  rw [fill]
  exact Bool.and_false _

theorem markRange_none {k : Deck} (item : k.item = none) : markRange k = k :=
  if_neg (by rw [fillItem_none item]; decide)

/-- The range set and the loaded fill items marked, before a choice is retried; the split is another matter. -/
def ranged (i j : Fin 16) (split : Option Split) (d : Desk) : Desk :=
  { d with ch := { d.ch with
    fill := { d.ch.fill with start := i, stop := j, cursor := i }, split := split
    deckA := markRange d.ch.deckA, deckB := markRange d.ch.deckB } }

theorem setRange_noSplit {d : Desk} (i j : Fin 16) (e : Env) (split : d.ch.split = none) :
    d.setRange i j e = ((d.ranged i j none).retryFill e).service e := by
  unfold setRange
  rw [split]
  dsimp only
  rw [Option.map_none, ite_self]
  rfl

theorem setRange_onePass {d : Desk} (i j : Fin 16) (e : Env) {x : Split} (split : d.ch.split = some x)
    (mode : d.ch.settings.fillMode = .onePass) (phase : x.phase = .items ∨ x.phase = .fill) :
    d.setRange i j e = ((d.ranged i j (some (x.passAt i))).retryFill e).service e := by
  have inPass : (decide (x.phase = .items) || decide (x.phase = .fill)) = true := by
    rcases phase with phase | phase <;> rw [phase] <;> rfl
  unfold setRange
  rw [split]
  dsimp only
  rw [if_pos mode, Option.map_some, if_pos inPass]
  rfl

theorem ranged_nextPlanned (d : Desk) (i j : Fin 16) (split : Option Split) (items : List PlanItem) :
    (d.ranged i j split).nextPlanned items = d.nextPlanned items := by
  have onDeck (r : ItemRef) : (d.ranged i j split).onDeck r = d.onDeck r := by
    unfold Desk.onDeck ranged
    dsimp only
    rw [markRange_ringItem, markRange_ringItem]
  unfold nextPlanned
  simp only [onDeck]
  rfl

/-- A split that can load nothing: both decks are loaded, and nothing is called for that a deck could be had for. -/
theorem serviceSplit_loaded {d : Desk} (e : Env) {x : Split} (a : d.ch.deckA.state ≠ .idle) (b : d.ch.deckB.state ≠ .idle)
    (settled : (x.phase = .fill ∧ x.wantFill = false) ∨ (x.phase = .items ∧ (d.nextPlanned x.items = none ∨ d.candidateDeck = none))) :
    d.serviceSplit e false x = d := by
  have full : d.idleDeck = none := d.idleDeck_none a b
  unfold serviceSplit
  rcases settled with ⟨phase, settled⟩ | ⟨phase, nothing⟩
  · rw [phase]
    dsimp only
    rw [settled, if_neg Bool.false_ne_true, d.chooseFill_noDeck e _ full, ite_self]
  · have loads : d.loadPlanned e x.items = d := by
      rcases nothing with none | calm
      · unfold loadPlanned
        rw [none]
      · refine d.loadPlanned_noDeck e x.items ?_
        unfold takeDeck
        rw [full, calm]
    have all : d.loadPlannedAll e x.items = d := by
      unfold loadPlannedAll
      rw [loads, loads]
    rw [phase]
    dsimp only
    rw [all, d.chooseFill_noDeck e _ full, ite_self]

end Desk

/-! ### The requests -/

section
variable {s : State} {a : Address} (reached : s.reached a) (tag : BitVec 16)
include reached

theorem exec_fillSet (channel slot : Byte) (cart : BitVec 16) : exec (.fillSet a tag channel slot cart) s =
    .next ((field 4 channel.toNat).elim (s.answer tag 0x000D .badField) fun n =>
      (field 16 slot.toNat).elim (s.answer tag 0x000D .badField) fun i =>
        (field 1024 cart.toNat).elim (s.answer tag 0x000D .badField) fun c =>
          (s.onChannel n (Desk.setSlot i c)).answer tag 0x000D .done) := by
  refine congrArg Host.Outcome.next ((s.atPart_reached a _ reached).trans ?_)
  cases field 4 channel.toNat with
  | none => rfl
  | some n =>
    cases field 16 slot.toNat with
    | none => rfl
    | some i => cases field 1024 cart.toNat <;> rfl

theorem exec_fillRange (channel start stop : Byte) : exec (.fillRange a tag channel start stop) s =
    .next ((field 4 channel.toNat).elim (s.answer tag 0x000E .badField) fun n =>
      (field 16 start.toNat).elim (s.answer tag 0x000E .badField) fun i =>
        (field 16 stop.toNat).elim (s.answer tag 0x000E .badField) fun j =>
          (s.onChannel n (Desk.setRange i j)).answer tag 0x000E .done) := by
  refine congrArg Host.Outcome.next ((s.atPart_reached a _ reached).trans ?_)
  cases field 4 channel.toNat with
  | none => rfl
  | some n =>
    cases field 16 start.toNat with
    | none => rfl
    | some i => cases field 16 stop.toNat <;> rfl

variable {channel slot stop : Byte} {cart : BitVec 16}

theorem exec_fillSet_bad (bad : 4 ≤ channel.toNat ∨ 16 ≤ slot.toNat ∨ 1024 ≤ cart.toNat) :
    exec (.fillSet a tag channel slot cart) s = .next (s.answer tag 0x000D .badField) := by
  rw [exec_fillSet reached]
  by_cases near : channel.toNat < 4
  · rw [field_inside near, Option.elim_some]
    by_cases low : slot.toNat < 16
    · rw [field_inside low, Option.elim_some, field_outside (by omega), Option.elim_none]
    · rw [field_outside low, Option.elim_none]
  · rw [field_outside near, Option.elim_none]

theorem exec_fillRange_bad (bad : 4 ≤ channel.toNat ∨ 16 ≤ slot.toNat ∨ 16 ≤ stop.toNat) :
    exec (.fillRange a tag channel slot stop) s = .next (s.answer tag 0x000E .badField) := by
  rw [exec_fillRange reached]
  by_cases near : channel.toNat < 4
  · rw [field_inside near, Option.elim_some]
    by_cases low : slot.toNat < 16
    · rw [field_inside low, Option.elim_some, field_outside (by omega), Option.elim_none]
    · rw [field_outside low, Option.elim_none]
  · rw [field_outside near, Option.elim_none]

variable {n : Fin 4} (hn : channel.toNat = n.val) {i : Fin 16} (hi : slot.toNat = i.val)
include hn hi

theorem exec_fillSet_good {k : Fin 1024} (hk : cart.toNat = k.val) :
    exec (.fillSet a tag channel slot cart) s = .next ((s.onChannel n (Desk.setSlot i k)).answer tag 0x000D .done) := by
  rw [exec_fillSet reached, field_eq_some n hn, field_eq_some i hi, field_eq_some k hk]
  rfl

theorem exec_fillRange_good {j : Fin 16} (hj : stop.toNat = j.val) :
    exec (.fillRange a tag channel slot stop) s = .next ((s.onChannel n (Desk.setRange i j)).answer tag 0x000E .done) := by
  rw [exec_fillRange reached, field_eq_some n hn, field_eq_some i hi, field_eq_some j hj]
  rfl

end

/-- A channel with a fill candidate loaded on deck A. -/
def Channel.chose (c : Channel) (t : FillTable) (slot : Fin 16) (cart : Fin 1024) (r : Run) (z : CartLength) : Channel :=
  { c with
    fill := t, stamp := c.stamp + 1
    deckA := { Deck.reset with
      state := .priming, item := some (.fill slot), cart := cart, load := c.deckA.load + 1, read := c.deckA.read
      allowanceUsed := c.deckA.allowanceUsed
      source := some { bank := r.bank, firstUnit := r.first, length := z.length, segueOut := z.segueOut }
      due := z.length, order := c.stamp, mode := .whenReady } }

namespace Desk

theorem markChosen_noSplit {d : Desk} (split : d.ch.split = none) (s : Fin 16) : d.markChosen s = { d with ch := { d.ch with
    fill := { d.ch.fill with cursor := if s = d.ch.fill.stop then d.ch.fill.start else s + 1, wait := false } } } := by
  unfold markChosen
  dsimp only
  rw [split, Option.map_none, ite_self]
  rfl

theorem load_a (d : Desk) (e : Env) {cart : Fin 1024} {r : Run} {z : CartLength} (run : (e.catalog.get cart).run = some r)
    (size : (e.catalog.get cart).size = some z) (item : DeckItem) (mode : StartMode) :
    d.load e .a item cart mode = { d with ch := { d.ch with
      stamp := d.ch.stamp + 1
      deckA := { Deck.reset with
        state := .priming, item := some item, cart := cart, load := d.ch.deckA.load + 1, read := d.ch.deckA.read
        allowanceUsed := d.ch.deckA.allowanceUsed
        source := some { bank := r.bank, firstUnit := r.first, length := z.length, segueOut := z.segueOut }
        due := z.length, order := d.ch.stamp, mode := mode } } } :=
  congrArg (fun k => ({ d with ch := { d.ch with stamp := d.ch.stamp + 1, deckA := k } } : Desk))
    (loaded_eq d.ch.deckA run size item cart d.ch.stamp mode)

/-- R104 in FALLBACK with both decks free: the choice that waits falls on the one slot that is granted. -/
theorem retryFill_chooses {d : Desk} {e : Env} (waits : d.ch.fill.wait = true) (state : d.ch.state = .fallback) (free : d.ch.free)
    (split : d.ch.split = none) (a : d.ch.deckA.state = .idle) (b : d.ch.deckB.state = .idle) {s : Fin 16}
    (inside : s - d.ch.fill.start ≤ d.ch.fill.stop - d.ch.fill.start) (granted : SlotGranted e d s)
    (others : ∀ x, x ≠ s → d.ch.fill.slots.get x = 0) {r : Run} {z : CartLength}
    (run : (e.catalog.get (d.ch.fill.slots.get s)).run = some r) (size : (e.catalog.get (d.ch.fill.slots.get s)).size = some z) :
    d.retryFill e = { d with
      holds := put d.holds (d.ch.fill.slots.get s) (d.holds.get (d.ch.fill.slots.get s) + 1)
      ch := d.ch.chose { d.ch.fill with cursor := if s = d.ch.fill.stop then d.ch.fill.start else s + 1, wait := false } s
        (d.ch.fill.slots.get s) r z } := by
  have none : d.noFillWait.candidateDeck = none :=
    d.noFillWait.candidateDeck_none (not_candidate (idle_not_waiting a)) (not_candidate (idle_not_waiting b))
  rw [retryFill_fallback e waits state free,
    chooseFill_only (idleDeck_a (d := d.noFillWait) a) none (scanSlots_plain (d := d.noFillWait) split free.1)
      ((d.noFillWait.ch.fill.mem_fullPass s).mpr inside) granted fun x other given => given.1 (others x other)]
  rw [markChosen_noSplit (d := d.noFillWait.takeHold (d.noFillWait.ch.fill.slots.get s)) split s]
  exact load_a _ e run size _ _

/-- R104 in FALLBACK with both decks free where no slot is granted: the choice waits on. -/
theorem retryFill_refused {d : Desk} {e : Env} (waits : d.ch.fill.wait = true) (state : d.ch.state = .fallback) (free : d.ch.free)
    (split : d.ch.split = none) (a : d.ch.deckA.state = .idle) (b : d.ch.deckB.state = .idle)
    (refused : ∀ s, ¬ SlotGranted e d s) : d.retryFill e = d := by
  have none : d.noFillWait.candidateDeck = none :=
    d.noFillWait.candidateDeck_none (not_candidate (idle_not_waiting a)) (not_candidate (idle_not_waiting b))
  rw [retryFill_fallback e waits state free,
    chooseFill_waits (idleDeck_a (d := d.noFillWait) a) none (scanSlots_plain (d := d.noFillWait) split free.1) fun s _ => refused s]
  have still : ({ d.ch.fill with wait := true } : FillTable) = d.ch.fill := by rw [← waits]
  exact congrArg (fun t => ({ d with ch := { d.ch with fill := t } } : Desk)) still

end Desk

/-- Settles O40: without a waiting choice the table alone changes, and in FALLBACK a waiting one is made where a slot is granted. -/
theorem fillRequests : Obligations.FillRequests := by
  unfold Obligations.FillRequests
  refine ⟨fun s a tag channel slot stop cart reached => ⟨exec_fillSet_bad reached tag, exec_fillRange_bad reached tag, fun n i hn hi => ?_⟩, ?_⟩
  · intro c calm
    refine ⟨fun k hk => ?_, fun j hj => ?_⟩
    · rw [exec_fillSet_good reached tag hn hi hk]
      refine congrArg (fun t => Host.Outcome.next (State.answer t tag 0x000D .done)) (State.onChannel_quiet ?_)
      exact Desk.retryFill_calm _ _ calm
    · intro mark ranged
      rw [exec_fillRange_good reached tag hn hi hj]
      refine ⟨fun state split => ?_, fun x state split mode settled a b => ?_⟩
      · refine congrArg (fun t => Host.Outcome.next (State.answer t tag 0x000E .done)) (State.onChannel_quiet ?_)
        rw [Desk.setRange_noSplit i j _ split, Desk.retryFill_calm _ ((s.desk n).ranged i j none) calm]
        have same : (s.desk n).ranged i j none = { s.desk n with ch := ranged } :=
          congrArg (fun x => ({ s.desk n with ch := { ranged with split := x } } : Desk)) split.symm
        rw [same]
        rcases state with bypass | ⟨pass, free⟩
        · exact Desk.serviceAs_bypass _ _ false bypass
        · exact Desk.serviceAs_pass _ { s.desk n with ch := ranged } false pass free
      · refine congrArg (fun t => Host.Outcome.next (State.answer t tag 0x000E .done)) (State.onChannel_quiet ?_)
        have phase : x.phase = .items ∨ x.phase = .fill := settled.symm.imp And.left And.left
        let after := (s.desk n).ranged i j (some (x.passAt i))
        have a' : after.ch.deckA.state ≠ .idle := by
          rw [show after.ch.deckA.state = c.deckA.state from Desk.markRange_state c.deckA]
          exact a
        have b' : after.ch.deckB.state ≠ .idle := by
          rw [show after.ch.deckB.state = c.deckB.state from Desk.markRange_state c.deckB]
          exact b
        rw [Desk.setRange_onePass i j _ split mode phase, Desk.retryFill_calm _ after calm]
        refine Eq.trans ?_ (Desk.serviceSplit_loaded (d := after) (s.env n) (x := x.passAt i) a' b' ?_)
        · unfold Desk.service Desk.serviceAs
          rw [show after.ch.state = .split from state]
          rfl
        · refine settled.imp id fun ⟨phase, nothing⟩ => ⟨phase, nothing.imp (fun none => ?_) fun ⟨noA, noB⟩ => ?_⟩
          · exact ((s.desk n).ranged_nextPlanned i j _ x.items).trans none
          · refine after.candidateDeck_none ?_ ?_
            · exact Desk.noFill_not_candidate ((Desk.markRange_fillItem c.deckA).trans noA)
            · exact Desk.noFill_not_candidate ((Desk.markRange_fillItem c.deckB).trans noB)
  · intro s a tag channel slot stop cart n i j k reached hn hi hj hk c slots granted candidate loaded state free split waits idleA idleB item
    rw [exec_fillSet_good reached tag hn hi hk, exec_fillRange_good reached tag hn hi hj]
    have placed : slots.get i = k := get_put_same c.fill.slots i k
    refine ⟨fun others inside given r z run size => ?_, fun holds others given r z run size => ?_, fun refused => ?_⟩
    · have others' : ∀ x, x ≠ i → slots.get x = 0 := fun x other => (get_put_other _ _ _ _ (Ne.symm other)).trans (others x other)
      have chosen := Desk.retryFill_chooses (d := { s.desk n with ch := { c with fill := { c.fill with slots := slots } } }) (e := s.env n)
        waits state free split idleA idleB inside (by unfold SlotGranted; dsimp only; rw [placed]; exact given) others'
        (r := r) (z := z) (by dsimp only; rw [placed]; exact run) (by dsimp only; rw [placed]; exact size)
      dsimp only at chosen
      rw [placed] at chosen
      exact congrArg (fun d => Host.Outcome.next ((s.putDesk n d).answer tag 0x000D .done)) chosen
    · have start : i - i ≤ j - i := by
        rw [sub_self]
        exact Fin.zero_le _
      have chosen := Desk.retryFill_chooses (d := (s.desk n).ranged i j none) (e := s.env n) (s := i)
        waits state free rfl ((Desk.markRange_state c.deckA).trans idleA) ((Desk.markRange_state c.deckB).trans idleB) start
        (by unfold SlotGranted; rw [show ((s.desk n).ranged i j none).ch.fill.slots.get i = k from holds]; exact given) others
        (r := r) (z := z) (by rw [show ((s.desk n).ranged i j none).ch.fill.slots.get i = k from holds]; exact run)
        (by rw [show ((s.desk n).ranged i j none).ch.fill.slots.get i = k from holds]; exact size)
      rw [show ((s.desk n).ranged i j none).ch.fill.slots.get i = k from holds] at chosen
      let loadedDesk : Desk := { s.desk n with
        holds := put s.store.holds k (s.store.holds.get k + 1)
        ch := c.chose { c.fill with start := i, stop := j, cursor := if i = j then i else i + 1, wait := false } i k r z }
      have split' : c.chose { c.fill with start := i, stop := j, cursor := if i = j then i else i + 1, wait := false } i k r z =
          { c.chose { c.fill with start := i, stop := j, cursor := if i = j then i else i + 1, wait := false } i k r z with split := none } :=
        congrArg (fun x => ({ c.chose
          { c.fill with start := i, stop := j, cursor := if i = j then i else i + 1, wait := false } i k r z with split := x } : Channel)) split
      have retried : ((s.desk n).ranged i j none).retryFill (s.env n) = loadedDesk := by
        rw [chosen]
        change _ = { s.desk n with
          holds := put s.store.holds k (s.store.holds.get k + 1)
          ch := c.chose { c.fill with start := i, stop := j, cursor := if i = j then i else i + 1, wait := false } i k r z }
        rw [split']
        unfold Desk.ranged
        rw [Desk.markRange_none (k := (s.desk n).ch.deckB) item]
        have load : (Desk.markRange (s.desk n).ch.deckA).load = c.deckA.load := Desk.markRange_kept _ (·.load) fun _ => rfl
        have read : (Desk.markRange (s.desk n).ch.deckA).read = c.deckA.read := Desk.markRange_kept _ (·.read) fun _ => rfl
        have used : (Desk.markRange (s.desk n).ch.deckA).allowanceUsed = c.deckA.allowanceUsed := Desk.markRange_kept _ (·.allowanceUsed) fun _ => rfl
        unfold Channel.chose
        dsimp only
        rw [load, read, used]
        rfl
      have set : (s.desk n).setRange i j (s.env n) = loadedDesk := by
        rw [Desk.setRange_noSplit i j _ split, retried]
        exact Desk.service_candidate (d := loadedDesk) (id := .a) (s.env n) state free rfl
      exact congrArg (fun d => Host.Outcome.next ((s.putDesk n d).answer tag 0x000E .done)) set
    · have still := Desk.retryFill_refused (d := { s.desk n with ch := { c with fill := { c.fill with slots := slots } } }) (e := s.env n)
        waits state free split idleA idleB refused
      exact congrArg (fun t => Host.Outcome.next (State.answer t tag 0x000D .done)) (State.onChannel_quiet still)

end Sys2Proof.Machine

/-! Cues that reach one output, and the window cues as a channel judges them (O47). -/

namespace Sys2Proof.Machine

/-! ### A cue that reaches one output (R194, R198) -/

section
variable {s : State} {a : Address} {n : Fin 4} (one : s.reachesOnly a n)
include one

theorem onOutputs_only (rule : Env → Desk → Desk) : s.onOutputs a rule = s.onChannel n rule := by
  have has (m : Fin 4) : (s.intake.resolve a).hasOutput m = decide (m = n) := by
    rw [Bool.eq_iff_iff, decide_eq_true_eq]
    exact one m
  unfold State.onOutputs
  dsimp only
  simp only [has]
  match n with
  | 0 => rfl
  | 1 => rfl
  | 2 => rfl
  | 3 => rfl

theorem exec_windowOpen (o : FrameNo) (close : Option FrameNo) :
    exec (.windowOpen a o close) s = .next (s.onChannel n fun e d => d.judgeWindowOpen e o close) :=
  congrArg Host.Outcome.next (onOutputs_only one _)

theorem exec_windowClose (k : FrameNo) : exec (.windowClose a k) s = .next (s.onChannel n fun e d => d.judgeWindowClose e k) :=
  congrArg Host.Outcome.next (onOutputs_only one _)

theorem reachesOnly_outputs : (s.intake.resolve a).outputs ≠ 0 := by
  intro none
  have has := (one n).mpr rfl
  rw [Target.hasOutput, none] at has
  simp at has

end

section
variable {s : State} {n : Fin 4} {rule : Env → Desk → Desk}

/-- A channel rule that writes records and changes its channel, but takes no hold. -/
theorem State.onChannel_records {c : Channel} {rs : List Record} (h : rule (s.env n) (s.desk n) = { s.desk n with ch := c, out := rs }) :
    s.onChannel n rule = { s.withChannel n c with log := s.log.appendAll rs } := by
  unfold onChannel
  rw [h]
  rfl

/-- A channel rule that writes one record and changes nothing. -/
theorem State.onChannel_record {r : Record} (h : rule (s.env n) (s.desk n) = (s.desk n).record (s.env n) r) :
    s.onChannel n rule = { s with log := s.log.append { r with channel := some n } } := by
  unfold onChannel
  rw [h]
  change ({ s with channels := put s.channels n (s.channels.get n), log := s.log.append { r with channel := some n } } : State) = _
  rw [put_get_self]

end

/-! ### WINDOW_OPEN (R63) -/

/-- R63: the cue repeats the window in hand. -/
def Channel.RepeatsWindow (c : Channel) (o : FrameNo) : Prop :=
  (∃ h, c.held = some h ∧ h.opens = o) ∨ ∃ w, c.window = some w ∧ w.opens = o

namespace Desk

theorem repeatsWindow_iff (d : Desk) (o : FrameNo) :
    ((match d.ch.held with | some h => decide (h.opens = o) | none => false) ||
      (match d.ch.window with | some w => decide (w.opens = o) | none => false)) = true ↔ d.ch.RepeatsWindow o := by
  unfold Channel.RepeatsWindow
  cases d.ch.held <;> cases d.ch.window <;> simp

section
variable {d : Desk} {e : Env} {o : FrameNo} {close : Option FrameNo}

theorem judgeWindowOpen_repeat (repeats : d.ch.RepeatsWindow o) : d.judgeWindowOpen e o close = d := by
  have repeated := (d.repeatsWindow_iff o).mpr repeats
  by_cases bypass : d.ch.state = .bypass
  · exact if_pos bypass
  · exact (if_neg bypass).trans (if_pos repeated)

variable (fresh : ¬ d.ch.RepeatsWindow o) (serves : d.ch.state ≠ .bypass)
include fresh serves

theorem judgeWindowOpen_busy (busy : d.ch.state = .split ∨ d.ch.state = .brk ∨ d.ch.state = .loc ∨ d.ch.plan.isSome = true ∨
      d.ch.held.isSome = true) : d.judgeWindowOpen e o close = d.cueIgnored e .cueState none (some o) := by
  have held : (!(decide (d.ch.state = .pass) || decide (d.ch.state = .fallback)) || d.committed) = true := by
    unfold committed
    rcases busy with state | state | state | plan | held
    · rw [state]; rfl
    · rw [state]; rfl
    · rw [state]; rfl
    · rw [plan, Bool.true_or, Bool.or_true]
    · rw [held, Bool.or_true, Bool.or_true]
  unfold judgeWindowOpen
  extract_lets repeated short
  have fresh' : ¬ repeated = true := mt (d.repeatsWindow_iff o).mp fresh
  rw [if_neg serves, if_neg fresh', if_pos held]

variable (state : d.ch.state = .pass ∨ d.ch.state = .fallback) (free : d.ch.free)
include state free

/-- R63 for a channel that may hold a window: too late, too short, or held. -/
theorem judgeWindowOpen_free : d.judgeWindowOpen e o close =
    if isAfter o e.pos = false then d.cueIgnored e .cueLate none (some o)
    else if ∃ x, close = some x ∧ isAfter x (o + BitVec.ofNat 32 (2 * d.ch.settings.fade)) = false then
      d.cueIgnored e .cueShort none (some o)
    else ({ d with ch := { d.ch with held := some { opens := o, closes := close, stage := .waiting }, lastRing := none } } :
      Desk).windowPrimes e := by
  obtain ⟨plan, held⟩ := free
  have may : ¬ (!(decide (d.ch.state = .pass) || decide (d.ch.state = .fallback)) || d.committed) = true := by
    unfold committed
    rw [plan, held]
    rcases state with state | state <;> rw [state] <;> decide
  unfold judgeWindowOpen
  extract_lets repeated short
  have short_iff : short = true ↔ ∃ x, close = some x ∧ isAfter x (o + BitVec.ofNat 32 (2 * d.ch.settings.fade)) = false := by
    change (match close with | some c => !isAfter c (o + BitVec.ofNat 32 (2 * d.ch.settings.fade)) | none => false) = true ↔ _
    cases close <;> simp
  have fresh' : ¬ repeated = true := mt (d.repeatsWindow_iff o).mp fresh
  rw [if_neg serves, if_neg fresh', if_neg may]
  refine if_congr ?_ rfl (if_congr short_iff rfl rfl)
  rw [Bool.not_eq_true']

end

/-! ### WINDOW_CLOSE (R65) -/

section
variable {d : Desk} {e : Env} {k : FrameNo}

theorem judgeWindowClose_none (state : d.ch.state ≠ .bypass) (held : d.ch.held = none) (closed : d.ch.state ≠ .loc) :
    d.judgeWindowClose e k = d.cueIgnored e .cueState none none := by
  unfold judgeWindowClose
  rw [held]
  split
  · exact absurd ‹d.ch.state = .bypass› state
  · exact absurd ‹d.ch.state = .loc› closed
  · cases ‹(none : Option HeldWindow) = some _›
  · rfl

theorem judgeWindowClose_loc {w : WindowCtx} (state : d.ch.state = .loc) (window : d.ch.window = some w) :
    d.judgeWindowClose e k =
      if w.ends.isSome then (if w.closes = some k then d else d.cueIgnored e .cueState none (some w.opens))
      else { d with ch := { d.ch with window := some { w with closes := some k } } } := by
  unfold judgeWindowClose
  rw [state, window]

theorem judgeWindowClose_held {h : HeldWindow} (state : d.ch.state = .pass ∨ d.ch.state = .fallback) (held : d.ch.held = some h) :
    d.judgeWindowClose e k =
      if isAfter k (h.opens + BitVec.ofNat 32 (2 * d.ch.settings.fade)) then
        { d with ch := { d.ch with held := some { h with closes := some k } } }
      else (d.discardWindow.cueIgnored e .cueShort none (some h.opens)).service e := by
  unfold judgeWindowClose
  rw [held]
  rcases state with state | state <;> rw [state] <;> rfl

end

/-- R64: a held window that has prepared nothing is discarded. -/
theorem discardWindow_waiting {d : Desk} {h : HeldWindow} (held : d.ch.held = some h) (stage : h.stage = .waiting) :
    d.discardWindow = { d with ch := { d.ch with held := none, lastRing := none } } := by
  have unprepared : h.prepares = false := by
    unfold HeldWindow.prepares
    rw [stage]
    rfl
  unfold discardWindow
  rw [held]
  dsimp only
  rw [unprepared]
  rfl

theorem windowPrimes_early {d : Desk} {e : Env} {h : HeldWindow} (held : d.ch.held = some h)
    (early : atOrAfter e.pos (h.opens - 8) = false) : d.windowPrimes e = d := by
  have not_yet : ¬ (decide (h.stage = .waiting) && atOrAfter e.pos (h.opens - frames Config.primeLead)) = true := by
    change ¬ (decide (h.stage = .waiting) && atOrAfter e.pos (h.opens - 8)) = true
    rw [early, Bool.and_false]
    exact Bool.false_ne_true
  unfold windowPrimes
  rw [held]
  exact if_neg not_yet

end Desk

/-- Settles O47: an open cue by what the channel has in hand, a close cue by the window that it meets. -/
theorem windowCuesJudged : Obligations.WindowCuesJudged := by
  unfold Obligations.WindowCuesJudged
  intro s a n o k close one c p least ignored
  rw [exec_windowOpen one, exec_windowClose one]
  have same {rule : Env → Desk → Desk} (h : rule (s.env n) (s.desk n) = s.desk n) : Host.Outcome.next (s.onChannel n rule) =
      (.next s : Host.Outcome State Fault Refusal) := congrArg _ (s.onChannel_same n rule h)
  have ignores {rule : Env → Desk → Desk} {reason : Reason} {detail : Option FrameNo}
      (h : rule (s.env n) (s.desk n) = (s.desk n).cueIgnored (s.env n) reason none detail) :
      Host.Outcome.next (s.onChannel n rule) = (.next (ignored reason detail) : Host.Outcome State Fault Refusal) :=
    congrArg _ (State.onChannel_record h)
  refine ⟨fun bypass => ⟨?_, ?_⟩, fun h held opens => ?_, fun w window opens => ?_, fun freshH freshW serves busy => ?_,
    fun window state free => ⟨fun late => ?_, fun soon x closes short => ?_, fun soon long early => ?_, ?_⟩, fun state held => ?_,
    fun h state held long => ?_, fun h state held short => ?_, 
    fun w state window => ⟨fun open' => ?_, fun ending same' => ?_, fun ending other => ?_⟩⟩
  · exact same (if_pos bypass)
  · refine same ?_
    unfold Desk.judgeWindowClose
    rw [show (s.desk n).ch.state = .bypass from bypass]
  · exact same (Desk.judgeWindowOpen_repeat (.inl ⟨h, held, opens⟩))
  · exact same (Desk.judgeWindowOpen_repeat (.inr ⟨w, window, opens⟩))
  · have fresh : ¬ c.RepeatsWindow o := by
      rintro (⟨h, held, opens⟩ | ⟨w, window, opens⟩)
      · exact freshH h held opens
      · exact freshW w window opens
    exact ignores (Desk.judgeWindowOpen_busy fresh serves busy)
  all_goals
    try
      have fresh : ¬ c.RepeatsWindow o := by
        rintro (⟨h, held, _⟩ | ⟨w, window', _⟩)
        · cases free.2.symm.trans held
        · cases window.symm.trans window'
      have serves : c.state ≠ .bypass := by
        rcases state with state | state <;> simp [state]
  · refine ignores ?_
    exact (Desk.judgeWindowOpen_free fresh serves state free).trans (if_pos late)
  · have soon' : isAfter o (s.env n).pos = true := soon
    refine ignores ?_
    exact (Desk.judgeWindowOpen_free fresh serves state free).trans ((if_neg (by rw [soon']; decide)).trans (if_pos ⟨x, closes, short⟩))
  · have soon' : isAfter o (s.env n).pos = true := soon
    refine congrArg Host.Outcome.next (State.onChannel_quiet ?_)
    refine (Desk.judgeWindowOpen_free fresh serves state free).trans ((if_neg (by rw [soon']; decide)).trans ((if_neg ?_).trans
      (Desk.windowPrimes_early (h := { opens := o, closes := close, stage := .waiting }) rfl early)))
    rintro ⟨x, closes, short⟩
    cases (long x closes).symm.trans short
  · have closed : c.state ≠ .loc := by
      rcases state with state | state <;> simp [state]
    exact ignores (Desk.judgeWindowClose_none serves free.2 closed)
  · have serves : c.state ≠ .bypass := by
      rcases state with state | state <;> simp [state]
    have closed : c.state ≠ .loc := by
      rcases state with state | state <;> simp [state]
    exact ignores (Desk.judgeWindowClose_none serves held closed)
  · refine congrArg Host.Outcome.next (State.onChannel_quiet ?_)
    exact (Desk.judgeWindowClose_held state held).trans (if_pos long)
  · have short' : ¬ isAfter k (h.opens + BitVec.ofNat 32 (2 * (s.desk n).ch.settings.fade)) = true := by
      rw [Bool.not_eq_true]
      exact short
    refine ⟨fun stage plan => ?_, fun r stage plan item waits idle part holds => ?_⟩
    · refine congrArg Host.Outcome.next (State.onChannel_records (rs := [ignoredCue s n .cueShort none (some h.opens)]) ?_)
      rw [(Desk.judgeWindowClose_held (.inl state) held).trans (if_neg short'), Desk.discardWindow_waiting held stage]
      exact Desk.serviceAs_pass _ _ false state ⟨plan, rfl⟩
    · intro y
      obtain ⟨i, part'⟩ := r
      cases part
      have judged : (s.desk n).judgeWindowClose (s.env n) k =
          (((s.desk n).discardWindow).cueIgnored (s.env n) .cueShort none (some h.opens)).service (s.env n) := by
        exact (Desk.judgeWindowClose_held (.inl state) held).trans (if_neg short')
      rw [(s.desk n).discardWindow_ring state held stage item waits idle holds, Desk.service, Desk.serviceAs_pass] at judged
      · exact congrArg (fun d => Host.Outcome.next (s.putDesk n d)) judged
      · exact state
      · exact ⟨plan, rfl⟩
  · refine congrArg Host.Outcome.next (State.onChannel_quiet ?_)
    exact (Desk.judgeWindowClose_loc state window).trans (if_neg (by rw [open']; decide))
  · refine same ?_
    rw [Desk.judgeWindowClose_loc state window, if_pos ending, if_pos same']
  · refine ignores ?_
    rw [Desk.judgeWindowClose_loc state window, if_pos ending, if_neg other]

end Sys2Proof.Machine

/-! The timeline of a plan and its fitting (O48). -/

namespace Sys2Proof.Machine

/-! ### Placing (R78) -/

/-- What the placing of an item leaves as it was. -/
def PlanItem.identity (x : PlanItem) : ItemRef × Fin 1024 × Inclusion × Nat × Nat := (x.ref, x.cart, x.inclusion, x.length, x.segueOut)

/-- An included item as placed after the included item before it, or first (R78). -/
def placedAfter (own : ItemRef → Segue) (pred : Option PlanItem) (x : PlanItem) : PlanItem :=
  match pred with
  | none => { x with segue := .cut, offset := 0 }
  | some p => { x with
      segue := own x.ref
      offset := if own x.ref = .cut then p.offset + p.length else p.offset + p.segueOut }

/-- R78: y is placed after x. -/
def Follows (own : ItemRef → Segue) (x y : PlanItem) : Prop :=
  y.segue = own y.ref ∧ y.offset = if own y.ref = .cut then x.offset + x.length else x.offset + x.segueOut

section
variable (own : ItemRef → Segue) (pred : Option PlanItem) (x : PlanItem) (rest : List PlanItem)

theorem place_included (included : x.inclusion = .included) :
    place own pred (x :: rest) = placedAfter own pred x :: place own (some (placedAfter own pred x)) rest := by
  cases pred with
  | none => exact if_pos included
  | some p => exact if_pos included

theorem place_excluded (excluded : x.inclusion ≠ .included) : place own pred (x :: rest) = x :: place own pred rest :=
  if_neg excluded

theorem placedAfter_identity : (placedAfter own pred x).identity = x.identity := by
  cases pred <;> rfl

theorem placedAfter_inclusion : (placedAfter own pred x).inclusion = x.inclusion := by
  cases pred <;> rfl

theorem place_identity (items : List PlanItem) : (place own pred items).map PlanItem.identity = items.map PlanItem.identity := by
  induction items generalizing pred with
  | nil => rfl
  | cons x rest ih =>
    by_cases included : x.inclusion = .included
    · rw [place_included own pred x rest included, List.map_cons, List.map_cons, placedAfter_identity, ih]
    · rw [place_excluded own pred x rest included, List.map_cons, List.map_cons, ih]

theorem includedItems_place (items : List PlanItem) (included : x.inclusion = .included) :
    includedItems (place own pred (x :: items)) =
      placedAfter own pred x :: includedItems (place own (some (placedAfter own pred x)) items) := by
  rw [place_included own pred x items included]
  exact List.filter_cons_of_pos (decide_eq_true ((placedAfter_inclusion own pred x).trans included))

theorem includedItems_place_skip (items : List PlanItem) (excluded : x.inclusion ≠ .included) :
    includedItems (place own pred (x :: items)) = includedItems (place own pred items) := by
  rw [place_excluded own pred x items excluded]
  exact List.filter_cons_of_neg (by simpa using excluded)

/-- R78: included items follow one another from the item before them on. -/
theorem place_chain (items : List PlanItem) (p : PlanItem) :
    (p :: includedItems (place own (some p) items)).IsChain (Follows own) := by
  induction items generalizing p with
  | nil => exact List.isChain_singleton p
  | cons x rest ih =>
    by_cases included : x.inclusion = .included
    · rw [includedItems_place own _ x rest included]
      exact List.isChain_cons_cons.mpr ⟨⟨rfl, rfl⟩, ih _⟩
    · rw [includedItems_place_skip own _ x rest included]
      exact ih p

theorem place_first (items : List PlanItem) :
    (∀ x, (includedItems (place own none items)).head? = some x → x.offset = 0 ∧ x.segue = .cut) ∧
      (includedItems (place own none items)).IsChain (Follows own) := by
  induction items with
  | nil => exact ⟨fun x head => (by cases head), List.isChain_nil⟩
  | cons x rest ih =>
    by_cases included : x.inclusion = .included
    · rw [includedItems_place own _ x rest included]
      refine ⟨fun y head => ?_, place_chain own rest _⟩
      cases head
      exact ⟨rfl, rfl⟩
    · rw [includedItems_place_skip own _ x rest included]
      exact ih

end

/-! ### The planned length (R79) -/

/-- R79: the end of item x, which stands at place i of the included items. -/
def endAt (f : Nat) (l : List PlanItem) (i : Nat) (x : PlanItem) : Nat :=
  match l[i + 1]? with
  | some y => if y.segue = .fade then y.offset + min f (x.length - x.segueOut) else x.offset + x.length
  | none => x.offset + x.length

theorem largestEnd_cons (f : Nat) (x y : PlanItem) (rest : List PlanItem) :
    largestEnd f (x :: y :: rest) = max (endAt f (x :: y :: rest) 0 x) (largestEnd f (y :: rest)) := rfl

theorem endAt_succ (f : Nat) (x : PlanItem) (l : List PlanItem) (i : Nat) (y : PlanItem) : endAt f (x :: l) (i + 1) y = endAt f l i y := rfl

theorem endAt_le (f : Nat) (l : List PlanItem) {i : Nat} {x : PlanItem} (at' : l[i]? = some x) : endAt f l i x ≤ largestEnd f l := by
  induction l generalizing i with
  | nil => cases at'
  | cons a l ih =>
    cases l with
    | nil =>
      cases i with
      | zero =>
        cases at'
        exact Nat.le_refl _
      | succ i => cases at'
    | cons b l =>
      rw [largestEnd_cons]
      cases i with
      | zero =>
        cases at'
        exact Nat.le_max_left _ _
      | succ i =>
        rw [endAt_succ]
        exact Nat.le_trans (ih at') (Nat.le_max_right _ _)

theorem largestEnd_attained (f : Nat) {l : List PlanItem} (some' : l ≠ []) : ∃ i x, l[i]? = some x ∧ largestEnd f l = endAt f l i x := by
  induction l with
  | nil => exact absurd rfl some'
  | cons a l ih =>
    cases l with
    | nil => exact ⟨0, a, rfl, rfl⟩
    | cons b l =>
      rw [largestEnd_cons]
      obtain ⟨i, x, at', is⟩ := ih (List.cons_ne_nil b l)
      rcases Nat.le_total (endAt f (a :: b :: l) 0 a) (largestEnd f (b :: l)) with less | more
      · exact ⟨i + 1, x, at', (Nat.max_eq_right less).trans is⟩
      · exact ⟨0, a, rfl, Nat.max_eq_left more⟩

/-! ### Fitting (R80) -/

/-- An item as it stands before it is placed: placing writes the offset and the segue of an included item alone. -/
def PlanItem.bare (x : PlanItem) : PlanItem := if x.inclusion = .included then { x with segue := .cut, offset := 0 } else x

/-- R80: an item that the fitting drops. -/
def PlanItem.dropped (x : PlanItem) : PlanItem := { x with inclusion := .dropped, offset := 0, segue := .cut }

section
variable (own : ItemRef → Segue) (pred : Option PlanItem)

theorem bare_included {x : PlanItem} (included : x.inclusion = .included) : x.bare = { x with segue := .cut, offset := 0 } := if_pos included

theorem bare_excluded {x : PlanItem} (excluded : x.inclusion ≠ .included) : x.bare = x := if_neg excluded

theorem bare_inclusion (x : PlanItem) : x.bare.inclusion = x.inclusion := by
  unfold PlanItem.bare
  split <;> rfl

theorem bare_ref (x : PlanItem) : x.bare.ref = x.ref := by
  unfold PlanItem.bare
  split <;> rfl

theorem placedAfter_bare {x : PlanItem} (included : x.inclusion = .included) : placedAfter own pred x.bare = placedAfter own pred x := by
  rw [bare_included included]
  cases pred <;> rfl

theorem bare_placedAfter {x : PlanItem} (included : x.inclusion = .included) : (placedAfter own pred x).bare = x.bare := by
  rw [bare_included included, bare_included ((placedAfter_inclusion own pred x).trans included)]
  cases pred <;> rfl

theorem place_bare (items : List PlanItem) : place own pred (items.map PlanItem.bare) = place own pred items := by
  induction items generalizing pred with
  | nil => rfl
  | cons x rest ih =>
    rw [List.map_cons]
    by_cases included : x.inclusion = .included
    · rw [place_included own pred _ _ ((bare_inclusion x).trans included), placedAfter_bare own pred included, ih,
        place_included own pred x rest included]
    · rw [bare_excluded included, place_excluded own pred x _ included, ih, place_excluded own pred x rest included]

theorem bare_place (items : List PlanItem) : (place own pred items).map PlanItem.bare = items.map PlanItem.bare := by
  induction items generalizing pred with
  | nil => rfl
  | cons x rest ih =>
    by_cases included : x.inclusion = .included
    · rw [place_included own pred x rest included, List.map_cons, ih, bare_placedAfter own pred included, List.map_cons]
    · rw [place_excluded own pred x rest included, List.map_cons, ih, List.map_cons]

end

section
variable (droppable : ItemRef → Bool)

/-- R80: the fitting may drop the item. -/
def mayDrop (x : PlanItem) : Bool := decide (x.inclusion = .included) && droppable x.ref

theorem mayDrop_bare (x : PlanItem) : mayDrop droppable x.bare = mayDrop droppable x := by
  unfold mayDrop
  rw [bare_inclusion, bare_ref]

theorem mayDrop_dropped (x : PlanItem) : mayDrop droppable x.dropped = false := rfl

theorem dropped_bare (x : PlanItem) : x.bare.dropped = x.dropped := by
  unfold PlanItem.bare
  split <;> rfl

theorem dropLatest_cons (x : PlanItem) (rest : List PlanItem) : dropLatest droppable (x :: rest) =
    match dropLatest droppable rest with
    | some rest' => some (x :: rest')
    | none => if mayDrop droppable x then some (x.dropped :: rest) else none := rfl

section
variable {droppable} {x : PlanItem} {rest : List PlanItem}

theorem dropLatest_later {rest' : List PlanItem} (later : dropLatest droppable rest = some rest') : dropLatest droppable (x :: rest) = some (x :: rest') := by
  rw [dropLatest_cons, later]

theorem dropLatest_here (last : dropLatest droppable rest = none) (may : mayDrop droppable x = true) :
    dropLatest droppable (x :: rest) = some (x.dropped :: rest) := by
  rw [dropLatest_cons, last]
  exact if_pos may

theorem dropLatest_stop (last : dropLatest droppable rest = none) (kept : ¬ mayDrop droppable x = true) : dropLatest droppable (x :: rest) = none := by
  rw [dropLatest_cons, last]
  exact if_neg kept

end

/-- The fitting does not look at offsets and segues. -/
theorem dropLatest_bare (l : List PlanItem) :
    dropLatest droppable (l.map PlanItem.bare) = (dropLatest droppable l).map (·.map PlanItem.bare) := by
  induction l with
  | nil => rfl
  | cons x rest ih =>
    rw [List.map_cons]
    cases latest : dropLatest droppable rest with
    | some rest' =>
      rw [latest] at ih
      rw [dropLatest_later latest, dropLatest_later ih]
      rfl
    | none =>
      rw [latest] at ih
      have same := mayDrop_bare droppable x
      by_cases may : mayDrop droppable x = true
      · rw [dropLatest_here latest may, dropLatest_here ih (same.trans may), dropped_bare]
        rfl
      · rw [dropLatest_stop latest may, dropLatest_stop ih (same ▸ may)]
        rfl

theorem dropLatest_none {l : List PlanItem} (none : dropLatest droppable l = none) : ∀ x ∈ l, mayDrop droppable x = false := by
  induction l with
  | nil => simp
  | cons x rest ih =>
    cases latest : dropLatest droppable rest with
    | some rest' => cases none.symm.trans (dropLatest_later latest)
    | none =>
      refine List.forall_mem_cons.mpr ⟨Bool.eq_false_iff.mpr fun may => ?_, ih latest⟩
      cases none.symm.trans (dropLatest_here latest may)

/-- How many items of a list the fitting may drop. -/
def droppableCount (l : List PlanItem) : Nat := (l.filter (mayDrop droppable)).length

/-- The latest m items that may be dropped, dropped (R80). -/
def dropLast (m : Nat) : List PlanItem → List PlanItem
  | [] => []
  | x :: rest => (if mayDrop droppable x = true ∧ droppableCount droppable rest < m then x.dropped else x) :: dropLast m rest

theorem droppableCount_may {x : PlanItem} (rest : List PlanItem) (may : mayDrop droppable x = true) :
    droppableCount droppable (x :: rest) = droppableCount droppable rest + 1 := by
  unfold droppableCount
  rw [List.filter_cons_of_pos may, List.length_cons]

theorem droppableCount_kept {x : PlanItem} (rest : List PlanItem) (kept : ¬ mayDrop droppable x = true) :
    droppableCount droppable (x :: rest) = droppableCount droppable rest := by
  unfold droppableCount
  rw [List.filter_cons_of_neg kept]

theorem droppableCount_mono (x : PlanItem) (rest : List PlanItem) : droppableCount droppable rest ≤ droppableCount droppable (x :: rest) := by
  by_cases may : mayDrop droppable x = true
  · rw [droppableCount_may droppable rest may]
    omega
  · rw [droppableCount_kept droppable rest may]

theorem dropLast_zero (l : List PlanItem) : dropLast droppable 0 l = l := by
  induction l with
  | nil => rfl
  | cons x rest ih => rw [dropLast, ih, if_neg (by omega)]

theorem dropLast_drop {m : Nat} {x : PlanItem} {rest : List PlanItem} (may : mayDrop droppable x = true) (now : droppableCount droppable rest < m) :
    dropLast droppable m (x :: rest) = x.dropped :: dropLast droppable m rest := by
  rw [dropLast, if_pos ⟨may, now⟩]

theorem dropLast_keep {m : Nat} {x : PlanItem} {rest : List PlanItem}
    (keep : ¬ (mayDrop droppable x = true ∧ droppableCount droppable rest < m)) :
    dropLast droppable m (x :: rest) = x :: dropLast droppable m rest := by
  rw [dropLast, if_neg keep]

/-- Once all are dropped there is none left to drop. -/
theorem dropLast_all {m : Nat} (l : List PlanItem) (all : droppableCount droppable l ≤ m) : dropLast droppable (m + 1) l = dropLast droppable m l := by
  induction l with
  | nil => rfl
  | cons x rest ih =>
    have tail := droppableCount_mono droppable x rest
    rw [dropLast, dropLast, ih (by omega)]
    by_cases may : mayDrop droppable x = true
    · rw [droppableCount_may droppable rest may] at all
      rw [if_pos ⟨may, by omega⟩, if_pos ⟨may, by omega⟩]
    · rw [if_neg fun h => may h.1, if_neg fun h => may h.1]

/-- R80: one more item dropped is the latest of those left. -/
theorem dropLatest_dropLast (m : Nat) (l : List PlanItem) : dropLatest droppable (dropLast droppable m l) =
    if m < droppableCount droppable l then some (dropLast droppable (m + 1) l) else none := by
  induction l with
  | nil => rfl
  | cons x rest ih =>
    have tail := droppableCount_mono droppable x rest
    by_cases more : m < droppableCount droppable rest
    · rw [if_pos more] at ih
      rw [dropLast_keep droppable fun h => absurd h.2 (by omega), dropLast_keep droppable fun h => absurd h.2 (by omega), dropLatest_later ih,
        if_pos (Nat.lt_of_lt_of_le more tail)]
    · rw [if_neg more] at ih
      by_cases may : mayDrop droppable x = true
      · have count := droppableCount_may droppable rest may
        by_cases now : droppableCount droppable rest < m
        · have done : ¬ m < droppableCount droppable (x :: rest) := by omega
          rw [dropLast_drop droppable may now, dropLatest_stop ih (Bool.eq_false_iff.mp (mayDrop_dropped droppable x)), if_neg done]
        · have next : m < droppableCount droppable (x :: rest) := by omega
          rw [dropLast_keep droppable fun h => now h.2, dropLast_drop droppable may (by omega), dropLatest_here ih may,
            if_pos next, dropLast_all droppable rest (by omega)]
      · rw [dropLast_keep droppable fun h => may h.1, dropLatest_stop ih may, droppableCount_kept droppable rest may, if_neg more]

variable (own : ItemRef → Segue) (items : List PlanItem)

/-- The plan with the latest m droppable items dropped, placed anew. -/
def droppedPlan (m : Nat) : List PlanItem := place own none (dropLast droppable m items)

/-- R80: a drop from a placed plan, placed anew, is the drop of one item more. -/
theorem dropLatest_droppedPlan (m : Nat) :
    (dropLatest droppable (droppedPlan droppable own items m)).map (place own none) =
      if m < droppableCount droppable items then some (droppedPlan droppable own items (m + 1)) else none := by
  have bared := dropLatest_bare droppable (droppedPlan droppable own items m)
  rw [droppedPlan, bare_place, dropLatest_bare, dropLatest_dropLast] at bared
  have placed (o : Option (List PlanItem)) : (o.map (·.map PlanItem.bare)).map (place own none) = o.map (place own none) := by
    cases o with
    | none => rfl
    | some l => exact congrArg some (place_bare own none l)
  rw [← placed]
  change ((dropLatest droppable (place own none (dropLast droppable m items))).map _).map _ = _
  rw [← bared, placed]
  split <;> rfl

theorem droppableCount_le : droppableCount droppable items ≤ items.length := List.length_filter_le _ _

/-- R80: the fitting from a plan with m items dropped stops at the first that fits, or with all dropped. -/
theorem fitPlan_from (f l fuel m : Nat) (enough : m + fuel = items.length) (some' : m ≤ droppableCount droppable items)
    (long : ∀ j, j < m → l < plannedLength f (droppedPlan droppable own items j)) :
    ∃ k, fitPlan own droppable f l fuel (droppedPlan droppable own items m) = droppedPlan droppable own items k ∧
      (∀ j, j < k → l < plannedLength f (droppedPlan droppable own items j)) ∧
      (plannedLength f (droppedPlan droppable own items k) ≤ l ∨ k = droppableCount droppable items) := by
  induction fuel generalizing m with
  | zero =>
    have all := droppableCount_le droppable items
    exact ⟨m, rfl, long, .inr (by omega)⟩
  | succ fuel ih =>
    unfold fitPlan
    by_cases fits : plannedLength f (droppedPlan droppable own items m) > l
    · rw [if_pos fits]
      have step := dropLatest_droppedPlan droppable own items m
      cases latest : dropLatest droppable (droppedPlan droppable own items m) with
      | none =>
        rw [latest] at step
        have all : ¬ m < droppableCount droppable items := by
          intro more
          rw [if_pos more] at step
          cases step
        exact ⟨m, rfl, long, .inr (by omega)⟩
      | some next =>
        rw [latest] at step
        have more : m < droppableCount droppable items := by
          by_contra all
          rw [if_neg all] at step
          cases step
        rw [if_pos more] at step
        dsimp only
        rw [Option.some.inj step]
        refine ih (m + 1) (by omega) more fun j before => ?_
        rcases Nat.lt_succ_iff_lt_or_eq.mp before with less | rfl
        · exact long j less
        · exact fits
    · rw [if_neg fits]
      exact ⟨m, rfl, long, .inl (by omega)⟩

/-- The dropped items by their places in the list. -/
theorem dropLast_eq_zipIdx (m : Nat) : dropLast droppable m items = items.zipIdx.map (fun x =>
    if mayDrop droppable x.1 = true ∧ ((items.drop (x.2 + 1)).filter (mayDrop droppable)).length < m then x.1.dropped else x.1) := by
  have tails : ∀ (whole l : List PlanItem) (k : Nat), whole.drop k = l → dropLast droppable m l = (l.zipIdx k).map (fun x =>
      if mayDrop droppable x.1 = true ∧ ((whole.drop (x.2 + 1)).filter (mayDrop droppable)).length < m then x.1.dropped else x.1) := by
    intro whole l
    induction l with
    | nil =>
      intro k _
      rfl
    | cons x rest ih =>
      intro k here
      have next : whole.drop (k + 1) = rest := by
        rw [← List.tail_drop, here]
        rfl
      rw [dropLast, List.zipIdx_cons, List.map_cons, ih (k + 1) next, next]
      rfl
  exact tails items items 0 rfl

end

/-- Settles O48: the placing by its chain, the planned length as a largest end, and the fitting by the number of items dropped. -/
theorem fittedPlan : Obligations.FittedPlan := by
  unfold Obligations.FittedPlan
  refine ⟨fun own items => ?_, fun f items => ?_, fun own droppable f l items => ?_⟩
  · obtain ⟨first, chain⟩ := place_first own items
    refine ⟨place_identity own none items, first, fun i x y at' next => ?_⟩
    obtain ⟨bound, rfl⟩ := List.getElem?_eq_some_iff.mp next
    obtain ⟨_, rfl⟩ := List.getElem?_eq_some_iff.mp at'
    exact List.isChain_iff_getElem.mp chain i bound
  · intro included fin
    refine ⟨fun i x at' => endAt_le f included at', fun some' => largestEnd_attained f some', fun none => ?_⟩
    change largestEnd f included = 0
    rw [none]
    rfl
  · intro may dropped fitted
    have dropped_eq (m : Nat) : dropped m = droppedPlan droppable own items m :=
      (congrArg (place own none) (dropLast_eq_zipIdx droppable items m)).symm
    have start : place own none items = droppedPlan droppable own items 0 := by
      rw [droppedPlan, dropLast_zero]
    obtain ⟨m, is, long, fits⟩ := fitPlan_from droppable own items f l items.length 0 (Nat.zero_add _) (Nat.zero_le _)
      (fun j before => absurd before (Nat.not_lt_zero j))
    rw [← start] at is
    simp only [dropped_eq]
    refine ⟨fun short => ?_, ?_, m, is, long, fits⟩
    · change fitPlan own droppable f l items.length (place own none items) = _
      cases items with
      | nil => rfl
      | cons x rest => exact if_neg (Nat.not_lt.mpr short)
    · rcases fits with short | all
      · exact .inl (by rw [show fitted = _ from is]; exact short)
      · refine .inr fun x mem included => ?_
        have none : dropLatest droppable (droppedPlan droppable own items m) = none := by
          have step := dropLatest_droppedPlan droppable own items m
          rw [if_neg (by omega), Option.map_eq_none_iff] at step
          exact step
        rw [show fitted = _ from is] at mem
        have kept := dropLatest_none droppable none x mem
        unfold mayDrop at kept
        rw [decide_eq_true included] at kept
        exact kept

end Sys2Proof.Machine

/-! A ring entry that holds one item: its claim, its result and its return to the hub (R43, R51), and a break of one entry gathered (R28). -/

namespace Sys2Proof.Machine

/-! ### The entry's result -/

/-- The channel once the one item of entry i has its result: the entry returned, and gone from the contexts that name it. -/
def Channel.returns (c : Channel) (i : Fin 128) (result : Result) : Channel :=
  { c with
    ring := put c.ring i (returned (c.ring.get i) result)
    split := c.split.map (Split.without ⟨i, .a⟩)
    brk := c.brk.map (BreakCtx.without i)
    lastRing := c.lastRing.filter (fun r => r.index != i) }

theorem returned_free {z : Entry} (free : z.itemA.held = false) (result : Result) :
    returned z result = { z with owner := .loader, itemA := { z.itemA with result := result, provisional := false } } :=
  congrArg (fun held => ({ z with owner := .loader, itemA := { z.itemA with result := result, provisional := false, held := held } } : Entry))
    free.symm

/-- Where no context names the entry, the ring alone changes. -/
theorem Channel.returns_alone {c : Channel} (split : c.split = none) (brk : c.brk = none) (last : c.lastRing = none) (i : Fin 128) (result : Result) :
    c.returns i result = { c with ring := put c.ring i (returned (c.ring.get i) result) } := by
  unfold Channel.returns
  rw [split, brk, last]
  rfl

/-- Where the break being aired alone names the entry, it leaves that too. -/
theorem Channel.returns_break {c : Channel} {b : BreakCtx} (split : c.split = none) (brk : c.brk = some b) (last : c.lastRing = none) (i : Fin 128)
    (result : Result) : c.returns i result = { c with ring := put c.ring i (returned (c.ring.get i) result), brk := some (b.without i) } := by
  unfold Channel.returns
  rw [split, brk, last]
  rfl

/-- The hold counts once item A of entry i has given back the hold that it may have. -/
def Desk.holdsWithout (d : Desk) (i : Fin 128) : Vector Nat 1024 :=
  let x := (d.entry i).itemA
  if x.held then put d.holds x.cart (d.holds.get x.cart - 1) else d.holds

namespace Desk

theorem holdsWithout_held {d : Desk} {i : Fin 128} (held : (d.entry i).itemA.held = true) :
    d.holdsWithout i = put d.holds (d.entry i).itemA.cart (d.holds.get (d.entry i).itemA.cart - 1) := if_pos held

theorem holdsWithout_free {d : Desk} {i : Fin 128} (free : (d.entry i).itemA.held = false) : d.holdsWithout i = d.holds :=
  if_neg (by rw [free]; exact Bool.false_ne_true)

theorem setEntry_setEntry (d : Desk) (i : Fin 128) (x y : Entry) : (d.setEntry i x).setEntry i y = d.setEntry i y :=
  congrArg (fun ring => ({ d with ch := { d.ch with ring := ring } } : Desk)) (put_put _ _ _ _)

variable {d : Desk} (e : Env) {i : Fin 128} {result : Result}

/-- The item has its result, and its hold is given back. -/
theorem setResult_unhold (result : Result) : (d.setItem ⟨i, .a⟩ { d.item ⟨i, .a⟩ with result := result, provisional := false }).unhold ⟨i, .a⟩ =
    { d.setEntry i { d.entry i with itemA := { (d.entry i).itemA with result := result, provisional := false, held := false } } with
      holds := d.holdsWithout i } := by
  let t := d.setItem ⟨i, .a⟩ { d.item ⟨i, .a⟩ with result := result, provisional := false }
  have item : t.item ⟨i, .a⟩ = { (d.entry i).itemA with result := result, provisional := false } := d.item_setItem _ _
  cases held : (d.entry i).itemA.held with
  | true =>
    have now : (t.item ⟨i, .a⟩).held = true := by rw [item]; exact held
    rw [holdsWithout_held held]
    refine (t.unhold_held now).trans ?_
    rw [item]
    have entry : t.entry i = { d.entry i with itemA := { (d.entry i).itemA with result := result, provisional := false } } :=
      d.setEntry_entry i _
    have twice : t.setEntry i { t.entry i with itemA := { (d.entry i).itemA with result := result, provisional := false, held := false } } =
        d.setEntry i { d.entry i with itemA := { (d.entry i).itemA with result := result, provisional := false, held := false } } := by
      rw [entry]
      exact d.setEntry_setEntry i _ _
    exact congrArg (fun x : Desk => ({ x with holds := put d.holds (d.entry i).itemA.cart (d.holds.get (d.entry i).itemA.cart - 1) } : Desk)) twice
  | false =>
    have now : ¬ (t.item ⟨i, .a⟩).held = true := by
      rw [item]
      exact ne_of_eq_of_ne held Bool.false_ne_true
    rw [holdsWithout_free held]
    refine (if_neg now).trans ?_
    change d.setEntry i { d.entry i with itemA := { (d.entry i).itemA with result := result, provisional := false } } = _
    rw [← held]
    rfl

/-- R43: the one item of entry i receives its final result. -/
theorem settle_one (single : (d.entry i).itemB.cart = 0) (final : result ≠ .none) (number : BreakNo) (position : FrameNo) (underruns : Nat) :
    d.settle e ⟨i, .a⟩ result (some (number, position, underruns)) =
      { ch := d.ch.returns i result
        holds := d.holdsWithout i
        out := d.out ++ [e.ringItem position number i (d.entry i).itemA result underruns] } := by
  let x : Entry := { d.entry i with itemA := { (d.entry i).itemA with result := result, provisional := false, held := false } }
  let t : Desk :=
    { ch := { d.ch with ring := put d.ch.ring i x, split := d.ch.split.map (Split.without ⟨i, .a⟩) }
      holds := d.holdsWithout i
      out := d.out ++ [e.ringItem position number i (d.entry i).itemA result underruns] }
  have entry : t.entry i = x := get_put_same _ _ _
  have all : (t.entry i).allFinal = true := by
    rw [entry]
    simp [Entry.allFinal, Item.present, Item.final, x, single, final]
  have settled : d.settle e ⟨i, .a⟩ result (some (number, position, underruns)) = if (t.entry i).allFinal then t.returnEntry i else t := by
    unfold settle
    dsimp only
    rw [setResult_unhold]
    rfl
  rw [settled, if_pos all]
  unfold returnEntry
  rw [entry]
  change ({ ch := { t.ch with ring := put (put d.ch.ring i x) i { x with owner := .loader }, brk := _, lastRing := _ }, holds := _, out := _ } : Desk) = _
  rw [put_put]
  rfl

/-! ### The claim -/

/-- R51: a granted claim for item A of an entry. -/
theorem claim_granted {cart : Fin 1024} (item : (d.entry i).itemA.cart = cart) (granted : grantable e.catalog d.holds cart = true) :
    d.claim e ⟨i, .a⟩ = { d.setEntry i { d.entry i with itemA := { (d.entry i).itemA with held := true } } with
      holds := put d.holds cart (d.holds.get cart + 1) } := by
  subst item
  exact if_pos granted

/-! ### A break of one entry -/

/-- R28: a break of one entry at the head. -/
theorem gather_one (e : Env) (owner : d.headEntry.owner = .channel) (first : d.headEntry.first = true) (last : d.headEntry.last = true) :
    d.gather e = some (d.headEntry.breakNo, [d.ch.head], { d with ch := { d.ch with head := d.headEntry.successor d.ch.head } }) := by
  have starts : d.headEntry.startsBreak = true := by
    unfold Entry.startsBreak
    rw [owner, first]
    rfl
  have walks : walk d.ch.ring Config.breakLimit [] d.ch.head =
      { entries := [d.ch.head], head := d.headEntry.successor d.ch.head, gap := none } := if_pos last
  unfold gather
  rw [if_pos starts]
  dsimp only
  rw [walks]

theorem gather_none (e : Env) (start : d.headEntry.startsBreak = false) : d.gather e = none :=
  if_neg (by rw [start]; exact Bool.false_ne_true)

/-- The open item of an entry that holds item A alone, without a result. -/
theorem openItems_one (some' : (d.entry i).itemA.cart ≠ 0) (fresh : (d.entry i).itemA.result = .none) (single : (d.entry i).itemB.cart = 0) :
    d.openItems [i] = [⟨i, .a⟩] := by
  have refs : (d.entry i).refs i = [⟨i, .a⟩] := by
    unfold Entry.refs Item.present
    rw [decide_eq_true some', single]
    rfl
  have open' : decide ((d.item ⟨i, .a⟩).result = .none) = true := decide_eq_true fresh
  unfold openItems
  rw [List.flatMap_cons, List.flatMap_nil, List.append_nil, refs]
  exact List.filter_cons_of_pos open'

end Desk

end Sys2Proof.Machine

/-! The judging of an announce (O44). -/

namespace Sys2Proof.Machine

section
variable {s : State} {a : Address} {n : Fin 4} (one : s.reachesOnly a n) {b : BreakNo} {start length : FrameNo}
include one

theorem exec_splitAnnounce_bad (bad : length = 0 ∨ 2 ^ 31 ≤ length.toNat) : exec (.splitAnnounce a b start length) s = .next s.linkError := by
  have refused : ¬ announceLength length = true := by
    rw [announceLength_iff]
    rintro ⟨some', short⟩
    rcases bad with none | long
    · exact some' none
    · omega
  exact congrArg Host.Outcome.next ((if_neg refused).trans (if_neg (reachesOnly_outputs one)))

theorem exec_splitAnnounce (some' : length ≠ 0) (short : length.toNat < 2 ^ 31) : exec (.splitAnnounce a b start length) s =
    .next (s.onChannel n fun e d => d.judgeAnnounce e { breakNo := b, start := start, length := length }) :=
  congrArg Host.Outcome.next ((if_pos ((announceLength_iff length).mpr ⟨some', short⟩)).trans (onOutputs_only one _))

theorem exec_splitCancel (k : FrameNo) : exec (.splitCancel a b k) s = .next (s.onChannel n fun e d => d.judgeCancel e b k) :=
  congrArg Host.Outcome.next (onOutputs_only one _)

end

/-! ### Fresh cues (R71) -/

/-- R71 step 2: break number b is neither planned, nor aired, nor pending, nor the last taken. -/
def Channel.FreshCue (c : Channel) (b : BreakNo) : Prop :=
  (∀ p, c.plan = some p → p.breakNo ≠ b) ∧ (∀ x, c.split = some x → x.breakNo ≠ b) ∧
    (∀ x, c.pending = some x → x.breakNo ≠ b) ∧ c.lastTaken ≠ some b

/-- The start frame that an announce may still have at position p (R74). -/
def Announce.clip (a : Announce) (p : FrameNo) : FrameNo := if isBefore a.start (p + 8) then p + 8 else a.start

/-- R74: an announce as it is judged at position p, between its start frame there and its end. -/
def Announce.judged (a : Announce) (p : FrameNo) : Announce :=
  { a with start := a.clip p, length := a.start + a.length - a.clip p }

/-- R76: the record of an unplanned split. -/
def Env.splitUnplanned (e : Env) (a : Announce) (head : Fin 128) (policy : Policy) : Record :=
  { e.noted .splitUnplanned a.start with
    breakNo := some a.breakNo, ring := some (head, none), reason := some (.policy policy), frames := some a.length }

/-- R76: the plan without items of an unplanned split. -/
def Announce.plan (a : Announce) (primed : Bool) : Plan :=
  { breakNo := a.breakNo, start := a.start, stop := a.start + a.length, length := a.length, items := [], planned := 0,
    primed := primed, wantFill := false }

/-- R74: judging moves the start frame of an announce and leaves its end. -/
theorem Announce.judged_stop (a : Announce) (p : FrameNo) : (a.judged p).start + (a.judged p).length = a.start + a.length := by
  change a.clip p + (a.start + a.length - a.clip p) = _
  rw [BitVec.add_comm, BitVec.sub_add_cancel]

theorem Announce.judged_plan (a : Announce) (p : FrameNo) (primed : Bool) : (a.judged p).plan primed =
    { breakNo := a.breakNo, start := a.clip p, stop := a.start + a.length, length := a.start + a.length - a.clip p, items := [],
      planned := 0, primed := primed, wantFill := false } := by
  unfold Announce.plan
  rw [a.judged_stop p]
  rfl

namespace Desk

theorem any_number {α : Type} {number : α → BreakNo} {b : BreakNo} (o : Option α) :
    o.any (fun x => decide (number x = b)) = false ↔ ∀ x, o = some x → number x ≠ b := by
  cases o <;> simp

theorem repeats_iff (d : Desk) (b : BreakNo) : d.repeats b = false ↔ d.ch.FreshCue b := by
  have taken : d.ch.lastTaken.any (fun x => decide (x = b)) = false ↔ d.ch.lastTaken ≠ some b := by
    cases d.ch.lastTaken <;> simp
  unfold repeats Channel.FreshCue
  rw [Bool.or_eq_false_iff, Bool.or_eq_false_iff, Bool.or_eq_false_iff, any_number, any_number, any_number, taken, and_assoc, and_assoc]

variable {d : Desk} {e : Env} {a : Announce}

theorem judgeAnnounce_cue (serves : d.ch.state ≠ .bypass) (cue : d.ch.settings.source = .cue) : d.judgeAnnounce e a = d.judgeFresh e a :=
  (if_neg serves).trans (if_pos cue)

theorem judgeFresh_repeat (repeats : ¬ d.ch.FreshCue a.breakNo) : d.judgeFresh e a = d :=
  if_pos (Bool.not_eq_false _ ▸ mt (d.repeats_iff a.breakNo).mp repeats)

theorem judgeFresh_goes {d : Desk} (loc : d.ch.state ≠ .loc) (brk : d.ch.state ≠ .brk) (held : d.ch.held = none) :
    ¬ (decide (d.ch.state = .loc) || decide (d.ch.state = .brk) || d.ch.held.isSome) = true := by
  rw [decide_eq_false loc, decide_eq_false brk, held]
  exact Bool.false_ne_true

section
variable (fresh : d.ch.FreshCue a.breakNo)
include fresh

theorem not_repeats : ¬ d.repeats a.breakNo = true := by
  rw [(d.repeats_iff a.breakNo).mpr fresh]
  exact Bool.false_ne_true

theorem judgeFresh_state (busy : d.ch.state = .loc ∨ d.ch.state = .brk ∨ d.ch.held.isSome = true) :
    d.judgeFresh e a = d.cueIgnored e .cueState (some a.breakNo) (some a.start) := by
  refine (if_neg (not_repeats fresh)).trans (if_pos ?_)
  rcases busy with state | state | held
  · rw [state]; rfl
  · rw [state]; rfl
  · rw [held, Bool.or_true]

variable (loc : d.ch.state ≠ .loc) (brk : d.ch.state ≠ .brk) (held : d.ch.held = none)
include loc brk held

/-- R72, R73: an announce beside a plan or a split is kept where it begins at its end or later. -/
theorem judgeFresh_stop {stop : FrameNo} (stands : d.stopInHand = some stop) : d.judgeFresh e a =
    if (atOrAfter a.start stop && d.ch.pending.isNone) = true then { d with ch := { d.ch with pending := some a } }
    else d.cueIgnored e .cueConflict (some a.breakNo) (some a.start) := by
  refine (if_neg (not_repeats fresh)).trans ((if_neg (judgeFresh_goes loc brk held)).trans ?_)
  rw [stands]

theorem judgeFresh_timing (stands : d.stopInHand = none) : d.judgeFresh e a = d.judgeTiming e a := by
  refine (if_neg (not_repeats fresh)).trans ((if_neg (judgeFresh_goes loc brk held)).trans ?_)
  rw [stands]

end

theorem stopInHand_plan {p : Plan} (split : d.ch.split = none) (plan : d.ch.plan = some p) : d.stopInHand = some p.stop := by
  unfold stopInHand
  rw [split, plan]

theorem stopInHand_split {x : Split} (split : d.ch.split = some x) : d.stopInHand = some x.stop := by
  unfold stopInHand
  rw [split]

theorem stopInHand_none (split : d.ch.split = none) (plan : d.ch.plan = none) : d.stopInHand = none := by
  unfold stopInHand
  rw [split, plan]

/-! ### Lateness and length (R74) -/

theorem judgeTiming_late (late : isAfter (a.start + a.length) (e.pos + 8) = false) :
    d.judgeTiming e a = d.cueIgnored e .cueLate (some a.breakNo) (some a.start) :=
  if_pos (Bool.not_eq_true' _ ▸ late)

section
variable (soon : isAfter (a.start + a.length) (e.pos + 8) = true)
include soon

theorem not_late : ¬ (!isAfter (a.start + a.length) (e.pos + frames Config.primeLead)) = true := by
  change ¬ (!isAfter (a.start + a.length) (e.pos + 8)) = true
  rw [soon]
  exact Bool.false_ne_true

theorem judgeTiming_short (short : (a.judged e.pos).length.toNat < 2 * d.ch.settings.fade) :
    d.judgeTiming e a = d.cueIgnored e .cueShort (some a.breakNo) (some a.start) :=
  (if_neg (not_late soon)).trans (if_pos short)

theorem judgeTiming_matches (long : 2 * d.ch.settings.fade ≤ (a.judged e.pos).length.toNat) :
    d.judgeTiming e a = d.matchHead e (a.judged e.pos) 129 :=
  (if_neg (not_late soon)).trans (if_neg (Nat.not_lt.mpr long))

end

/-! ### The head (R75, R76) -/

/-- R75: the head is no break, or that of a later announce. -/
theorem matchHead_unplanned (fuel : Nat) (noBreak : d.headEntry.owner = .loader ∨ d.headEntry.first = false ∨
      (isBefore d.headEntry.breakNo a.breakNo = false ∧ d.headEntry.breakNo ≠ a.breakNo)) :
    d.matchHead e a (fuel + 1) = d.unplanned e a := by
  unfold matchHead
  by_cases starts : d.headEntry.startsBreak = true
  · have later : isBefore d.headEntry.breakNo a.breakNo = false ∧ d.headEntry.breakNo ≠ a.breakNo := by
      unfold Entry.startsBreak at starts
      rw [Bool.and_eq_true, decide_eq_true_eq] at starts
      rcases noBreak with owner | first | later
      · cases owner.symm.trans starts.1
      · cases first.symm.trans starts.2
      · exact later
    rw [if_pos starts, if_neg later.2, if_neg (by rw [later.1]; exact Bool.false_ne_true)]
  · rw [if_neg starts]

/-- R75: a missed break of one entry with one item is skipped, and the next head looked at. -/
theorem matchHead_skips (fuel : Nat) (owner : d.headEntry.owner = .channel) (first : d.headEntry.first = true)
    (last : d.headEntry.last = true) (missed : isBefore d.headEntry.breakNo a.breakNo = true) (other : d.headEntry.breakNo ≠ a.breakNo)
    (some' : d.headEntry.itemA.cart ≠ 0) (open' : d.headEntry.itemA.result = .none) (single : d.headEntry.itemB.cart = 0) :
    d.matchHead e a (fuel + 1) = matchHead e a fuel
      { ch := ({ d.ch with head := d.headEntry.successor d.ch.head } : Channel).returns d.ch.head .skipped
        holds := d.holdsWithout d.ch.head
        out := d.out ++ [e.ringItem e.pos d.headEntry.breakNo d.ch.head d.headEntry.itemA .skipped 0] } := by
  have starts : d.headEntry.startsBreak = true := by
    unfold Entry.startsBreak
    rw [owner, first]
    rfl
  let t : Desk := { d with ch := { d.ch with head := d.headEntry.successor d.ch.head } }
  have skipped : t.skipBreak e d.headEntry.breakNo [d.ch.head] =
      t.settle e ⟨d.ch.head, .a⟩ .skipped (some (d.headEntry.breakNo, e.pos, 0)) := by
    unfold skipBreak
    rw [openItems_one (d := t) (i := d.ch.head) some' open' single]
    rfl
  rw [matchHead, if_pos starts, if_neg other, if_pos missed, d.gather_one e owner first last]
  change matchHead e a fuel (t.skipBreak e d.headEntry.breakNo [d.ch.head]) = _
  rw [skipped, settle_one (d := t) e single (by decide)]
  rfl

theorem unplanned_passNetwork (policy : d.ch.settings.policy = .passNetwork) : d.unplanned e a =
    { d with
      ch := { d.ch with lastTaken := some a.breakNo }
      out := d.out ++ [e.splitUnplanned a d.ch.head d.ch.settings.policy] } := by
  unfold unplanned
  rw [policy]
  rfl

theorem unplanned_fill (policy : d.ch.settings.policy = .fill) : d.unplanned e a =
    ({ d with
      ch := { d.ch with plan := some (a.plan false) }
      out := d.out ++ [e.splitUnplanned a d.ch.head d.ch.settings.policy] } : Desk).planPrimes e := by
  unfold unplanned
  rw [policy]
  rfl

/-! ### Arming (R81) -/

theorem planPrimes_early {p : Plan} (plan : d.ch.plan = some p) (early : atOrAfter e.pos (p.start - 8) = false) : d.planPrimes e = d := by
  have not_yet : ¬ (!p.primed && atOrAfter e.pos (p.start - frames Config.primeLead)) = true := by
    change ¬ (!p.primed && atOrAfter e.pos (p.start - 8)) = true
    rw [early, Bool.and_false]
    exact Bool.false_ne_true
  unfold planPrimes
  rw [plan]
  exact if_neg not_yet

theorem planPrimes_due {p : Plan} (plan : d.ch.plan = some p) (unprimed : p.primed = false) (due : atOrAfter e.pos (p.start - 8) = true) :
    d.planPrimes e = d.primePlan e p := by
  unfold planPrimes
  rw [plan]
  exact if_pos (by rw [unprimed]; exact due)

/-- R81: an unprimed plan without items that padding fills calls for nothing. -/
theorem planPrimes_pad (plan : d.ch.plan = some (a.plan false)) (due : atOrAfter e.pos (a.start - 8) = true)
    (short : a.length.toNat ≤ d.ch.settings.pad) :
    d.planPrimes e = { d with ch := { d.ch with plan := some (a.plan true), fill := { d.ch.fill with wait := false } } } := by
  have want : ((a.plan false).noneIncluded && decide ((a.plan false).length.toNat > d.ch.settings.pad)) = false :=
    decide_eq_false (Nat.not_lt.mpr short)
  rw [planPrimes_due plan rfl due]
  unfold primePlan
  rw [want]
  rfl

end Desk

/-- Settles O44: the cue by the state of the channel, then by what it has in hand, then by the head of its ring. -/
theorem announceJudged : Obligations.AnnounceJudged := by
  unfold Obligations.AnnounceJudged
  intro s a n b start length one c cue stop early ignored fresh
  let w : Announce := { breakNo := b, start := start, length := length }
  refine ⟨fun bad => exec_splitAnnounce_bad one bad, fun some' short => ?_⟩
  have runs : exec cue s = .next (s.onChannel n fun e d => d.judgeAnnounce e w) := exec_splitAnnounce one some' short
  rw [runs]
  have ignores {reason : Reason} (h : (s.desk n).judgeAnnounce (s.env n) w = (s.desk n).cueIgnored (s.env n) reason (some b) (some start)) :
      Host.Outcome.next (s.onChannel n fun e d => d.judgeAnnounce e w) = (.next (ignored reason) : Host.Outcome State Fault Refusal) :=
    congrArg _ (State.onChannel_record (rule := fun e d => d.judgeAnnounce e w) h)
  have same (h : (s.desk n).judgeAnnounce (s.env n) w = s.desk n) : Host.Outcome.next (s.onChannel n fun e d => d.judgeAnnounce e w) =
      (.next s : Host.Outcome State Fault Refusal) := congrArg _ (s.onChannel_same n _ h)
  refine ⟨fun bypass => same (if_pos bypass), fun serves other => ignores ((if_neg serves).trans (if_neg other)), fun serves source => ?_⟩
  have judges : (s.desk n).judgeAnnounce (s.env n) w = (s.desk n).judgeFresh (s.env n) w := Desk.judgeAnnounce_cue serves source
  refine ⟨fun repeats => same (judges.trans (Desk.judgeFresh_repeat repeats)), fun fresh busy => ignores (judges.trans (Desk.judgeFresh_state fresh busy)),
    fun fresh held => ?_⟩
  have beside {stop : FrameNo} (loc : c.state ≠ .loc) (brk : c.state ≠ .brk) (hand : (s.desk n).stopInHand = some stop) :
      (atOrAfter start stop = true → c.pending = none →
        Host.Outcome.next (s.onChannel n fun e d => d.judgeAnnounce e w) =
          (.next (s.withChannel n { c with pending := some w }) : Host.Outcome State Fault Refusal)) ∧
      (atOrAfter start stop = false ∨ c.pending.isSome = true →
        Host.Outcome.next (s.onChannel n fun e d => d.judgeAnnounce e w) =
          (.next (ignored .cueConflict) : Host.Outcome State Fault Refusal)) := by
    have stands := judges.trans (Desk.judgeFresh_stop (d := s.desk n) (a := w) fresh loc brk held hand)
    refine ⟨fun after alone => ?_, fun conflict => ignores (stands.trans (if_neg ?_))⟩
    · refine congrArg Host.Outcome.next (State.onChannel_quiet (rule := fun e d => d.judgeAnnounce e w) (stands.trans (if_pos ?_)))
      exact Bool.and_eq_true_iff.mpr ⟨after, Option.isNone_iff_eq_none.mpr alone⟩
    · rw [Bool.and_eq_true]
      rintro ⟨after, alone⟩
      rcases conflict with before | taken
      · cases before.symm.trans after
      · have none : c.pending = none := Option.isNone_iff_eq_none.mp alone
        rw [none] at taken
        cases taken
  refine ⟨fun p state split plan => ?_, fun x state split => ?_, fun state split plan => ?_⟩
  · refine beside ?_ ?_ (Desk.stopInHand_plan (d := s.desk n) split plan)
    · rcases state with state | state <;> simp [state]
    · rcases state with state | state <;> simp [state]
  · refine beside ?_ ?_ (Desk.stopInHand_split (d := s.desk n) split)
    · simp [state]
    · simp [state]
  · intro clipped left unplanned noBreak
    have loc : c.state ≠ .loc := by rcases state with state | state <;> simp [state]
    have brk : c.state ≠ .brk := by rcases state with state | state <;> simp [state]
    have timed := judges.trans (Desk.judgeFresh_timing (d := s.desk n) (a := w) fresh loc brk held (Desk.stopInHand_none (d := s.desk n) split plan))
    have records {c' : Channel} {rs : List Record} (h : (s.desk n).judgeAnnounce (s.env n) w = { s.desk n with ch := c', out := rs }) :
        Host.Outcome.next (s.onChannel n fun e d => d.judgeAnnounce e w) =
          (.next { s.withChannel n c' with log := s.log.appendAll rs } : Host.Outcome State Fault Refusal) :=
      congrArg _ (State.onChannel_records (rule := fun e d => d.judgeAnnounce e w) h)
    have matched (soon : isAfter stop early = true) (long : 2 * c.settings.fade ≤ left.toNat) :=
      timed.trans (Desk.judgeTiming_matches soon long)
    refine ⟨fun late => ignores (timed.trans (Desk.judgeTiming_late late)), fun soon short => ignores (timed.trans (Desk.judgeTiming_short soon short)),
      fun soon long noBreak => ⟨fun policy => ?_, fun policy => ?_⟩,
      fun soon long policy => ?_⟩
    · exact records (rs := [unplanned c.head])
        ((matched soon long).trans ((Desk.matchHead_unplanned (d := s.desk n) (a := w.judged (s.env n).pos) 128 noBreak).trans (Desk.unplanned_passNetwork policy)))
    · have filled := (matched soon long).trans ((Desk.matchHead_unplanned (d := s.desk n) (a := w.judged (s.env n).pos) 128 noBreak).trans (Desk.unplanned_fill policy))
      intro armed
      have armed_eq (primed : Bool) : (w.judged (s.env n).pos).plan primed = armed primed := w.judged_plan _ primed
      refine ⟨fun early' => ?_, fun due padded => ?_⟩
      · refine records (rs := [unplanned c.head]) (filled.trans ?_)
        rw [Desk.planPrimes_early rfl early', armed_eq]
        rfl
      · refine records (rs := [unplanned c.head]) (filled.trans ?_)
        rw [Desk.planPrimes_pad rfl due padded, armed_eq true]
        rfl
    · intro x owner first last missed some' open' free single noBrk noLast hub
      have other : x.breakNo ≠ b := by
        intro same
        rw [same] at missed
        simp [isBefore, isAfter] at missed
      have next : c.head ≠ x.successor c.head := by
        intro same
        rw [← same] at hub
        cases owner.symm.trans hub
      have freed : returned x .skipped =
          { x with owner := .loader, itemA := { x.itemA with result := .skipped, provisional := false } } := returned_free free _
      let skipped : Channel := { c with head := x.successor c.head, ring := put c.ring c.head (returned x .skipped) }
      have alone : ({ c with head := x.successor c.head } : Channel).returns c.head .skipped = skipped :=
        Channel.returns_alone (c := { c with head := x.successor c.head }) split noBrk noLast _ _
      have away : skipped.ring.get skipped.head = c.ring.get (x.successor c.head) := get_put_other _ _ _ _ next
      have skips := (matched soon long).trans (Desk.matchHead_skips 128 owner first last missed other some' open' single)
      rw [show ({ (s.desk n).ch with head := (s.desk n).headEntry.successor (s.desk n).ch.head } : Channel).returns (s.desk n).ch.head .skipped =
        skipped from alone, Desk.holdsWithout_free (d := s.desk n) (i := (s.desk n).ch.head) free, Desk.matchHead_unplanned 127 (.inl ?_),
        Desk.unplanned_passNetwork policy] at skips
      · refine (records (rs := [_, unplanned (x.successor c.head)]) skips).trans ?_
        rw [← freed]
        rfl
      · exact (congrArg Entry.owner away).trans hub

end Sys2Proof.Machine

/-! Items given up before they sound, and the judging of a cancel (O46). -/

namespace Sys2Proof.Machine

namespace Desk

/-! ### The one item of an entry ends (R43, R183) -/

section
variable {d : Desk} (e : Env) {id : DeckId} {i : Fin 128} {result : Result}

/-- The break number that the record of an item of entry i carries (R44). -/
def numberFor (d : Desk) (i : Fin 128) : BreakNo := d.breakNumber.getD (d.entry i).breakNo

/-- The desk once the one item of entry i has its result, recorded at a position. -/
def resulted (d : Desk) (i : Fin 128) (result : Result) (position : FrameNo) (underruns : Nat) : Desk :=
  { ch := d.ch.returns i result
    holds := d.holdsWithout i
    out := d.out ++ [e.ringItem position (d.numberFor i) i (d.entry i).itemA result underruns] }

theorem finishUnsounded_one (single : (d.entry i).itemB.cart = 0) (final : result ≠ .none) :
    d.finishUnsounded e result ⟨i, .a⟩ = resulted e d i result e.pos 0 := settle_one e single final _ _ _

/-- An item on a deck ends, and the deck becomes IDLE. -/
theorem endDeck_ring (item : (d.deck id).item = some (.ring ⟨i, .a⟩)) (single : (d.entry i).itemB.cart = 0) (final : result ≠ .none) :
    d.endDeck e id result =
      (resulted e d i result (if (d.deck id).sounding = true then (d.entry i).start.getD e.pos else e.pos) (d.deck id).underruns).setDeck id
        (freedDeck (d.deck id)) := by
  have settled : d.finishOnDeck e (d.deck id) result ⟨i, .a⟩ =
      resulted e d i result (if (d.deck id).sounding = true then (d.entry i).start.getD e.pos else e.pos) (d.deck id).underruns :=
    settle_one e single final _ _ _
  unfold endDeck
  dsimp only
  rw [item]
  dsimp only
  rw [settled]
  cases id <;> rfl

/-- An item that has not begun to sound is cut on deck A. -/
theorem cutWaiting_deckA (item : d.ch.deckA.item = some (.ring ⟨i, .a⟩)) (waits : d.ch.deckA.waiting = true)
    (single : (d.entry i).itemB.cart = 0) (final : result ≠ .none) :
    d.cutWaiting e result [⟨i, .a⟩] = (resulted e d i result e.pos d.ch.deckA.underruns).setDeck .a (freedDeck d.ch.deckA) := by
  have quiet := waiting_not_sounding waits
  have own : (d.ch.deckA.ringItem == some ⟨i, .a⟩) = true := by rw [ringItem_of item]; exact beq_self_eq_true _
  have ends := endDeck_ring (id := .a) e item single final
  rw [show (d.deck .a).sounding = false from quiet] at ends
  exact (if_pos own).trans ((if_neg (by rw [quiet]; exact Bool.false_ne_true)).trans ends)

/-- An item that is on no deck is cut. -/
theorem cutWaiting_away (a : d.ch.deckA.ringItem ≠ some ⟨i, .a⟩) (b : d.ch.deckB.ringItem ≠ some ⟨i, .a⟩)
    (single : (d.entry i).itemB.cart = 0) (final : result ≠ .none) :
    d.cutWaiting e result [⟨i, .a⟩] = resulted e d i result e.pos 0 := by
  have notA : ¬ (d.ch.deckA.ringItem == some ⟨i, .a⟩) = true := by simpa using a
  have notB : ¬ (d.ch.deckB.ringItem == some ⟨i, .a⟩) = true := by simpa using b
  exact (if_neg notA).trans ((if_neg notB).trans (finishUnsounded_one e single final))

end

/-! ### The target of a cancel (R91) -/

theorem filter_number_none {α : Type} {number : α → BreakNo} {b : BreakNo} {o : Option α} (other : ∀ x, o = some x → number x ≠ b) :
    o.filter (fun x => decide (number x = b)) = none := by
  cases o with
  | none => rfl
  | some x => exact if_neg (decide_eq_true_iff.not.mpr (other x rfl))

theorem filter_number_some {α : Type} {number : α → BreakNo} {b : BreakNo} {o : Option α} {x : α} (some' : o = some x) (own : number x = b) :
    o.filter (fun x => decide (number x = b)) = some x := by
  rw [some']
  exact if_pos (decide_eq_true own)

variable {d : Desk} {e : Env} {b : BreakNo} {k : FrameNo}

section
variable (serves : d.ch.state ≠ .bypass)
include serves

theorem judgeCancel_plan {p : Plan} (plan : d.ch.plan = some p) (own : p.breakNo = b) : d.judgeCancel e b k = d.cancelPlan e p k := by
  unfold judgeCancel
  rw [if_neg serves, filter_number_some plan own]

variable (noPlan : ∀ p, d.ch.plan = some p → p.breakNo ≠ b)
include noPlan

theorem judgeCancel_split {x : Split} (split : d.ch.split = some x) (own : x.breakNo = b) : d.judgeCancel e b k = d.cancelSplit e x k := by
  unfold judgeCancel
  rw [if_neg serves, filter_number_none noPlan, filter_number_some split own]

variable (noSplit : ∀ x, d.ch.split = some x → x.breakNo ≠ b)
include noSplit

theorem judgeCancel_pending {a : Announce} (pending : d.ch.pending = some a) (own : a.breakNo = b) :
    d.judgeCancel e b k = ({ d with ch := { d.ch with pending := none } } : Desk).splitCancelled e b k := by
  unfold judgeCancel
  rw [if_neg serves, filter_number_none noPlan, filter_number_none noSplit, filter_number_some pending own]

theorem judgeCancel_none (noPending : ∀ a, d.ch.pending = some a → a.breakNo ≠ b) :
    d.judgeCancel e b k = d.cueIgnored e .cueState (some b) (some k) := by
  unfold judgeCancel
  rw [if_neg serves, filter_number_none noPlan, filter_number_none noSplit, filter_number_none noPending]

end

/-! ### A cancel of the split being aired (R94) -/

/-- R94: the rejoin frame of a cancel. -/
def rejoinAt (e : Env) (d : Desk) (k : FrameNo) : FrameNo :=
  let soonest := e.next + BitVec.ofNat 32 d.ch.settings.fade
  if isAfter k soonest then k else soonest

theorem earlier_iff (x : Split) (rejoin : FrameNo) :
    (match x.rejoin with | none => true | some r => isBefore rejoin r) = true ↔ ∀ r, x.rejoin = some r → isBefore rejoin r = true := by
  cases x.rejoin <;> simp

theorem cancelSplit_moves {x : Split} (airs : x.phase ≠ .closing) (before : atOrAfter (d.rejoinAt e k) x.stop = false)
    (earlier : ∀ r, x.rejoin = some r → isBefore (d.rejoinAt e k) r = true) :
    d.cancelSplit e x k = { d with ch := { d.ch with split := some { x with
      rejoin := some (d.rejoinAt e k), fadeStart := d.rejoinAt e k - BitVec.ofNat 32 d.ch.settings.fade } } } := by
  have may := Bool.and_eq_true_iff.mpr ⟨(earlier_iff x (d.rejoinAt e k)).mpr earlier, decide_eq_true airs⟩
  have not_after : ¬ atOrAfter (d.rejoinAt e k) x.stop = true := ne_of_eq_of_ne before Bool.false_ne_true
  exact (if_neg not_after).trans (if_pos may)

theorem cancelSplit_stays {x : Split} (late : atOrAfter (d.rejoinAt e k) x.stop = true ∨ x.phase = .closing ∨
      ¬ ∀ r, x.rejoin = some r → isBefore (d.rejoinAt e k) r = true) : d.cancelSplit e x k = d := by
  by_cases after : atOrAfter (d.rejoinAt e k) x.stop = true
  · exact if_pos after
  · refine (if_neg after).trans (if_neg ?_)
    intro may
    obtain ⟨earlier, airs⟩ := Bool.and_eq_true_iff.mp may
    rcases late with late | closing | late
    · exact after late
    · exact of_decide_eq_true airs closing
    · exact late ((earlier_iff x (d.rejoinAt e k)).mp earlier)

/-! ### A cancel of the armed plan (R92) -/

/-- R92: a plan of one included item dropped. -/
theorem cancelPlan_one {p : Plan} {x : PlanItem} {deck : Deck} {m : Nat} (plan : d.ch.plan = some p) (items : p.items = [x]) (included : x.inclusion = .included)
    (part : x.ref.part = .a) (single : (d.entry x.ref.index).itemB.cart = 0) (split : d.ch.split = none) (brk : d.ch.brk = none)
    (last : d.ch.lastRing = none) (noneB : d.ch.deckB.item = none)
    (lies : (d.ch.deckA.item = some (.ring x.ref) ∧ d.ch.deckA.waiting = true ∧ deck = freedDeck d.ch.deckA ∧ m = d.ch.deckA.underruns) ∨
      (d.ch.deckA.item = none ∧ deck = d.ch.deckA ∧ m = 0)) :
    d.cancelPlan e p k = (processPending e
      { ch := { d.ch with
          plan := none, lastTaken := some p.breakNo, deckA := deck
          ring := put d.ch.ring x.ref.index (returned (d.entry x.ref.index) .cancelled) }
        holds := d.holdsWithout x.ref.index
        out := d.out ++ [e.ringItem e.pos p.breakNo x.ref.index (d.entry x.ref.index).itemA .cancelled m,
          { e.noted .splitCancelled e.pos with breakNo := some p.breakNo, detail := some k }] }).service e := by
  have ref : x.ref = ⟨x.ref.index, .a⟩ := by rw [← part]
  have filled : d.emptyPlan = false := by
    unfold emptyPlan
    rw [plan]
    simp [Plan.noneIncluded, items, included]
  have number : d.numberFor x.ref.index = p.breakNo := by
    unfold numberFor breakNumber
    rw [brk, split, plan]
    rfl
  have cut : d.cutWaiting e .cancelled [x.ref] =
      { ch := { d.ch with deckA := deck, ring := put d.ch.ring x.ref.index (returned (d.entry x.ref.index) .cancelled) }
        holds := d.holdsWithout x.ref.index
        out := d.out ++ [e.ringItem e.pos p.breakNo x.ref.index (d.entry x.ref.index).itemA .cancelled m] } := by
    have alone := Channel.returns_alone split brk last x.ref.index .cancelled
    rcases lies with ⟨item, waits, rfl, rfl⟩ | ⟨none, rfl, rfl⟩
    · rw [ref] at item
      have done := cutWaiting_deckA e item waits single (by decide : Result.cancelled ≠ .none)
      unfold resulted at done
      rw [alone, number, ← ref] at done
      exact done
    · have noA : d.ch.deckA.ringItem ≠ some ⟨x.ref.index, .a⟩ := by rw [ringItem_none none]; exact nofun
      have noB : d.ch.deckB.ringItem ≠ some ⟨x.ref.index, .a⟩ := by rw [ringItem_none noneB]; exact nofun
      have done := cutWaiting_away e noA noB single (by decide : Result.cancelled ≠ .none)
      unfold resulted at done
      rw [alone, number, ← ref] at done
      exact done
  unfold cancelPlan
  dsimp only
  rw [filled, Bool.and_false, if_neg Bool.false_ne_true, items, List.map_cons, List.map_nil, cut]
  unfold splitCancelled record
  rw [List.append_assoc]
  rfl

/-- R73: a pending announce taken out of its slot and judged. -/
theorem processPending_some {a : Announce} (pending : d.ch.pending = some a) :
    d.processPending e = ({ d with ch := { d.ch with pending := none } } : Desk).judgeFresh e a := by
  unfold processPending
  rw [pending]

theorem processPending_none (pending : d.ch.pending = none) : d.processPending e = d := by
  unfold processPending
  rw [pending]

/-- In PASS an armed plan that is not primed yet loads nothing. -/
theorem serviceAs_unprimed (e : Env) (opening : Bool) {p : Plan} (state : d.ch.state = .pass) (plan : d.ch.plan = some p)
    (unprimed : p.primed = false) : d.serviceAs opening e = d := by
  unfold serviceAs
  rw [state, plan]
  dsimp only
  rw [unprimed, if_neg Bool.false_ne_true]
  exact serviceFallback_other e d opening (by rw [state]; decide)

end Desk

/-- Settles O46: a cancel by what its number names, and after a dropped plan the pending announce as a fresh one. -/
theorem cancelJudged : Obligations.CancelJudged := by
  unfold Obligations.CancelJudged
  intro s a n b k one c cue
  have runs : exec cue s = .next (s.onChannel n fun e d => d.judgeCancel e b k) := exec_splitCancel one k
  rw [runs]
  have same (h : (s.desk n).judgeCancel (s.env n) b k = s.desk n) : Host.Outcome.next (s.onChannel n fun e d => d.judgeCancel e b k) =
      (.next s : Host.Outcome State Fault Refusal) := congrArg _ (s.onChannel_same n _ h)
  have quiet {c' : Channel} (h : (s.desk n).judgeCancel (s.env n) b k = { s.desk n with ch := c' }) :
      Host.Outcome.next (s.onChannel n fun e d => d.judgeCancel e b k) = (.next (s.withChannel n c') : Host.Outcome State Fault Refusal) :=
    congrArg _ (State.onChannel_quiet (rule := fun e d => d.judgeCancel e b k) h)
  refine ⟨fun bypass => same (if_pos bypass), fun serves noPlan => ⟨fun x split own airs => ?_, fun x split own closing => ?_, fun noSplit => ⟨?_, ?_⟩⟩, ?_⟩
  · intro soonest rejoin earlier
    have cancels : (s.desk n).judgeCancel (s.env n) b k = (s.desk n).cancelSplit (s.env n) x k := Desk.judgeCancel_split serves noPlan split own
    refine ⟨fun before sooner => quiet (cancels.trans (Desk.cancelSplit_moves airs before sooner)), fun late => same (cancels.trans (Desk.cancelSplit_stays ?_))⟩
    rcases late with after | later
    · exact .inl after
    · exact .inr (.inr later)
  · exact same ((Desk.judgeCancel_split serves noPlan split own).trans (Desk.cancelSplit_stays (.inr (.inl closing))))
  · intro w pending own
    exact congrArg Host.Outcome.next (State.onChannel_records (rule := fun e d => d.judgeCancel e b k)
      (rs := [{ sequence := 0, kind := .splitCancelled, position := s.time.position.getD 0, channel := some n, breakNo := some b, detail := some k }])
      (Desk.judgeCancel_pending serves noPlan noSplit pending own))
  · intro noPending
    exact congrArg Host.Outcome.next (State.onChannel_record (rule := fun e d => d.judgeCancel e b k)
      (Desk.judgeCancel_none serves noPlan noSplit noPending))
  · intro p x state plan own items included held split brk last noneB part single y cancelled dropped released settled holder deck m lies
    have serves : (s.desk n).ch.state ≠ .bypass := by rw [show (s.desk n).ch.state = .pass from state]; decide
    have cancels := (Desk.judgeCancel_plan (d := s.desk n) (e := s.env n) (k := k) serves plan own).trans
      (Desk.cancelPlan_one plan items included part single split brk last noneB lies)
    rw [own, Desk.holdsWithout_held (d := s.desk n) holder] at cancels
    let cut : Desk := { ch := dropped deck, holds := released.holds
                        out := [(s.env n).ringItem (s.env n).pos b x.ref.index y.itemA .cancelled m,
                          { (s.env n).noted .splitCancelled (s.env n).pos with breakNo := some b, detail := some k }] }
    have steps {t : Desk} (judged : c.pending = none ∧ t = cut ∨ ∃ w, c.pending = some w ∧ cut.judgeFresh (s.env n) w = t)
        (calm : t.service (s.env n) = t) : Host.Outcome.next (s.onChannel n fun e d => d.judgeCancel e b k) =
          (.next (s.putDesk n t) : Host.Outcome State Fault Refusal) := by
      have processed : (s.desk n).judgeCancel (s.env n) b k = t.service (s.env n) := by
        refine cancels.trans (congrArg (Desk.service (s.env n)) ?_)
        rcases judged with ⟨alone, rfl⟩ | ⟨w, pending, rfl⟩
        · refine (Desk.processPending_none alone).trans ?_
          exact congrArg (fun q => ({ cut with ch := { dropped deck with pending := q } } : Desk)) alone
        · exact Desk.processPending_some pending
      exact congrArg (fun d => Host.Outcome.next (s.putDesk n d)) (processed.trans calm)
    have calm : cut.service (s.env n) = cut := Desk.serviceAs_pass _ _ false state ⟨rfl, held⟩
    refine ⟨fun alone => steps (.inl ⟨alone, rfl⟩) calm, fun w pending => ?_⟩
    intro early stop start left
    refine ⟨fun again => steps (.inr ⟨w, pending, Desk.judgeFresh_repeat fun fresh => fresh.2.2.2 (congrArg some again.symm)⟩) calm,
      fun other => ?_⟩
    have fresh : cut.ch.FreshCue w.breakNo := by
      refine ⟨nofun, fun z airs => ?_, nofun, fun again => other (Option.some.inj again).symm⟩
      cases split.symm.trans airs
    have timed : cut.judgeFresh (s.env n) w = cut.judgeTiming (s.env n) w :=
      Desk.judgeFresh_timing fresh (by rw [show cut.ch.state = .pass from state]; decide) (by rw [show cut.ch.state = .pass from state]; decide)
        held (Desk.stopInHand_none split rfl)
    refine ⟨fun late => ?_, fun soon long policy hub early' => ?_⟩
    · let ignored := cut.cueIgnored (s.env n) .cueLate (some w.breakNo) (some w.start)
      have calm : ignored.service (s.env n) = ignored := Desk.serviceAs_pass _ _ false state ⟨rfl, held⟩
      exact steps (t := ignored) (.inr ⟨w, pending, timed.trans (Desk.judgeTiming_late late)⟩) calm
    · have noBreak : cut.headEntry.owner = .loader := by
        change ((put c.ring x.ref.index (returned y .cancelled)).get c.head).owner = .loader
        rw [get_put]
        split
        · rfl
        · exact hub
      have armed := timed.trans ((Desk.judgeTiming_matches (d := cut) (a := w) (e := s.env n) soon long).trans ((Desk.matchHead_unplanned (d := cut) 128 (.inl noBreak)).trans
        (Desk.unplanned_fill policy)))
      have policy' : cut.ch.settings.policy = .fill := policy
      rw [w.judged_plan, Desk.planPrimes_early rfl early'] at armed
      let plan' : Plan := { breakNo := w.breakNo, start := start, stop := stop, length := left, items := [], planned := 0
                            primed := false, wantFill := false }
      let record : Record := { sequence := 0, kind := .splitUnplanned, position := start, channel := some n, breakNo := some w.breakNo
                               ring := some (c.head, none), reason := some (.policy .fill), frames := some left }
      let t : Desk := { cut with ch := { dropped deck with plan := some plan' }, out := cut.out ++ [record] }
      have is : cut.judgeFresh (s.env n) w = t := by
        rw [armed, policy']
        rfl
      have calm : t.service (s.env n) = t := Desk.serviceAs_unprimed (d := t) (p := plan') _ false state rfl rfl
      refine (steps (t := t) (.inr ⟨w, pending, is⟩) calm).trans ?_
      exact congrArg (fun v => Host.Outcome.next { s.putDesk n t with channels := v }) (put_put s.channels n (dropped deck) t.ch).symm

end Sys2Proof.Machine

/-! A deck given to an insert item (R53), and a plan of one included item armed and primed (O45). -/

namespace Sys2Proof.Machine

/-! ### A deck given to an insert item (R53) -/

section
variable {c y : Channel} {holds after : Vector Nat 1024} {id : DeckId}

/-- A deck given changes the deck and the fill cursor alone. -/
theorem Channel.givesDeck_eq (gives : c.givesDeck holds id y after) :
    y = ({ c with fill := { c.fill with cursor := y.fill.cursor } } : Channel).setDeck id (y.deck id) := by
  obtain ⟨_, ⟨_, _, _, rfl, _⟩ | ⟨slot, _, _, _, _, rfl⟩⟩ := gives
  · cases id <;> rfl
  · cases id <;> rfl

/-- What loading an item onto the given deck keeps of it is what the deck had before. -/
theorem Channel.givesDeck_loaded (gives : c.givesDeck holds id y after) (item : DeckItem) (cart : Fin 1024) (r : Run) (z : CartLength) (order : Nat) :
    loadedDeck (y.deck id) item cart r z order = loadedDeck (c.deck id) item cart r z order := by
  obtain ⟨_, ⟨_, _, _, rfl, _⟩ | ⟨slot, _, _, _, _, rfl⟩⟩ := gives
  · rfl
  · cases id <;> rfl

/-- No ring item is on a deck of a channel that gives one. -/
theorem Channel.givesDeck_ringItem (gives : c.givesDeck holds id y after) : c.deckA.ringItem = none ∧ c.deckB.ringItem = none := by
  obtain ⟨other, own⟩ := gives
  have empty : (c.deck id).ringItem = none := by
    rcases own with ⟨_, none, _⟩ | ⟨slot, fill, _⟩
    · exact Desk.ringItem_none none
    · exact Desk.ringItem_fill fill
  cases id
  · exact ⟨empty, other⟩
  · exact ⟨other, empty⟩

namespace Desk

theorem giveUp_eq {t : Desk} {slot : Fin 16} (item : (t.deck id).item = some (.fill slot)) (split : t.ch.split = none) :
    t.giveUp id = { t with
      holds := put t.holds (t.deck id).cart (t.holds.get (t.deck id).cart - 1)
      ch := ({ t.ch with fill := { t.ch.fill with cursor := if (t.deck id).rangeMark = true then t.ch.fill.cursor else slot } } : Channel).setDeck id
        (freedDeck (t.deck id)) } := by
  rw [t.giveUp_fill item]
  by_cases mark : (t.deck id).rangeMark = true
  · rw [if_pos mark, if_pos mark]
    cases id <;> rfl
  · rw [if_neg mark, if_neg mark, split, Option.map_none, ite_self, ← split]
    cases id <;> rfl

/-- The desk with its deck given. -/
def gave (t : Desk) (id : DeckId) (y : Channel) (after : Vector Nat 1024) : Desk :=
  { t with holds := after, ch := ({ t.ch with fill := { t.ch.fill with cursor := y.fill.cursor } } : Channel).setDeck id (y.deck id) }

theorem takeDeck_gives (gives : c.givesDeck holds id y after) {t : Desk} (a : t.ch.deckA = c.deckA) (b : t.ch.deckB = c.deckB)
    (cursor : t.ch.fill.cursor = c.fill.cursor) (split : t.ch.split = none) (counts : t.holds = holds) :
    t.takeDeck = some (id, t.gave id y after) := by
  have decks (j : DeckId) : t.deck j = c.deck j := by
    cases j
    · exact a
    · exact b
  obtain ⟨_, ⟨idle, _, first, rfl, rfl⟩ | ⟨slot, item, waits, sounds, rfl, rfl⟩⟩ := gives
  · have given : t.idleDeck = some id := by
      cases id
      · exact if_pos ((congrArg Deck.state a).trans idle)
      · exact (if_neg (by rw [a]; exact first rfl)).trans (if_pos ((congrArg Deck.state b).trans idle))
    have same : t.gave id y t.holds = t := by
      unfold gave
      rw [← cursor, ← decks id]
      cases id <;> rfl
    rw [← counts, same]
    unfold takeDeck
    rw [given]
  · have notIdle (j : DeckId) : (t.deck j).state ≠ .idle := by
      by_cases own : j = id
      · rw [own, decks]
        exact waiting_not_idle waits
      · have other : j = otherDeck id := by
          cases j <;> cases id
          · exact absurd rfl own
          · rfl
          · rfl
          · exact absurd rfl own
        rw [other, decks]
        exact sounding_not_idle sounds
    have candidate : t.candidateDeck = some id := by
      have own : (t.deck id).candidate = true := by
        rw [decks]
        exact candidate_of item waits
      have other : (t.deck (otherDeck id)).candidate = false := by
        rw [decks]
        exact not_candidate (sounding_not_waiting sounds)
      unfold candidateDeck
      cases id
      · exact if_pos own
      · exact (if_neg (ne_of_eq_of_ne other Bool.false_ne_true)).trans (if_pos own)
    unfold takeDeck
    rw [t.idleDeck_none (notIdle .a) (notIdle .b), candidate]
    dsimp only
    rw [decks, if_pos sounds, giveUp_eq ((congrArg Deck.item (decks id)).trans item) split, decks id, counts, cursor]
    cases id <;> rfl

/-- R177: an insert item loaded onto a deck. -/
theorem load_named (t : Desk) (e : Env) {cart : Fin 1024} {r : Run} {z : CartLength} (run : (e.catalog.get cart).run = some r)
    (size : (e.catalog.get cart).size = some z) (item : DeckItem) : t.load e id item cart .named =
      { t with ch := ({ t.ch with stamp := t.ch.stamp + 1 } : Channel).setDeck id (loadedDeck (t.deck id) item cart r z t.ch.stamp) } := by
  have loaded : (t.deck id).loaded (e.catalog.get cart) item cart t.ch.stamp .named = loadedDeck (t.deck id) item cart r z t.ch.stamp :=
    loaded_eq (t.deck id) run size item cart t.ch.stamp .named
  unfold load
  rw [loaded]
  cases id <;> rfl

/-- The desk with an insert item loaded onto the given deck, as it was, in the next place of succession. -/
def gaveLoaded (t : Desk) (id : DeckId) (y : Channel) (after : Vector Nat 1024) (k : Deck) : Desk :=
  { t with
    holds := after
    ch := ({ t.ch with fill := { t.ch.fill with cursor := y.fill.cursor }, stamp := t.ch.stamp + 1 } : Channel).setDeck id k }

theorem gave_load (gives : c.givesDeck holds id y after) (t : Desk) (e : Env) {cart : Fin 1024} {r : Run} {z : CartLength}
    (run : (e.catalog.get cart).run = some r) (size : (e.catalog.get cart).size = some z) (item : DeckItem) :
    (t.gave id y after).load e id item cart .named = t.gaveLoaded id y after (loadedDeck (c.deck id) item cart r z t.ch.stamp) := by
  rw [load_named _ e run size item, ← Channel.givesDeck_loaded gives]
  cases id <;> rfl

theorem gaveLoaded_onDeck (t : Desk) {k : Deck} {r : ItemRef} (item : k.item = some (.ring r)) : (t.gaveLoaded id y after k).onDeck r = true := by
  have own : (k.ringItem == some r) = true := by
    rw [ringItem_of item]
    exact beq_self_eq_true _
  unfold onDeck gaveLoaded Channel.setDeck
  cases id
  · exact Bool.or_eq_true_iff.mpr (.inl own)
  · exact Bool.or_eq_true_iff.mpr (.inr own)

theorem onDeck_empty {t : Desk} (a : t.ch.deckA.ringItem = none) (b : t.ch.deckB.ringItem = none) (r : ItemRef) : t.onDeck r = false := by
  unfold onDeck
  rw [a, b]
  rfl

/-! ### One planned item (R81) -/

theorem nextPlanned_one {t : Desk} {x : PlanItem} (included : x.inclusion = .included) (fresh : (t.item x.ref).result = .none) (away : t.onDeck x.ref = false) :
    t.nextPlanned [x] = some x := by
  refine List.find?_cons_of_pos ?_
  rw [decide_eq_true included, decide_eq_true fresh, away]
  rfl

theorem nextPlanned_loaded {t : Desk} {x : PlanItem} (on : t.onDeck x.ref = true) : t.nextPlanned [x] = none := by
  refine (List.find?_cons_of_neg ?_).trans rfl
  rw [on]
  simp

/-- R53, R81: the one item of a list is loaded onto the deck that is given. -/
theorem loadPlannedAll_one (gives : c.givesDeck holds id y after) {t : Desk} {e : Env} (a : t.ch.deckA = c.deckA) (b : t.ch.deckB = c.deckB)
    (cursor : t.ch.fill.cursor = c.fill.cursor) (split : t.ch.split = none) (counts : t.holds = holds) {x : PlanItem}
    (included : x.inclusion = .included) (fresh : (t.item x.ref).result = .none) {r : Run} {z : CartLength}
    (run : (e.catalog.get x.cart).run = some r) (size : (e.catalog.get x.cart).size = some z) :
    t.loadPlannedAll e [x] = t.gaveLoaded id y after (loadedDeck (c.deck id) (.ring x.ref) x.cart r z t.ch.stamp) := by
  obtain ⟨noA, noB⟩ := Channel.givesDeck_ringItem gives
  have away : t.onDeck x.ref = false := onDeck_empty (by rw [a]; exact noA) (by rw [b]; exact noB) _
  have first : t.loadPlanned e [x] = t.gaveLoaded id y after (loadedDeck (c.deck id) (.ring x.ref) x.cart r z t.ch.stamp) := by
    unfold loadPlanned
    rw [nextPlanned_one included fresh away, takeDeck_gives gives a b cursor split counts]
    exact gave_load gives t e run size _
  unfold loadPlannedAll
  rw [first]
  unfold loadPlanned
  rw [nextPlanned_loaded (gaveLoaded_onDeck t rfl)]

/-- R81: the priming of a plan of one included item. -/
theorem primePlan_one (gives : c.givesDeck holds id y after) {t : Desk} {e : Env} {p : Plan} (a : t.ch.deckA = c.deckA) (b : t.ch.deckB = c.deckB)
    (cursor : t.ch.fill.cursor = c.fill.cursor) (split : t.ch.split = none) (counts : t.holds = holds) {x : PlanItem} (items : p.items = [x])
    (included : x.inclusion = .included) (fresh : (t.item x.ref).result = .none) {r : Run} {z : CartLength}
    (run : (e.catalog.get x.cart).run = some r) (size : (e.catalog.get x.cart).size = some z) :
    t.primePlan e p = gaveLoaded { t with ch := { t.ch with
      plan := some { p with primed := true, wantFill := false }, fill := { t.ch.fill with wait := false } } } id y after
        (loadedDeck (c.deck id) (.ring x.ref) x.cart r z t.ch.stamp) := by
  have filled : p.noneIncluded = false := by simp [Plan.noneIncluded, items, included]
  let primed : Desk := { t with ch := { t.ch with
    plan := some { p with primed := true, wantFill := false }, fill := { t.ch.fill with wait := false } } }
  have own : ¬ primed.emptyPlan = true := ne_of_eq_of_ne filled Bool.false_ne_true
  have serves : primed.servicePlan e { p with primed := true, wantFill := false } = primed.loadPlannedAll e [x] := by
    unfold servicePlan
    rw [if_neg own, items]
  unfold primePlan
  rw [filled, Bool.false_and]
  exact serves.trans (loadPlannedAll_one gives (t := primed) a b cursor split counts included fresh run size)

/-! ### A plan of one item that fits (R77 to R80) -/

/-- R77 to R80: the break of one entry at the head with one item, which is READY and fits, is armed. -/
theorem planBreak_one {t : Desk} {e : Env} {a : Announce} {i : Fin 128} {z : CartLength} (some' : (t.entry i).itemA.cart ≠ 0)
    (fresh : (t.entry i).itemA.result = .none) (single : (t.entry i).itemB.cart = 0)
    (granted : grantable e.catalog t.holds (t.entry i).itemA.cart = true) (size : (e.catalog.get (t.entry i).itemA.cart).size = some z)
    (fits : z.length ≤ a.length.toNat) :
    t.planBreak e a [i] = ({ t with
      ch := { t.ch with
        ring := put t.ch.ring i { t.entry i with itemA := { (t.entry i).itemA with held := true } }
        plan := some { breakNo := a.breakNo, start := a.start, stop := a.start + a.length, length := a.length
                       items := [{ ref := ⟨i, .a⟩, cart := (t.entry i).itemA.cart, inclusion := .included, segue := .cut, offset := 0
                                   length := z.length, segueOut := z.segueOut }]
                       planned := z.length, primed := false, wantFill := false } }
      holds := put t.holds (t.entry i).itemA.cart (t.holds.get (t.entry i).itemA.cart + 1) } : Desk).planPrimes e := by
  let claimed : Desk := { t with
    ch := { t.ch with ring := put t.ch.ring i { t.entry i with itemA := { (t.entry i).itemA with held := true } } }
    holds := put t.holds (t.entry i).itemA.cart (t.holds.get (t.entry i).itemA.cart + 1) }
  let x : PlanItem := { ref := ⟨i, .a⟩, cart := (t.entry i).itemA.cart, inclusion := .included, segue := .cut, offset := 0
                        length := z.length, segueOut := z.segueOut }
  have claims : t.claim e ⟨i, .a⟩ = claimed := claim_granted e rfl granted
  have item : claimed.item ⟨i, .a⟩ = { (t.entry i).itemA with held := true } :=
    congrArg Entry.itemA (get_put_same t.ch.ring i { t.entry i with itemA := { (t.entry i).itemA with held := true } })
  have planned : claimed.planItem e ⟨i, .a⟩ = x := by
    unfold planItem
    rw [item]
    dsimp only
    rw [size]
    rfl
  have length : plannedLength claimed.ch.settings.fade [x] = z.length := Nat.zero_add _
  have fitted (own : ItemRef → Segue) (droppable : ItemRef → Bool) :
      fitPlan own droppable claimed.ch.settings.fade a.length.toNat 1 (place own none [x]) = [x] := by
    refine (if_neg ?_ : _ = place own none [x])
    change ¬ a.length.toNat < plannedLength claimed.ch.settings.fade [x]
    rw [length]
    exact Nat.not_lt.mpr fits
  unfold planBreak
  rw [openItems_one some' fresh single]
  simp only [List.foldl_cons, List.foldl_nil, List.map_cons, List.map_nil, List.length_singleton]
  rw [claims, planned, fitted, List.foldl_cons, List.foldl_nil, length]
  rfl

/-- R75: the break that the announce names stands at the head. -/
theorem matchHead_plans {d : Desk} {e : Env} {a : Announce} (fuel : Nat) (owner : d.headEntry.owner = .channel) (first : d.headEntry.first = true)
    (last : d.headEntry.last = true) (own : d.headEntry.breakNo = a.breakNo) : d.matchHead e a (fuel + 1) =
      ({ d with ch := { d.ch with head := d.headEntry.successor d.ch.head } } : Desk).planBreak e a [d.ch.head] := by
  have starts : d.headEntry.startsBreak = true := by
    unfold Entry.startsBreak
    rw [owner, first]
    rfl
  rw [matchHead, if_pos starts, if_pos own, d.gather_one e owner first last]

end Desk

end

theorem isAfter_asymm {a b : FrameNo} (after : isAfter a b = true) : isAfter b a = false := by
  unfold isAfter at after ⊢
  rw [Bool.and_eq_true, decide_eq_true_eq, decide_eq_true_eq] at after
  rw [Bool.and_eq_false_iff, decide_eq_false_iff_not, decide_eq_false_iff_not]
  bv_omega

theorem Announce.clip_start {a : Announce} {p : FrameNo} (after : isAfter a.start (p + 8) = true) : a.clip p = a.start :=
  if_neg (ne_of_eq_of_ne (isAfter_asymm after) Bool.false_ne_true)

theorem Announce.clip_early {a : Announce} {p : FrameNo} (early : a.start = p + 8 ∨ isBefore a.start (p + 8) = true) : a.clip p = p + 8 := by
  unfold Announce.clip
  split
  · rfl
  · rcases early with same | before
    · exact same
    · exact absurd before ‹_›

/-- Settles O45: the head break planned by `planBreak_one`, and primed at once where S - 8 has come. -/
theorem announcePlansTheHeadBreak : Obligations.AnnouncePlansTheHeadBreak := by
  unfold Obligations.AnnouncePlansTheHeadBreak
  intro s a n b start length z one c x k early stop some' short state source free split pending taken soon owner first last number cart fresh single
    ready room size plan planned
  let w : Announce := { breakNo := b, start := start, length := length }
  have granted : grantable s.store.catalog s.store.holds k = true := by
    unfold grantable
    rw [decide_eq_true ready, decide_eq_true room]
    rfl
  have serves : c.state ≠ .bypass := by simp [state]
  have freshCue : c.FreshCue w.breakNo := by
    refine ⟨fun p armed => ?_, fun z airs => ?_, fun z waits => ?_, taken⟩
    · cases free.1.symm.trans armed
    · cases split.symm.trans airs
    · cases pending.symm.trans waits
  have judged (long : 2 * c.settings.fade ≤ (w.judged (s.env n).pos).length.toNat) (fits : z.length ≤ (w.judged (s.env n).pos).length.toNat) :
      (s.desk n).judgeAnnounce (s.env n) w = Desk.planPrimes (s.env n)
        { ch := { c with
            head := x.successor c.head, plan := some (plan (w.clip (s.env n).pos) false)
            ring := put c.ring c.head { x with itemA := { x.itemA with held := true } } }
          holds := put s.store.holds k (s.store.holds.get k + 1)
          out := [] } := by
    have timed : (s.desk n).judgeFresh (s.env n) w = (s.desk n).judgeTiming (s.env n) w :=
      Desk.judgeFresh_timing (d := s.desk n) (a := w) freshCue (by simp [State.desk, c, state]) (by simp [State.desk, c, state]) free.2
        (Desk.stopInHand_none (d := s.desk n) split free.1)
    have matched := Desk.judgeTiming_matches (d := s.desk n) (e := s.env n) (a := w) soon long
    have found := Desk.matchHead_plans (d := s.desk n) (e := s.env n) (a := w.judged (s.env n).pos) 128 owner first last number
    have planned := Desk.planBreak_one (t := { s.desk n with ch := { c with head := x.successor c.head } }) (e := s.env n)
      (a := w.judged (s.env n).pos) (i := c.head) cart fresh single granted size fits
    have planned := (Desk.judgeAnnounce_cue (d := s.desk n) (e := s.env n) (a := w) serves source).trans
      (timed.trans (matched.trans (found.trans planned)))
    rw [Announce.judged_stop] at planned
    exact planned
  have runs {d : Desk} (h : (s.desk n).judgeAnnounce (s.env n) w = d) : exec (.splitAnnounce a b start length) s = .next (s.putDesk n d) :=
    (exec_splitAnnounce one some' short).trans (congrArg (fun d => Host.Outcome.next (s.putDesk n d)) h)
  refine ⟨fun after notDue long fits => ?_, fun r before long fits run idle none noRing => ?_⟩
  · have clip : w.clip (s.env n).pos = start := Announce.clip_start after
    have whole : (w.judged (s.env n).pos).length = length := by
      change start + length - w.clip (s.env n).pos = length
      rw [clip, BitVec.add_comm, BitVec.add_sub_cancel]
    have armed := judged (by rw [whole]; exact long) (by rw [whole]; exact fits)
    rw [clip, Desk.planPrimes_early rfl notDue] at armed
    exact runs armed
  · have clip : w.clip (s.env n).pos = early := Announce.clip_early before
    have rest : (w.judged (s.env n).pos).length = stop - early := congrArg (stop - ·) clip
    have armed := judged (by rw [rest]; exact long) (by rw [rest]; exact fits)
    have due : atOrAfter (s.env n).pos ((plan early false).start - 8) = true := by
      change atOrAfter (s.time.position.getD 0) (s.time.position.getD 0 + 8 - 8) = true
      rw [BitVec.add_sub_cancel]
      unfold atOrAfter
      rw [decide_eq_true rfl]
      rfl
    have gives : c.givesDeck (put s.store.holds k (s.store.holds.get k + 1)) .a c (put s.store.holds k (s.store.holds.get k + 1)) :=
      ⟨noRing, .inl ⟨idle, none, nofun, rfl, rfl⟩⟩
    rw [clip, Desk.planPrimes_due rfl rfl due, Desk.primePlan_one gives rfl rfl rfl split rfl rfl rfl ?_ run size] at armed
    · exact runs armed
    · exact (congrArg (·.itemA.result) (get_put_same c.ring c.head { x with itemA := { x.itemA with held := true } })).trans fresh

end Sys2Proof.Machine

/-! A free-length break of one entry with one playable item, begun by a trigger (R59). -/

namespace Sys2Proof.Machine

/-- The channel with a break begun at its head entry: the break gathered, its item on deck `id`, which was given as in y (R59). -/
def Channel.begins (c y : Channel) (id : DeckId) (r : Run) (z : CartLength) (fromPass : Bool) : Channel :=
  let x := c.ring.get c.head
  ({ y with
    state := .brk, head := x.successor c.head, fill := { y.fill with wait := false }, stamp := c.stamp + 1
    brk := some { breakNo := x.breakNo, entries := [c.head], start := none, ran := 0, guardPoint := none, closing := .none, fromPass := fromPass }
    ring := put c.ring c.head { x with itemA := { x.itemA with held := true } } } : Channel).setDeck id
      (loadedDeck (c.deck id) (.ring ⟨c.head, .a⟩) x.itemA.cart r z c.stamp)

/-- The head of the desk's channel is a break of one entry with one playable item, whose cart has run r and length z. -/
def Desk.HeadPlayable (e : Env) (d : Desk) (r : Run) (z : CartLength) : Prop :=
  d.headEntry.owner = .channel ∧ d.headEntry.first = true ∧ d.headEntry.last = true ∧ d.headEntry.itemA.cart ≠ 0 ∧
    d.headEntry.itemA.result = .none ∧ d.headEntry.itemB.cart = 0 ∧ (e.catalog.get d.headEntry.itemA.cart).state = .ready ∧
    d.holds.get d.headEntry.itemA.cart < 255 ∧ (e.catalog.get d.headEntry.itemA.cart).run = some r ∧
    (e.catalog.get d.headEntry.itemA.cart).size = some z

section
variable {c y : Channel} {holds after : Vector Nat 1024} {id : DeckId}

namespace Desk

theorem sounds_none {t : Desk} (a : t.ch.deckA.ringItem = none) (b : t.ch.deckB.ringItem = none) (r : ItemRef) : t.sounds r = false := by
  unfold sounds
  rw [a, b]
  simp

/-- R59 step 4: a break of one entry, whose one item has its hold, takes the deck that is given. -/
theorem airBreak_one (gives : c.givesDeck holds id y after) {t : Desk} {e : Env} (a : t.ch.deckA = c.deckA) (b : t.ch.deckB = c.deckB)
    (cursor : t.ch.fill.cursor = c.fill.cursor) (split : t.ch.split = none) (counts : t.holds = holds) {x : BreakCtx} {i : Fin 128}
    (entries : x.entries = [i]) (some' : (t.entry i).itemA.cart ≠ 0) (fresh : (t.entry i).itemA.result = .none)
    (single : (t.entry i).itemB.cart = 0) (held : (t.entry i).itemA.held = true) {r : Run} {z : CartLength}
    (run : (e.catalog.get (t.entry i).itemA.cart).run = some r) (size : (e.catalog.get (t.entry i).itemA.cart).size = some z) :
    t.airBreak e x = gaveLoaded { t with ch := { t.ch with brk := some x, state := .brk, fill := { t.ch.fill with wait := false } } } id y after
      (loadedDeck (c.deck id) (.ring ⟨i, .a⟩) (t.entry i).itemA.cart r z t.ch.stamp) := by
  let aired : Desk := { t with ch := { t.ch with brk := some x, state := .brk, fill := { t.ch.fill with wait := false } } }
  let loaded := gaveLoaded aired id y after (loadedDeck (c.deck id) (.ring ⟨i, .a⟩) (t.entry i).itemA.cart r z t.ch.stamp)
  obtain ⟨noA, noB⟩ := Channel.givesDeck_ringItem gives
  have awayA : aired.ch.deckA.ringItem = none := by rw [show aired.ch.deckA = c.deckA from a]; exact noA
  have awayB : aired.ch.deckB.ringItem = none := by rw [show aired.ch.deckB = c.deckB from b]; exact noB
  have items : aired.breakItems = [⟨i, .a⟩] := by
    change aired.openItems x.entries = _
    rw [entries]
    exact openItems_one some' fresh single
  have reached : aired.reachedItems = [] := by
    change (aired.breakItems.dropWhile aired.sounds).takeWhile _ = []
    rw [items, List.dropWhile_cons_of_neg (ne_of_eq_of_ne (sounds_none awayA awayB _) Bool.false_ne_true), List.takeWhile_cons_of_neg]
    rw [show (aired.item ⟨i, .a⟩).held = true from held]
    exact Bool.false_ne_true
  have next : aired.nextPlayable = some ⟨i, .a⟩ := by
    unfold nextPlayable
    rw [items]
    refine List.find?_cons_of_pos ?_
    rw [show (aired.item ⟨i, .a⟩).held = true from held, onDeck_empty awayA awayB]
    rfl
  have first : aired.loadBreakItem e = loaded := by
    unfold loadBreakItem
    rw [next, takeDeck_gives gives (t := aired) a b cursor split counts]
    have cart : ((aired.gave id y after).item ⟨i, .a⟩).cart = (t.entry i).itemA.cart := by cases id <;> rfl
    dsimp only
    rw [cart]
    exact gave_load gives aired e run size _
  have last : loaded.nextPlayable = none := by
    have same : loaded.breakItems = [⟨i, .a⟩] := by
      refine Eq.trans ?_ items
      cases id <;> rfl
    unfold nextPlayable
    rw [same]
    refine (List.find?_cons_of_neg ?_).trans rfl
    rw [gaveLoaded_onDeck aired rfl]
    simp
  have second : loaded.loadBreakItem e = loaded := by
    unfold loadBreakItem
    rw [last]
  unfold airBreak
  change ((aired.passReached e).serviceBreak e) = loaded
  rw [passReached_none e aired reached]
  unfold serviceBreak
  rw [first, second]

/-- R59: the playable break gathered at the head. -/
theorem claim_head {d : Desk} {e : Env} {r : Run} {z : CartLength} (playable : HeadPlayable e d r z) :
    ({ d with ch := { d.ch with head := d.headEntry.successor d.ch.head } } : Desk).claim e ⟨d.ch.head, .a⟩ = { d with
      ch := { d.ch with
        head := d.headEntry.successor d.ch.head
        ring := put d.ch.ring d.ch.head { d.headEntry with itemA := { d.headEntry.itemA with held := true } } }
      holds := put d.holds d.headEntry.itemA.cart (d.holds.get d.headEntry.itemA.cart + 1) } := by
  obtain ⟨_, _, _, _, _, _, ready, room, _, _⟩ := playable
  have granted : grantable e.catalog d.holds d.headEntry.itemA.cart = true := by
    unfold grantable
    rw [decide_eq_true ready, decide_eq_true room]
    rfl
  exact claim_granted (d := { d with ch := { d.ch with head := d.headEntry.successor d.ch.head } }) e rfl granted

/-- R59 steps 2 to 4 for a break with one open item, whose claim is granted. -/
theorem startBreak_held {t u : Desk} {e : Env} {number : BreakNo} {entries : List (Fin 128)} {r : ItemRef} (items : t.openItems entries = [r])
    (claims : t.claim e r = u) (held : (u.item r).held = true) : t.startBreak e number entries =
      (if u.ch.state = .fallback then u.record e (note .fallbackEnd e.pos) else u).airBreak e
        (newBreak number entries (decide (u.ch.state = .pass))) := by
  subst claims
  unfold startBreak
  rw [items]
  refine if_pos ?_
  simpa using held

/-- R59: a trigger in PASS or FALLBACK begins the playable break at the head. -/
theorem trigger_begins {d : Desk} {e : Env} {r : Run} {z : CartLength} (playable : HeadPlayable e d r z)
    (state : d.ch.state = .pass ∨ d.ch.state = .fallback) (free : d.ch.free) (split : d.ch.split = none)
    (gives : d.ch.givesDeck (put d.holds d.headEntry.itemA.cart (d.holds.get d.headEntry.itemA.cart + 1)) id y after) :
    d.trigger e =
      { ch := d.ch.begins y id r z (decide (d.ch.state = .pass))
        holds := after
        out := d.out ++ (if d.ch.state = .fallback then [e.noted .fallbackEnd e.pos] else []) } := by
  obtain ⟨owner, first, last, some', fresh, single, ready, room, run, size⟩ := playable
  let x := d.headEntry
  let marked : Entry := { x with itemA := { x.itemA with held := true } }
  let claimed : Desk := { d with
    ch := { d.ch with head := x.successor d.ch.head, ring := put d.ch.ring d.ch.head marked }
    holds := put d.holds x.itemA.cart (d.holds.get x.itemA.cart + 1) }
  let noted : Desk := { claimed with out := d.out ++ (if d.ch.state = .fallback then [e.noted .fallbackEnd e.pos] else []) }
  let b := newBreak x.breakNo [d.ch.head] (decide (d.ch.state = .pass))
  have entry : noted.entry d.ch.head = marked := get_put_same d.ch.ring d.ch.head marked
  have held : (claimed.item ⟨d.ch.head, .a⟩).held = true := congrArg (·.itemA.held) entry
  have uncommitted : ¬ d.committed = true := by
    unfold committed
    rw [free.1, free.2]
    exact Bool.false_ne_true
  have gathered : d.trigger e =
      ({ d with ch := { d.ch with head := x.successor d.ch.head } } : Desk).startBreak e x.breakNo [d.ch.head] := by
    unfold trigger
    rcases state with state | state
    all_goals
      rw [state]
      dsimp only
      rw [if_neg uncommitted, d.gather_one e owner first last]
  have claims := claim_head (d := d) (e := e) ⟨owner, first, last, some', fresh, single, ready, room, run, size⟩
  have records : (if claimed.ch.state = .fallback then claimed.record e (note .fallbackEnd e.pos) else claimed) = noted := by
    by_cases fallback : d.ch.state = .fallback
    · exact (if_pos fallback).trans (congrArg (fun out => ({ claimed with out := d.out ++ out } : Desk)) (if_pos fallback).symm)
    · refine (if_neg fallback).trans (Eq.trans ?_ (congrArg (fun out => ({ claimed with out := d.out ++ out } : Desk)) (if_neg fallback).symm))
      exact congrArg (fun out => ({ claimed with out := out } : Desk)) (List.append_nil d.out).symm
  have airs : noted.airBreak e b = gaveLoaded _ id y after _ :=
    airBreak_one gives (t := noted) rfl rfl rfl split rfl (x := b) (i := d.ch.head) rfl (by rw [entry]; exact some') (by rw [entry]; exact fresh)
      (by rw [entry]; exact single) (by rw [entry]) (by rw [entry]; exact run) (by rw [entry]; exact size)
  have started : ({ d with ch := { d.ch with head := x.successor d.ch.head } } : Desk).startBreak e x.breakNo [d.ch.head] = noted.airBreak e b := by
    rw [startBreak_held (openItems_one (d := { d with ch := { d.ch with head := x.successor d.ch.head } }) some' fresh single) claims held]
    exact congrArg (airBreak e b) records
  rw [gathered, started, airs, entry]
  unfold gaveLoaded Channel.begins
  rw [Channel.givesDeck_eq gives]
  cases id <;> rfl

end Desk

end

end Sys2Proof.Machine

/-! TAKE (O39). -/

namespace Sys2Proof.Machine

/-! ### The break that a trigger begins -/

/-- R59: a trigger on the state's channel n begins the playable break at its head. -/
theorem State.onChannel_begins {s : State} {n : Fin 4} {id : DeckId} {y : Channel} {after : Vector Nat 1024} {r : Run} {z : CartLength}
    (playable : s.headPlayable n r z) (state : (s.channels.get n).state = .pass ∨ (s.channels.get n).state = .fallback)
    (free : (s.channels.get n).free) (split : (s.channels.get n).split = none)
    (gives : (s.channels.get n).givesDeck (put s.store.holds ((s.channels.get n).ring.get (s.channels.get n).head).itemA.cart
      (s.store.holds.get ((s.channels.get n).ring.get (s.channels.get n).head).itemA.cart + 1)) id y after) :
    s.onChannel n (fun e d => d.trigger e) = s.headBreakBegun n id y after r z := by
  have begun : (s.desk n).trigger (s.env n) = _ := Desk.trigger_begins (d := s.desk n) (e := s.env n) playable state free split gives
  unfold State.onChannel
  dsimp only
  rw [begun]
  have log : s.log.appendAll ([] ++ (if (s.channels.get n).state = .fallback then [(s.env n).noted .fallbackEnd (s.env n).pos] else [])) =
      if (s.channels.get n).state = .fallback then
        s.log.append { sequence := 0, kind := .fallbackEnd, position := s.time.position.getD 0, channel := some n }
      else s.log := by
    by_cases fallback : (s.channels.get n).state = .fallback
    · rw [if_pos fallback, if_pos fallback]
      rfl
    · rw [if_neg fallback, if_neg fallback]
      rfl
  exact congrArg (fun log => ({ s with
    channels := put s.channels n ((s.channels.get n).begins y id r z (decide ((s.channels.get n).state = .pass)))
    store := { s.store with holds := after }
    log := log } : State)) log

theorem startsBreak_iff (x : Entry) : x.startsBreak = true ↔ x.owner = .channel ∧ x.first = true := by
  unfold Entry.startsBreak
  rw [Bool.and_eq_true, decide_eq_true_eq]

theorem committed_iff (d : Desk) : d.committed = true ↔ ¬ d.ch.free := by
  unfold Desk.committed Channel.free
  cases d.ch.plan <;> cases d.ch.held <;> simp

/-! ### TAKE by the state of the channel (R58) -/

section
variable {s : State} {a : Address} (reached : s.reached a) (tag : BitVec 16) {channel hard : Byte}
include reached

theorem exec_take (channel hard : Byte) : exec (.take a tag channel hard) s = .next ((field 4 channel.toNat).elim (s.answer tag 0x000C .badField) fun n =>
    if (s.channels.get n).settings.source = .command then
      match (s.channels.get n).state with
      | .bypass | .split | .loc => s.answer tag 0x000C .state
      | .brk => s.takeInBreak tag n hard
      | .pass | .fallback =>
        if (s.desk n).committed then s.answer tag 0x000C .busy
        else if (s.desk n).headEntry.startsBreak then (s.onChannel n (fun e d => d.trigger e)).answer tag 0x000C .done
        else s.answer tag 0x000C .empty
    else s.answer tag 0x000C .wrongSource) := by
  refine congrArg Host.Outcome.next ((s.atPart_reached a _ reached).trans ?_)
  cases field 4 channel.toNat <;> rfl

theorem exec_take_outside (bad : 4 ≤ channel.toNat) : exec (.take a tag channel hard) s = .next (s.answer tag 0x000C .badField) := by
  rw [exec_take reached, field_outside (Nat.not_lt.mpr bad), Option.elim_none]

variable {n : Fin 4} (hn : channel.toNat = n.val)
include hn

theorem exec_take_wrongSource (source : (s.channels.get n).settings.source ≠ .command) :
    exec (.take a tag channel hard) s = .next (s.answer tag 0x000C .wrongSource) := by
  rw [exec_take reached, field_eq_some n hn, Option.elim_some, if_neg source]

variable (source : (s.channels.get n).settings.source = .command)
include source

theorem exec_take_state (state : (s.channels.get n).state = .bypass ∨ (s.channels.get n).state = .split ∨ (s.channels.get n).state = .loc) :
    exec (.take a tag channel hard) s = .next (s.answer tag 0x000C .state) := by
  rw [exec_take reached, field_eq_some n hn, Option.elim_some, if_pos source]
  rcases state with state | state | state <;> rw [state]

theorem exec_take_break (state : (s.channels.get n).state = .brk) :
    exec (.take a tag channel hard) s = .next (s.takeInBreak tag n hard) := by
  rw [exec_take reached, field_eq_some n hn, Option.elim_some, if_pos source, state]

theorem exec_take_free (state : (s.channels.get n).state = .pass ∨ (s.channels.get n).state = .fallback) :
    exec (.take a tag channel hard) s = .next (
      if (s.desk n).committed then s.answer tag 0x000C .busy
      else if (s.desk n).headEntry.startsBreak then (s.onChannel n (fun e d => d.trigger e)).answer tag 0x000C .done
      else s.answer tag 0x000C .empty) := by
  rw [exec_take reached, field_eq_some n hn, Option.elim_some, if_pos source]
  rcases state with state | state <;> rw [state]

end

section
variable {s : State} (tag : BitVec 16) {n : Fin 4} {hard : Byte}

theorem takeInBreak_soft (soft : hard = 0) : s.takeInBreak tag n hard = s.answer tag 0x000C .busy := by
  subst soft
  rfl

theorem takeInBreak_uncoded (bad : 2 ≤ hard.toNat) : s.takeInBreak tag n hard = s.answer tag 0x000C .badField := by
  unfold State.takeInBreak
  rw [switch_uncoded bad]

variable {b : BreakCtx} (brk : (s.channels.get n).brk = some b)
include brk

theorem takeInBreak_fading (fading : b.closing = .guard ∨ ∃ left, b.closing = .take left true) :
    s.takeInBreak tag n 1 = s.answer tag 0x000C .busy := by
  unfold State.takeInBreak
  rw [brk]
  rcases fading with guard | ⟨left, take⟩
  · dsimp only
    rw [guard]
    rfl
  · dsimp only
    rw [take]
    rfl

theorem takeInBreak_hard (closing : b.closing = .none) : s.takeInBreak tag n 1 =
    if (s.desk n).headEntry.startsBreak then (s.onChannel n (fun e d => d.takeHard e)).answer tag 0x000C .done
    else s.answer tag 0x000C .empty := by
  unfold State.takeInBreak
  rw [brk]
  dsimp only
  rw [closing]
  rfl

end

/-! ### The event of a TAKE hard (R62) -/

/-- The desk once item A of entry i, which holds its cart, has a result in break b at P. -/
def Desk.leftBreak (d : Desk) (e : Env) (b : BreakCtx) (i : Fin 128) (result : Result) (underruns : Nat) : Desk :=
  { ch := { d.ch with ring := put d.ch.ring i (returned (d.entry i) result), brk := some (b.without i) }
    holds := put d.holds (d.entry i).itemA.cart (d.holds.get (d.entry i).itemA.cart - 1)
    out := d.out ++ [e.ringItem e.pos b.breakNo i (d.entry i).itemA result underruns] }

/-- An item of a break that waits to be aired: it is the one item of its entry and holds its cart. -/
def Entry.taken (x : Entry) : Prop := x.itemA.cart ≠ 0 ∧ x.itemB.cart = 0 ∧ x.itemA.held = true ∧ x.itemA.result = .none

namespace Desk

section
variable {d : Desk} {e : Env} {i : Fin 128} {result : Result}

theorem openItems_taken {l : List (Fin 128)} (taken : ∀ i ∈ l, (d.entry i).taken) : d.openItems l = l.map (⟨·, .a⟩) := by
  induction l with
  | nil => rfl
  | cons i rest ih =>
    obtain ⟨some', single, _, fresh⟩ := taken i (List.mem_cons_self ..)
    have first := openItems_one some' fresh single
    have tail := ih fun j mem => taken j (List.mem_cons_of_mem _ mem)
    unfold openItems at first tail ⊢
    rw [List.flatMap_cons, List.flatMap_nil, List.append_nil] at first
    rw [List.flatMap_cons, List.filter_append, first, tail]
    rfl

/-- A deck that has become IDLE holds no item. -/
theorem freedDeck_away (k : Deck) (r : ItemRef) : (freedDeck k).ringItem ≠ some r := by
  rw [show (freedDeck k).ringItem = none from rfl]
  exact nofun

theorem resulted_break_at {b : BreakCtx} (brk : d.ch.brk = some b) (split : d.ch.split = none) (last : d.ch.lastRing = none)
    (held : (d.entry i).itemA.held = true) (position : FrameNo) (underruns : Nat) : resulted e d i result position underruns =
      { d.leftBreak e b i result underruns with
        out := d.out ++ [e.ringItem position b.breakNo i (d.entry i).itemA result underruns] } := by
  have number : d.numberFor i = b.breakNo := by
    unfold numberFor breakNumber
    rw [brk]
    rfl
  unfold resulted
  rw [number, holdsWithout_held held, Channel.returns_break split brk last]
  rfl

theorem resulted_break {b : BreakCtx} (brk : d.ch.brk = some b) (split : d.ch.split = none) (last : d.ch.lastRing = none)
    (held : (d.entry i).itemA.held = true) (underruns : Nat) : resulted e d i result e.pos underruns = d.leftBreak e b i result underruns :=
  resulted_break_at brk split last held _ _

theorem cutWaiting_cons (r : ItemRef) (rest : List ItemRef) : d.cutWaiting e result (r :: rest) = (d.cutWaiting e result [r]).cutWaiting e result rest :=
  rfl

theorem cutWaiting_sounding {r : ItemRef} (item : d.ch.deckA.item = some (.ring r)) (sounds : d.ch.deckA.sounding = true) :
    d.cutWaiting e result [r] = d := by
  have own : (d.ch.deckA.ringItem == some r) = true := by rw [ringItem_of item]; exact beq_self_eq_true _
  exact (if_pos own).trans (if_pos sounds)

/-- An item that has not begun to sound is cut on deck B. -/
theorem cutWaiting_deckB (other : d.ch.deckA.ringItem ≠ some ⟨i, .a⟩) (item : d.ch.deckB.item = some (.ring ⟨i, .a⟩))
    (waits : d.ch.deckB.waiting = true) (single : (d.entry i).itemB.cart = 0) (final : result ≠ .none) :
    d.cutWaiting e result [⟨i, .a⟩] = (resulted e d i result e.pos d.ch.deckB.underruns).setDeck .b (freedDeck d.ch.deckB) := by
  have quiet := waiting_not_sounding waits
  have own : (d.ch.deckB.ringItem == some ⟨i, .a⟩) = true := by rw [ringItem_of item]; exact beq_self_eq_true _
  have notA : ¬ (d.ch.deckA.ringItem == some ⟨i, .a⟩) = true := by simpa using other
  have ends := endDeck_ring (id := .b) e item single final
  rw [show (d.deck .b).sounding = false from quiet] at ends
  exact (if_neg notA).trans ((if_pos own).trans ((if_neg (by rw [quiet]; exact Bool.false_ne_true)).trans ends))

theorem closeDeck_sounding (g : Nat) {id : DeckId} (sounds : (d.deck id).sounding = true) :
    d.closeDeck g id = d.setDeck id (closedDeck g (d.deck id)) := by
  unfold closeDeck closedDeck
  dsimp only
  rw [if_pos sounds]
  cases (d.deck id).ramp with
  | none => rfl
  | some r =>
    by_cases keep : r.length - r.elapsed ≤ g <;> simp [keep]

theorem closeDeck_quiet (g : Nat) {id : DeckId} (quiet : (d.deck id).sounding = false) : d.closeDeck g id = d := by
  unfold closeDeck
  dsimp only
  rw [if_neg (by rw [quiet]; exact Bool.false_ne_true)]

end

section
variable {d : Desk} {e : Env} {b : BreakCtx} (brk : d.ch.brk = some b)
include brk

theorem takeHard_started {t : Desk} (cut : d.cutWaiting e .cutOff d.breakItems = t) (start : b.start.isSome = true) : d.takeHard e =
    { t.closeAll t.ch.settings.fade with ch := { (t.closeAll t.ch.settings.fade).ch with
      brk := (t.closeAll t.ch.settings.fade).ch.brk.map fun b => ({ b with closing := .take t.ch.settings.fade true } : BreakCtx) } } := by
  subst cut
  unfold takeHard
  rw [brk]
  exact if_pos start

theorem takeHard_silent {t : Desk} (cut : d.cutWaiting e .cutOff d.breakItems = t) (start : b.start = none) : d.takeHard e =
    { t with ch := { t.ch with brk := t.ch.brk.map fun b => ({ b with closing := .take 0 false } : BreakCtx) } } := by
  subst cut
  unfold takeHard
  rw [brk]
  exact if_neg (by rw [start]; exact Bool.false_ne_true)

theorem breakItems_taken (taken : ∀ i ∈ b.entries, (d.entry i).taken) : d.breakItems = b.entries.map (⟨·, .a⟩) := by
  unfold breakItems
  rw [brk]
  exact openItems_taken taken

end

theorem leftBreak_entry {d : Desk} {e : Env} {b : BreakCtx} {i m : Fin 128} (other : i ≠ m) (result : Result) (underruns : Nat) :
    (d.leftBreak e b i result underruns).entry m = d.entry m := get_put_other _ _ _ _ other

/-- R62: a break of three entries of which the first sounds, at the event of a TAKE hard. -/
theorem takeHard_three {d : Desk} {e : Env} {b : BreakCtx} {i j m : Fin 128} (brk : d.ch.brk = some b) (split : d.ch.split = none)
    (last : d.ch.lastRing = none) (start : b.start.isSome = true) (entries : b.entries = [i, j, m]) (ij : i ≠ j) (im : i ≠ m) (jm : j ≠ m)
    (ti : (d.entry i).taken) (tj : (d.entry j).taken) (tm : (d.entry m).taken)
    (a : d.ch.deckA.item = some (.ring ⟨i, .a⟩)) (sounds : d.ch.deckA.sounding = true)
    (onB : d.ch.deckB.item = some (.ring ⟨j, .a⟩)) (waits : d.ch.deckB.waiting = true) :
    d.takeHard e =
      { ch := { d.ch with
          ring := put (put d.ch.ring j (returned (d.entry j) .cutOff)) m (returned (d.entry m) .cutOff)
          deckA := closedDeck d.ch.settings.fade d.ch.deckA, deckB := freedDeck d.ch.deckB
          brk := some { b with entries := [i], closing := .take d.ch.settings.fade true } }
        holds := put (put d.holds (d.entry j).itemA.cart (d.holds.get (d.entry j).itemA.cart - 1)) (d.entry m).itemA.cart
          ((put d.holds (d.entry j).itemA.cart (d.holds.get (d.entry j).itemA.cart - 1)).get (d.entry m).itemA.cart - 1)
        out := d.out ++ [e.ringItem e.pos b.breakNo j (d.entry j).itemA .cutOff d.ch.deckB.underruns,
          e.ringItem e.pos b.breakNo m (d.entry m).itemA .cutOff 0] } := by
  have items : d.breakItems = [⟨i, .a⟩, ⟨j, .a⟩, ⟨m, .a⟩] := by
    rw [breakItems_taken brk, entries]
    · rfl
    · rw [entries]
      simp [ti, tj, tm]
  have final : Result.cutOff ≠ .none := by decide
  let u : Desk := (d.leftBreak e b j .cutOff d.ch.deckB.underruns).setDeck .b (freedDeck d.ch.deckB)
  have entry : u.entry m = d.entry m := leftBreak_entry (e := e) (b := b) jm .cutOff d.ch.deckB.underruns
  have offA (l : Fin 128) (other : i ≠ l) : d.ch.deckA.ringItem ≠ some ⟨l, .a⟩ := by
    rw [ringItem_of a]
    simpa using other
  have second : d.cutWaiting e .cutOff [⟨j, .a⟩] = u := by
    rw [cutWaiting_deckB (offA j ij) onB waits tj.2.1 final, resulted_break brk split last tj.2.2.1]
  have third : u.cutWaiting e .cutOff [⟨m, .a⟩] = u.leftBreak e (b.without j) m .cutOff 0 := by
    rw [cutWaiting_away (d := u) e (offA m im) (freedDeck_away _ _) (by rw [entry]; exact tm.2.1) final]
    exact resulted_break (d := u) rfl split last (by rw [entry]; exact tm.2.2.1) 0
  let t := u.leftBreak e (b.without j) m .cutOff 0
  have cut : d.cutWaiting e .cutOff d.breakItems = t := by
    rw [items, cutWaiting_cons, cutWaiting_sounding a sounds, cutWaiting_cons, second, third]
  have closed : t.closeAll d.ch.settings.fade = t.setDeck .a (closedDeck d.ch.settings.fade d.ch.deckA) := by
    unfold closeAll
    rw [closeDeck_sounding (d := t) _ (id := .a) sounds]
    exact closeDeck_quiet _ (id := .b) rfl
  have left : (b.entries.filter (fun l => l != j)).filter (fun l => l != m) = [i] := by
    rw [entries]
    simp [ij, im, Ne.symm jm]
  have is : t = { d with
      ch := { d.ch with
        ring := put (put d.ch.ring j (returned (d.entry j) .cutOff)) m (returned (d.entry m) .cutOff)
        deckB := freedDeck d.ch.deckB, brk := some ((b.without j).without m) }
      holds := put (put d.holds (d.entry j).itemA.cart (d.holds.get (d.entry j).itemA.cart - 1)) (d.entry m).itemA.cart
        ((put d.holds (d.entry j).itemA.cart (d.holds.get (d.entry j).itemA.cart - 1)).get (d.entry m).itemA.cart - 1)
      out := d.out ++ [e.ringItem e.pos b.breakNo j (d.entry j).itemA .cutOff d.ch.deckB.underruns,
        e.ringItem e.pos b.breakNo m (d.entry m).itemA .cutOff 0] } := by
    change u.leftBreak e (b.without j) m .cutOff 0 = _
    rw [leftBreak, entry, List.append_cons d.out]
    rfl
  have context : ({ (b.without j).without m with closing := .take d.ch.settings.fade true } : BreakCtx) =
      { b with entries := [i], closing := .take d.ch.settings.fade true } :=
    congrArg (fun l => ({ b with entries := l, closing := .take d.ch.settings.fade true } : BreakCtx)) left
  rw [takeHard_started brk cut start, show t.ch.settings.fade = d.ch.settings.fade from rfl, closed, ← context, is]
  rfl

/-- R62: a break of two entries of which none has sounded, at the event of a TAKE hard. -/
theorem takeHard_two {d : Desk} {e : Env} {b : BreakCtx} {i j : Fin 128} (brk : d.ch.brk = some b) (split : d.ch.split = none)
    (last : d.ch.lastRing = none) (start : b.start = none) (entries : b.entries = [i, j]) (ij : i ≠ j) (ti : (d.entry i).taken)
    (tj : (d.entry j).taken) (a : d.ch.deckA.item = some (.ring ⟨i, .a⟩)) (waits : d.ch.deckA.waiting = true)
    (noB : d.ch.deckB.ringItem = none) :
    d.takeHard e =
      { ch := { d.ch with
          ring := put (put d.ch.ring i (returned (d.entry i) .cutOff)) j (returned (d.entry j) .cutOff)
          deckA := freedDeck d.ch.deckA, brk := some { b with entries := [], closing := .take 0 false } }
        holds := put (put d.holds (d.entry i).itemA.cart (d.holds.get (d.entry i).itemA.cart - 1)) (d.entry j).itemA.cart
          ((put d.holds (d.entry i).itemA.cart (d.holds.get (d.entry i).itemA.cart - 1)).get (d.entry j).itemA.cart - 1)
        out := d.out ++ [e.ringItem e.pos b.breakNo i (d.entry i).itemA .cutOff d.ch.deckA.underruns,
          e.ringItem e.pos b.breakNo j (d.entry j).itemA .cutOff 0] } := by
  have items : d.breakItems = [⟨i, .a⟩, ⟨j, .a⟩] := by
    rw [breakItems_taken brk, entries]
    · rfl
    · rw [entries]
      simp [ti, tj]
  have final : Result.cutOff ≠ .none := by decide
  let u : Desk := (d.leftBreak e b i .cutOff d.ch.deckA.underruns).setDeck .a (freedDeck d.ch.deckA)
  have entry : u.entry j = d.entry j := leftBreak_entry (e := e) (b := b) ij .cutOff d.ch.deckA.underruns
  have first : d.cutWaiting e .cutOff [⟨i, .a⟩] = u := by
    rw [cutWaiting_deckA e a waits ti.2.1 final, resulted_break brk split last ti.2.2.1]
  have awayB : u.ch.deckB.ringItem ≠ some ⟨j, .a⟩ := by
    rw [show u.ch.deckB.ringItem = none from noB]
    exact nofun
  have second : u.cutWaiting e .cutOff [⟨j, .a⟩] = u.leftBreak e (b.without i) j .cutOff 0 := by
    rw [cutWaiting_away (d := u) e (freedDeck_away _ _) awayB (by rw [entry]; exact tj.2.1) final]
    exact resulted_break (d := u) rfl split last (by rw [entry]; exact tj.2.2.1) 0
  have cut : d.cutWaiting e .cutOff d.breakItems = { d with
      ch := { d.ch with
        ring := put (put d.ch.ring i (returned (d.entry i) .cutOff)) j (returned (d.entry j) .cutOff)
        deckA := freedDeck d.ch.deckA, brk := some ((b.without i).without j) }
      holds := put (put d.holds (d.entry i).itemA.cart (d.holds.get (d.entry i).itemA.cart - 1)) (d.entry j).itemA.cart
        ((put d.holds (d.entry i).itemA.cart (d.holds.get (d.entry i).itemA.cart - 1)).get (d.entry j).itemA.cart - 1)
      out := d.out ++ [e.ringItem e.pos b.breakNo i (d.entry i).itemA .cutOff d.ch.deckA.underruns,
        e.ringItem e.pos b.breakNo j (d.entry j).itemA .cutOff 0] } := by
    rw [items, cutWaiting_cons, first, second, leftBreak, entry, List.append_cons d.out]
    rfl
  have left : (b.entries.filter (fun l => l != i)).filter (fun l => l != j) = [] := by
    rw [entries]
    simp [Ne.symm ij]
  have context : ({ (b.without i).without j with closing := .take 0 false } : BreakCtx) = { b with entries := [], closing := .take 0 false } :=
    congrArg (fun l => ({ b with entries := l, closing := .take 0 false } : BreakCtx)) left
  rw [takeHard_silent brk cut start, ← context]
  rfl

end Desk

/-- Settles O39: the answers by the state of the channel, the break begun by `Desk.trigger_begins`, and the event of a TAKE hard by the items
of the break. -/
theorem takeRequest : Obligations.TakeRequest := by
  unfold Obligations.TakeRequest
  refine ⟨fun s a tag channel hard reached => ⟨exec_take_outside reached tag, fun n hn => ⟨exec_take_wrongSource reached tag hn, fun source => ?_⟩⟩,
    fun s a tag channel hard n reached hn => ?_, fun s a tag channel n b reached hn => ?_⟩
  · refine ⟨exec_take_state reached tag hn source, fun state occupied => ?_, fun state free noBreak => ?_, fun state => ?_⟩
    · exact (exec_take_free reached tag hn source state).trans (congrArg Host.Outcome.next (if_pos ((committed_iff _).mpr occupied)))
    · refine (exec_take_free reached tag hn source state).trans (congrArg Host.Outcome.next ((if_neg ?_).trans (if_neg ?_)))
      · exact mt (committed_iff _).mp (not_not_intro free)
      · exact mt (startsBreak_iff _).mp noBreak
    · have breaks := exec_take_break (hard := hard) reached tag hn source state
      refine ⟨fun soft => breaks.trans (congrArg _ (takeInBreak_soft tag soft)), fun bad => breaks.trans (congrArg _ (takeInBreak_uncoded tag bad)),
        fun b brk isHard => ⟨fun fading => ?_, fun closing noBreak => ?_⟩⟩
      · subst isHard
        exact breaks.trans (congrArg _ (takeInBreak_fading tag brk fading))
      · subst isHard
        exact breaks.trans (congrArg _ ((takeInBreak_hard tag brk closing).trans (if_neg (mt (startsBreak_iff _).mp noBreak))))
  · intro c k source state free split r z id d holds playable gives
    have starts : (s.desk n).headEntry.startsBreak = true := (startsBreak_iff _).mpr ⟨playable.1, playable.2.1⟩
    refine (exec_take_free reached tag hn source state).trans (congrArg Host.Outcome.next ((if_neg ?_).trans ((if_pos starts).trans ?_)))
    · exact mt (committed_iff _).mp (not_not_intro free)
    · exact congrArg (fun t => State.answer t tag 0x000C .done) (State.onChannel_begins playable state free split gives)
  · intro c e item taken released cut after source state brk closing split last owner first
    have starts : (s.desk n).headEntry.startsBreak = true := (startsBreak_iff _).mpr ⟨owner, first⟩
    have runs : exec (.take a tag channel 1) s = .next ((s.onChannel n (fun e d => d.takeHard e)).answer tag 0x000C .done) :=
      (exec_take_break reached tag hn source state).trans (congrArg _ ((takeInBreak_hard tag brk closing).trans (if_pos starts)))
    have own {i : Fin 128} (h : taken i) : ((s.desk n).entry i).taken := by
      obtain ⟨_, some', single, held, fresh⟩ := h
      exact ⟨some', single, held, fresh⟩
    refine ⟨fun i j m start entries ij im jm ti tj tm onA sounds onB waits => ?_, fun i j start entries ij ti tj onA waits noB => ?_⟩
    · have done := Desk.takeHard_three (d := s.desk n) (e := e) brk split last start entries ij im jm (own ti) (own tj) (own tm) onA sounds onB waits
      exact runs.trans (congrArg (fun d => Host.Outcome.next ((s.putDesk n d).answer tag 0x000C .done)) done)
    · have done := Desk.takeHard_two (d := s.desk n) (e := e) brk split last start entries ij (own ti) (own tj) onA waits noB
      exact runs.trans (congrArg (fun d => Host.Outcome.next ((s.putDesk n d).answer tag 0x000C .done)) done)

end Sys2Proof.Machine

/-! The FIRE lines and the schedule timer (O42). -/

namespace Sys2Proof.Machine

/-! ### A trigger that begins nothing (R55) -/

namespace Desk

variable {d : Desk} {e : Env}

theorem trigger_bypass (state : d.ch.state = .bypass) : d.trigger e = d := by
  unfold trigger
  rw [state]

theorem trigger_busy (busy : d.ch.state = .split ∨ d.ch.state = .brk ∨ d.ch.state = .loc ∨
      ((d.ch.state = .pass ∨ d.ch.state = .fallback) ∧ ¬ d.ch.free)) :
    d.trigger e = d.record e { note .triggerIgnored e.pos with reason := some .busy } := by
  unfold trigger
  rcases busy with state | state | state | ⟨state | state, occupied⟩
  · rw [state]
  · rw [state]
  · rw [state]
  · rw [state]
    exact if_pos ((committed_iff d).mpr occupied)
  · rw [state]
    exact if_pos ((committed_iff d).mpr occupied)

theorem trigger_empty (state : d.ch.state = .pass ∨ d.ch.state = .fallback) (free : d.ch.free)
    (noBreak : ¬ (d.headEntry.owner = .channel ∧ d.headEntry.first = true)) :
    d.trigger e = d.record e { note .triggerIgnored e.pos with reason := some .empty, ring := some (d.ch.head, none) } := by
  have none : d.gather e = none := d.gather_none e (Bool.eq_false_iff.mpr (mt (startsBreak_iff _).mp noBreak))
  have uncommitted : ¬ d.committed = true := mt (committed_iff d).mp (not_not_intro free)
  unfold trigger
  rcases state with state | state
  all_goals
    rw [state]
    dsimp only
    rw [if_neg uncommitted, none]

/-! ### The timer (R57) -/

theorem timerExpires_early {t : Timer} (timer : d.ch.timer = some t) (early : atOrAfter e.pos t.target = false) : d.timerExpires e = d := by
  have none : d.timerExpired e = none := by
    unfold timerExpired
    rw [timer]
    exact if_neg (by rw [early, Bool.and_false]; exact Bool.false_ne_true)
  unfold timerExpires
  rw [none]

/-- R57: an expiry sets the timer anew, or off, and triggers under source TIMER. -/
theorem timerExpires_due {t : Timer} (timer : d.ch.timer = some t) (live : e.live = true) (due : atOrAfter e.pos t.target = true) :
    d.timerExpires e = if d.ch.settings.source = .timer then
      ({ d with ch := { d.ch with timer := rearmed e.pos t } } : Desk).trigger e
    else { d with ch := { d.ch with timer := rearmed e.pos t } } := by
  have expired : d.timerExpired e = some t := by
    unfold timerExpired
    rw [timer]
    exact if_pos (by rw [live, due]; rfl)
  unfold timerExpires
  rw [expired]

theorem rearmed_once {p : FrameNo} {t : Timer} (once : t.period = 0) : rearmed p t = none := if_pos once

/-- R57: the next target is the first one after P. -/
theorem rearmed_next (p : FrameNo) {t : Timer} (some' : 0 < t.period) : ∃ k : Nat, 1 ≤ k ∧ (p - t.target).toNat < k * t.period ∧
    (k - 1) * t.period ≤ (p - t.target).toNat ∧ rearmed p t = some { t with target := t.target + BitVec.ofNat 32 (k * t.period) } := by
  refine ⟨(p - t.target).toNat / t.period + 1, Nat.le_add_left .., ?_, ?_, if_neg (Nat.ne_of_gt some')⟩
  · rw [Nat.mul_comm]
    exact Nat.lt_mul_div_succ _ some'
  · rw [Nat.add_sub_cancel]
    exact Nat.div_mul_le_self _ _

end Desk

/-! ### The events -/

section
variable {s : State} {n : Fin 4}

theorem exec_fireFalls_high (high : s.lines.fire.get n = .high) : exec (.fireEdge n .falls) s = .next (s.setFire n .waiting) := by
  change Host.Outcome.next _ = _
  rw [high]

theorem exec_fireFalls_low (low : s.lines.fire.get n ≠ .high) : exec (.fireEdge n .falls) s = .next s := by
  change Host.Outcome.next _ = _
  cases line : s.lines.fire.get n with
  | high => exact absurd line low
  | waiting => rfl
  | spent => rfl

theorem exec_fireHeld_other (line : s.lines.fire.get n ≠ .waiting) : exec (.fireEdge n .heldLow) s = .next s := by
  change Host.Outcome.next _ = _
  cases now : s.lines.fire.get n with
  | waiting => exact absurd now line
  | high => rfl
  | spent => rfl

theorem exec_fireHeld (line : s.lines.fire.get n = .waiting) : exec (.fireEdge n .heldLow) s = .next (
    if (s.channels.get n).settings.source = .line then (s.setFire n .spent).onChannel n (fun e d => d.trigger e) else s.setFire n .spent) := by
  change Host.Outcome.next _ = _
  rw [line]
  rfl

/-- A rule that begins by setting the channel. -/
theorem State.withChannel_onChannel (c : Channel) (rule : Env → Desk → Desk) :
    (s.withChannel n c).onChannel n rule = s.putDesk n (rule (s.env n) { s.desk n with ch := c }) := by
  have own : (put s.channels n c).get n = c := get_put_same _ _ _
  unfold onChannel putDesk
  have desk : (s.withChannel n c).desk n = { s.desk n with ch := c } := congrArg (fun c => ({ ch := c, holds := s.store.holds, out := [] } : Desk)) own
  rw [desk]
  exact congrArg (fun v => ({ s with
    channels := v
    store := { s.store with holds := (rule (s.env n) { s.desk n with ch := c }).holds }
    log := s.log.appendAll (rule (s.env n) { s.desk n with ch := c }).out } : State)) (put_put _ _ _ _)

variable {p : FrameNo} (position : s.time.position = some p)
include position

theorem env_pos : (s.env n).pos = p := by
  change s.time.position.getD 0 = p
  rw [position]
  rfl

theorem env_live : (s.env n).live = true := by
  change s.time.position.isSome = true
  rw [position]
  rfl

variable {t : Timer} (timer : (s.channels.get n).timer = some t)
include timer

theorem exec_timerExpiry_early (early : atOrAfter p t.target = false) : exec (.scheduleTimerExpiry n) s = .next s :=
  congrArg Host.Outcome.next (s.onChannel_same n (fun e d => d.timerExpires e)
    (Desk.timerExpires_early (d := s.desk n) timer (by rw [env_pos position]; exact early)))

/-- R57: an expiry. -/
theorem exec_timerExpiry (due : atOrAfter p t.target = true) : exec (.scheduleTimerExpiry n) s = .next (
    if (s.channels.get n).settings.source = .timer then
      (s.withChannel n { s.channels.get n with timer := Desk.rearmed p t }).onChannel n (fun e d => d.trigger e)
    else s.withChannel n { s.channels.get n with timer := Desk.rearmed p t }) := by
  have expires := Desk.timerExpires_due (d := s.desk n) (e := s.env n) timer (env_live position) (by rw [env_pos position]; exact due)
  rw [env_pos position] at expires
  refine (congrArg (fun d => Host.Outcome.next (s.putDesk n d)) expires).trans (congrArg Host.Outcome.next ?_)
  by_cases source : (s.channels.get n).settings.source = .timer
  · rw [if_pos source, State.withChannel_onChannel]
    exact congrArg (s.putDesk n) (if_pos source)
  · rw [if_neg source]
    exact congrArg (s.putDesk n) (if_neg source)

end

/-- Settles O42: an edge and an expiry by the line and the timer, then the trigger by the state of the channel. -/
theorem lineAndTimerTriggers : Obligations.LineAndTimerTriggers := by
  unfold Obligations.LineAndTimerTriggers
  refine ⟨fun s n => ?_, fun s n p t => ?_, fun s n => ?_⟩
  · intro c line ignored
    refine ⟨exec_fireFalls_high, exec_fireFalls_low, exec_fireHeld_other, fun waiting => ⟨fun idle => ?_, fun source busy => ?_,
      fun source state free noBreak => ?_⟩, rfl⟩
    · rw [exec_fireHeld waiting]
      refine congrArg Host.Outcome.next ?_
      by_cases source : c.settings.source = .line
      · refine (if_pos source).trans ?_
        rcases idle with other | bypass
        · exact absurd source other
        · exact (line .spent).onChannel_same n (fun e d => d.trigger e) (Desk.trigger_bypass bypass)
      · exact if_neg source
    · rw [exec_fireHeld waiting]
      exact congrArg Host.Outcome.next ((if_pos source).trans
        (State.onChannel_record (s := line .spent) (rule := fun e d => d.trigger e) (Desk.trigger_busy busy)))
    · rw [exec_fireHeld waiting]
      refine congrArg Host.Outcome.next ((if_pos source).trans
        (State.onChannel_record (s := line .spent) (rule := fun e d => d.trigger e) (Desk.trigger_empty state free ?_)))
      rintro ⟨owner, first⟩
      rcases noBreak with loader | notFirst
      · cases loader.symm.trans owner
      · cases notFirst.symm.trans first
  · intro c set position timer
    refine ⟨exec_timerExpiry_early position timer, fun due source => ?_⟩
    rw [exec_timerExpiry position timer due, if_neg source]
    refine ⟨fun once => ?_, fun some' _ => ?_⟩
    · rw [Desk.rearmed_once once]
    · obtain ⟨k, one, above, below, is⟩ := Desk.rearmed_next p some'
      refine ⟨k, one, above, below, ?_⟩
      rw [is]
  · intro c x k isBreak startable held
    refine ⟨fun waiting source ⟨state, free, split⟩ r z id d holds playable gives => ?_, fun p t position timer due source => ?_⟩
    · rw [exec_fireHeld waiting]
      exact congrArg Host.Outcome.next ((if_pos source).trans
        (State.onChannel_begins (s := s.setFire n .spent) playable state free split gives))
    · refine ⟨Desk.rearmed p t, ?_⟩
      intro expired ignored
      have own : expired.channels.get n = { c with timer := Desk.rearmed p t } := get_put_same _ _ _
      have runs : exec (.scheduleTimerExpiry n) s = .next (expired.onChannel n (fun e d => d.trigger e)) := by
        rw [exec_timerExpiry position timer due, if_pos source]
      have at' : (s.env n).pos = p := env_pos position
      rw [runs]
      refine ⟨Desk.rearmed_once, fun some' _ => Desk.rearmed_next p some', fun bypass => ?_, fun busy => ?_, fun state free noBreak => ?_,
        fun ⟨state, free, split⟩ r z id d holds playable gives => ?_⟩
      · exact congrArg Host.Outcome.next (expired.onChannel_same n (fun e d => d.trigger e)
          (Desk.trigger_bypass ((congrArg Channel.state own).trans bypass)))
      · have busy' : (expired.desk n).trigger (expired.env n) = _ :=
          Desk.trigger_busy (by rw [show (expired.desk n).ch = { c with timer := Desk.rearmed p t } from own]; exact busy)
        rw [show (expired.env n).pos = p from at'] at busy'
        exact congrArg Host.Outcome.next (State.onChannel_record (s := expired) (rule := fun e d => d.trigger e) busy')
      · have head : (expired.desk n).headEntry = x := congrArg (fun c => c.ring.get c.head) own
        have empty : (expired.desk n).trigger (expired.env n) = _ :=
          Desk.trigger_empty ((congrArg Channel.state own).symm ▸ state) (by rw [show (expired.desk n).ch = { c with timer := Desk.rearmed p t } from own]; exact free)
            (by rw [head]; exact noBreak)
        rw [show (expired.env n).pos = p from at', show (expired.desk n).ch = { c with timer := Desk.rearmed p t } from own] at empty
        exact congrArg Host.Outcome.next (State.onChannel_record (s := expired) (rule := fun e d => d.trigger e) empty)
      · have playable' : expired.headPlayable n r z := by
          unfold State.headPlayable
          rw [own]
          exact playable
        refine congrArg Host.Outcome.next (State.onChannel_begins playable' ?_ ?_ ?_ ?_)
        · rw [own]
          exact state
        · rw [own]
          exact free
        · rw [own]
          exact split
        · rw [own]
          exact gives

end Sys2Proof.Machine

/-! An item on a deck given up with MEDIA_FAULT (O43). -/

namespace Sys2Proof.Machine

/-- R106: the ITEM record of the fill item on a deck, with its result. -/
def Env.fillEnd (e : Env) (number : Option BreakNo) (slot : Fin 16) (k : Deck) (result : Result) : Record :=
  { e.noted .item (k.fillStart.getD e.pos) with
    breakNo := number, fillSlot := some slot, cart := some k.cart, reason := some (.result result)
    frames := some (BitVec.ofNat 32 k.fillAired), detail := some (BitVec.ofNat 32 k.underruns) }

/-- A deck whose read has failed for the last time: the read is over, and its allowance given back. -/
def Deck.spent (k : Deck) (allowance : Bool) : Deck := { k with read := none, allowanceUsed := k.allowanceUsed && !allowance }

namespace Desk

section
variable {d : Desk} (e : Env) {id : DeckId} {slot : Fin 16}

/-- The fill item on a deck ends, and the deck becomes IDLE. -/
theorem endDeck_fill (item : (d.deck id).item = some (.fill slot)) (result : Result) : d.endDeck e id result =
    { ch := d.ch.setDeck id (freedDeck (d.deck id))
      holds := put d.holds (d.deck id).cart (d.holds.get (d.deck id).cart - 1)
      out := d.out ++ [e.fillEnd (if (d.deck id).fillStart.isSome = true then d.ch.split.map (·.breakNo) else none) slot (d.deck id) result] } := by
  unfold endDeck
  dsimp only
  rw [item]
  cases id <;> rfl

theorem fillEnd_noSplit (split : d.ch.split = none) (k : Deck) (result : Result) :
    e.fillEnd (if k.fillStart.isSome = true then d.ch.split.map (·.breakNo) else none) slot k result = e.fillEnd none slot k result := by
  rw [split, Option.map_none, ite_self]

/-- R180: a fill item is given up, outside LOCAL. -/
theorem faultDeck_fill (item : (d.deck id).item = some (.fill slot)) (split : d.ch.split = none)
    (away : d.ch.window = none ∨ (d.deck id).sounding = false) : d.faultDeck e id =
    { ch := d.ch.setDeck id (freedDeck (d.deck id))
      holds := put d.holds (d.deck id).cart (d.holds.get (d.deck id).cart - 1)
      out := d.out ++ [e.fillEnd none slot (d.deck id) .mediaFault] } := by
  have fault : d.mediaFault e id =
      { ch := d.ch.setDeck id (freedDeck (d.deck id))
        holds := put d.holds (d.deck id).cart (d.holds.get (d.deck id).cart - 1)
        out := d.out ++ [e.fillEnd none slot (d.deck id) .mediaFault] } := by
    unfold mediaFault
    dsimp only
    rw [item]
    exact (endDeck_fill e item .mediaFault).trans (by rw [fillEnd_noSplit e split])
  unfold faultDeck
  dsimp only
  rw [fault]
  rcases away with window | quiet
  · rw [lookAtHead_noWindow, ite_self]
    cases id <;> exact window
  · rw [quiet]
    rfl

/-- R180: a ring item that no plan holds is given up. -/
theorem faultDeck_ring {i : Fin 128} (plan : d.ch.plan = none) (item : (d.deck id).item = some (.ring ⟨i, .a⟩)) (single : (d.entry i).itemB.cart = 0) :
    d.faultDeck e id =
      (resulted e d i .mediaFault (if (d.deck id).sounding = true then (d.entry i).start.getD e.pos else e.pos) (d.deck id).underruns).setDeck id
        (freedDeck (d.deck id)) := by
  have free : d.inPlan ⟨i, .a⟩ = false := by
    unfold inPlan
    rw [plan]
  have fault : d.mediaFault e id = d.endDeck e id .mediaFault := by
    unfold mediaFault
    dsimp only
    rw [item]
    exact if_neg (by rw [free]; exact Bool.false_ne_true)
  unfold faultDeck
  dsimp only
  rw [fault, fillItem_ring item, Option.isSome_none, Bool.and_false, if_neg Bool.false_ne_true]
  exact endDeck_ring e item single (by decide)

/-- R180: an item of an armed plan is given up provisionally. -/
theorem faultDeck_planned {p : Plan} {r : ItemRef} (plan : d.ch.plan = some p) (item : (d.deck id).item = some (.ring r))
    (own : r ∈ p.items.map (·.ref)) : d.faultDeck e id =
      (d.setItem r { d.item r with result := .mediaFault, provisional := true }).setDeck id (freedDeck (d.deck id)) := by
  have planned : d.inPlan r = true := by
    obtain ⟨x, mem, rfl⟩ := List.mem_map.mp own
    unfold inPlan
    rw [plan]
    exact List.any_eq_true.mpr ⟨x, mem, beq_self_eq_true _⟩
  have fault : d.mediaFault e id =
      (d.setItem r { d.item r with result := .mediaFault, provisional := true }).setDeck id (freedDeck (d.deck id)) := by
    unfold mediaFault
    dsimp only
    rw [item]
    exact if_pos planned
  unfold faultDeck
  dsimp only
  rw [fault, fillItem_ring item, Option.isSome_none, Bool.and_false, if_neg Bool.false_ne_true]

end

/-- A break whose entries have all returned loads nothing. -/
theorem service_breakDone {d : Desk} {e : Env} {b : BreakCtx} (state : d.ch.state = .brk) (brk : d.ch.brk = some b) (entries : b.entries = []) :
    d.service e = d := by
  have none : d.nextPlayable = none := by
    unfold nextPlayable breakItems
    rw [brk]
    dsimp only
    rw [entries]
    rfl
  have idle : d.loadBreakItem e = d := by
    unfold loadBreakItem
    rw [none]
  unfold service serviceAs
  rw [state, brk]
  dsimp only
  split
  · unfold serviceBreak
    rw [idle, idle]
  · rfl

theorem service_plan {d : Desk} {e : Env} {p : Plan} (state : d.ch.state = .pass ∨ d.ch.state = .fallback) (plan : d.ch.plan = some p)
    (primed : p.primed = true) : d.service e = d.servicePlan e p := by
  unfold service serviceAs
  rcases state with state | state
  all_goals
    rw [state, plan]
    exact if_pos primed

/-- R81: a primed plan whose one item has a result loads nothing more. -/
theorem servicePlan_settled {d : Desk} {e : Env} {p : Plan} {x : PlanItem} (plan : d.ch.plan = some p) (items : p.items = [x])
    (included : x.inclusion = .included) (done : (d.item x.ref).result ≠ .none) : d.servicePlan e p = d := by
  have filled : ¬ d.emptyPlan = true := by
    unfold emptyPlan
    rw [plan]
    simp [Plan.noneIncluded, items, included]
  have none : d.nextPlanned [x] = none := by
    refine (List.find?_cons_of_neg ?_).trans rfl
    rw [decide_eq_false done, Bool.and_false, Bool.false_and]
    exact Bool.false_ne_true
  have idle : d.loadPlanned e [x] = d := by
    unfold loadPlanned
    rw [none]
  unfold servicePlan
  rw [if_neg filled, items]
  unfold loadPlannedAll
  rw [idle, idle]

end Desk

/-! ### The two ways in (R180, R182) -/

section
variable {s : State} {n : Fin 4}

theorem exec_underrun (few : (s.channels.get n).deckA.consecutive < 25) : exec (.deckUnderrunAbandon n .a) s = .next s := by
  refine congrArg Host.Outcome.next (s.onChannel_same n (fun e d => d.abandon e [.a]) (Desk.abandon_none _ _ _ fun id mem => ?_))
  cases List.mem_singleton.mp mem
  exact Bool.and_eq_false_iff.mpr (.inr (decide_eq_false (Nat.not_le.mpr few)))

theorem exec_underrun_abandons (sounds : (s.channels.get n).deckA.sounding = true) (many : 25 ≤ (s.channels.get n).deckA.consecutive) :
    exec (.deckUnderrunAbandon n .a) s = .next (s.putDesk n (((s.desk n).faultDeck (s.env n) .a).service (s.env n))) := by
  have starved : (s.desk n).starved .a = true := Bool.and_eq_true_iff.mpr ⟨sounds, decide_eq_true many⟩
  refine congrArg (fun d => Host.Outcome.next (s.putDesk n d)) ?_
  have one : [DeckId.a].filter (s.desk n).starved = [.a] := List.filter_cons_of_pos starved
  unfold Desk.abandon
  dsimp only
  rw [one]
  rfl

variable {b : Fin 4} {page : Nat} {load : BitVec 32} {allowance : Bool}

/-- R180: the fourth failed attempt of the read of deck A's present item. -/
theorem exec_retries (held : s.arbiter.port = some (.deckRead n .a b page load allowance)) (present : (s.channels.get n).deckA.load = load)
    (last : (s.channels.get n).deckA.retries = 3) (loaded : (s.channels.get n).deckA.state ≠ .idle) :
    exec .readRetriesExhausted s = .next ((s.freed b).putDesk n
      ((((s.desk n).setDeck .a ((s.channels.get n).deckA.spent allowance)).faultDeck (s.env n) .a).service (s.env n))) := by
  have fails : (s.desk n).readFailed .a allowance (s.env n) =
      (((s.desk n).setDeck .a ((s.channels.get n).deckA.spent allowance)).faultDeck (s.env n) .a).service (s.env n) := by
    refine if_neg ?_
    change ¬ (s.channels.get n).deckA.retries < 3
    rw [last]
    exact Nat.lt_irrefl 3
  have ends := (s.desk n).readEnds_present .a page allowance none (s.env n) present loaded
  change execReadRetriesExhausted s = _
  unfold execReadRetriesExhausted
  rw [held]
  refine congrArg Host.Outcome.next ((if_pos ⟨present, loaded, last⟩).trans ?_)
  exact congrArg ((s.freed b).putDesk n) (ends.trans fails)

end

/-- Settles O43: a starved deck and a fourth failed attempt both lead to `Desk.faultDeck`, which goes by the item on the deck. -/
theorem deckItemGivenUp : Obligations.DeckItemGivenUp := by
  unfold Obligations.DeckItemGivenUp
  refine ⟨fun s n slot => ?_, fun s n b page load allowance slot => ?_, fun s n x i => ?_, fun s n p r b page load allowance => ?_,
    fun s n b page load allowance slot => ?_⟩
  · intro c k state free split window item fading
    have sounds : k.sounding = true := k.sounding_iff.mpr (.inr fading)
    refine ⟨exec_underrun, fun many => (exec_underrun_abandons sounds many).trans ?_⟩
    rw [Desk.faultDeck_fill (d := s.desk n) (id := .a) _ item split (.inl window)]
    exact congrArg (fun d => Host.Outcome.next (s.putDesk n d)) (Desk.serviceAs_pass _ _ false state free)
  · intro c k held present last state free split window item fading
    refine (exec_retries held present last ?_).trans ?_
    · rw [show (s.channels.get n).deckA.state = .fading from fading]
      decide
    · rw [Desk.faultDeck_fill (d := (s.desk n).setDeck .a (k.spent allowance)) (id := .a) _ item split (.inl window)]
      exact congrArg (fun d => Host.Outcome.next ((s.freed b).putDesk n d)) (Desk.serviceAs_pass _ _ false state free)
  · intro c k z p state brk entries plan split last item some' fresh held single given
    have left : x.without i = { x with entries := [] } := by
      unfold BreakCtx.without
      rw [entries]
      simp
    have fault (deck : Deck) (own : deck.item = some (.ring ⟨i, .a⟩)) :
        ((s.desk n).setDeck .a deck).faultDeck (s.env n) .a =
          { ch := { c with
              ring := put c.ring i (returned z .mediaFault), brk := some { x with entries := [] }, deckA := freedDeck deck }
            holds := put s.store.holds z.itemA.cart (s.store.holds.get z.itemA.cart - 1)
            out := [(s.env n).ringItem (if deck.sounding = true then z.start.getD p else p) x.breakNo i z.itemA .mediaFault deck.underruns] } := by
      rw [Desk.faultDeck_ring (d := (s.desk n).setDeck .a deck) (id := .a) _ plan own single,
        Desk.resulted_break_at (d := (s.desk n).setDeck .a deck) brk split last held, ← left]
      rfl
    refine ⟨fun sounds many => (exec_underrun_abandons sounds many).trans ?_, fun b page load allowance port present last loaded =>
      (exec_retries port present last ?_).trans ?_⟩
    · have done := fault k item
      rw [if_pos sounds] at done
      rw [show (s.desk n).faultDeck (s.env n) .a = _ from done]
      exact congrArg (fun d => Host.Outcome.next (s.putDesk n d)) (Desk.service_breakDone state rfl rfl)
    · rcases loaded with sounds | waits
      · exact Desk.sounding_not_idle sounds
      · exact Desk.waiting_not_idle waits
    · rw [fault (k.spent allowance) item]
      exact congrArg (fun d => Host.Outcome.next ((s.freed b).putDesk n d)) (Desk.service_breakDone state rfl rfl)
  · intro c k z state plan primed own item waits held present last given
    let fault : Desk := { s.desk n with ch := { c with
      ring := put c.ring r.index (z.setItem r.part { z.item r.part with result := .mediaFault, provisional := true })
      deckA := failedDeck k allowance } }
    have runs : exec .readRetriesExhausted s = .next (given.onChannel n (fun e d => d.servicePlan e p)) := by
      refine (exec_retries held present last (Desk.waiting_not_idle waits)).trans ?_
      rw [Desk.faultDeck_planned (d := (s.desk n).setDeck .a (k.spent allowance)) (id := .a) _ plan item own]
      change Host.Outcome.next ((s.freed b).putDesk n (fault.service (s.env n))) = _
      rw [Desk.service_plan state plan primed]
      exact congrArg Host.Outcome.next ((s.freed b).withChannel_onChannel fault.ch (fun e d => d.servicePlan e p)).symm
    refine ⟨runs, fun x items included => runs.trans (congrArg Host.Outcome.next (State.onChannel_same _ _ _ ?_))⟩
    have desk : given.desk n = fault := congrArg (fun c => ({ ch := c, holds := s.store.holds, out := [] } : Desk)) (get_put_same s.channels n fault.ch)
    have only : r = x.ref := by
      rw [items] at own
      exact List.mem_singleton.mp own
    rw [desk]
    refine Desk.servicePlan_settled plan items included ?_
    rw [← only, show (fault.item r) = _ from Desk.item_setItem (s.desk n) r _]
    exact nofun
  · intro c k held present last state split item waits unstarted calm
    refine (exec_retries held present last (Desk.waiting_not_idle waits)).trans ?_
    have position : k.fillStart.getD (s.env n).pos = (s.env n).pos := by rw [unstarted]; rfl
    let fault : Desk :=
      { ch := { c with deckA := failedDeck k allowance }
        holds := put s.store.holds k.cart (s.store.holds.get k.cart - 1)
        out := [{ (s.env n).fillEnd none slot k .mediaFault with position := (s.env n).pos }] }
    have is : ((s.desk n).setDeck .a (k.spent allowance)).faultDeck (s.env n) .a = fault := by
      refine (Desk.faultDeck_fill (d := (s.desk n).setDeck .a (k.spent allowance)) (id := .a) _ item split (.inr (Desk.waiting_not_sounding waits))).trans ?_
      exact congrArg (fun q => ({ fault with out := [{ (s.env n).fillEnd none slot k .mediaFault with position := q }] } : Desk)) position
    have service : fault.service (s.env n) = fault := by
      obtain ⟨ofPlan, ofWindow⟩ := (fillChoice.2.2.2 (s.env n) fault).2 state
      rcases calm with ⟨h, plan, window, stage⟩ | ⟨p, plan, primed, unwanted, empty⟩
      · exact ofWindow h plan window stage
      · exact ofPlan p plan primed unwanted empty
    rw [is, service]
    rfl

end Sys2Proof.Machine

/-! The runs that the start-up scan has found, and its end (O59). -/

namespace Sys2Proof.Machine

/-! ### Runs (R153) -/

/-- The units from u on hold the headers of cart c with the ordinals 0 to n - 1, within one bank. -/
def Scan.RunAt (t : Scan) (c : Fin 1024) (u n : Nat) : Prop :=
  u % 1024 + n ≤ 1024 ∧ ∀ j, j < n → t.classes[u + j]? = some (some (.header c j))

/-- R153: the scan found the run of n units at u for cart c, with its cart header h in READY grade. -/
def Scan.Head (t : Scan) (c : Fin 1024) (u n : Nat) (h : Option CartHeader) : Prop :=
  u < 4096 ∧ t.runAt u = some { cart := c, unit := u, count := n, header := h }

/-- R153: of the runs of cart c the one kept: READY grade before TORN grade, then the lowest head. -/
def Scan.Kept (t : Scan) (c : Fin 1024) (u n : Nat) (h : Option CartHeader) : Prop :=
  t.Head c u n h ∧ ∀ v m g, t.Head c v m g → (g.isSome = true → h.isSome = true) ∧ (g.isSome = h.isSome → u ≤ v)

namespace Scan

section
variable {t : Scan} {c : Fin 1024} {u : Nat}

theorem classAt_iff {v : Nat} {x : UnitClass} : t.classAt v = some x ↔ t.classes[v]? = some (some x) := Option.join_eq_some_iff

theorem runAt_mono {n m : Nat} (run : t.RunAt c u n) (less : m ≤ n) : t.RunAt c u m :=
  ⟨Nat.le_trans (Nat.add_le_add_left less _) run.1, fun j inside => run.2 j (Nat.lt_of_lt_of_le inside less)⟩

theorem runAt_one : t.RunAt c u 1 ↔ t.classAt u = some (.header c 0) := by
  rw [classAt_iff]
  constructor
  · intro run
    exact run.2 0 Nat.one_pos
  · intro head
    refine ⟨by omega, fun j inside => ?_⟩
    cases Nat.lt_one_iff.mp inside
    exact head

/-- The search from a run of n units finds the longest one. -/
theorem unbroken_iff (fuel n : Nat) (room : u % 1024 + n + fuel = 1024) (run : t.RunAt c u n) (m : Nat) :
    t.RunAt c u m ↔ m ≤ t.unbroken c u fuel n := by
  induction fuel generalizing n with
  | zero => exact ⟨fun longer => (by have := longer.1; change m ≤ n; omega), runAt_mono run⟩
  | succ fuel ih =>
    unfold unbroken follows
    by_cases more : t.classAt (u + n) = some (.header c n)
    · rw [if_pos (decide_eq_true more)]
      refine ih (n + 1) (by omega) ⟨by omega, fun j inside => ?_⟩
      rcases Nat.lt_succ_iff_lt_or_eq.mp inside with less | rfl
      · exact run.2 j less
      · exact classAt_iff.mp more
    · rw [if_neg (by rw [decide_eq_false more]; exact Bool.false_ne_true)]
      refine ⟨fun longer => ?_, runAt_mono run⟩
      by_contra beyond
      exact more (classAt_iff.mpr (longer.2 n (by omega)))

/-- A run is found at its head. -/
theorem runAt_head {f : Found} (found : t.runAt u = some f) : t.classAt u = some (.header f.cart 0) ∧ f.unit = u := by
  unfold runAt at found
  split at found
  · next c class' =>
    dsimp only at found
    split at found
    · split at found
      · cases found
        exact ⟨class', rfl⟩
      · cases found
        exact ⟨class', rfl⟩
    · cases found
      exact ⟨class', rfl⟩
  · cases found

/-- The runs that the scan finds are those of R153. -/
theorem head_iff (n : Nat) (h : Option CartHeader) : t.Head c u n h ↔
    u < 4096 ∧ t.RunAt c u 1 ∧ match h with
      | some x => t.headers.lookup u = some x ∧ n = x.count ∧ t.RunAt c u n
      | none => (∀ x, t.headers.lookup u = some x → ¬ t.RunAt c u x.count) ∧ t.RunAt c u n ∧ ¬ t.RunAt c u (n + 1) := by
  refine and_congr_right fun _ => ?_
  rw [runAt_one]
  by_cases head : t.classAt u = some (.header c 0)
  · have longest := unbroken_iff (1024 - u % 1024 - 1) 1 (by omega) (runAt_one.mpr head)
    simp only [longest, head, true_and]
    cases lookup : t.headers.lookup u with
    | none =>
      have found : t.runAt u = some { cart := c, unit := u, count := t.unbroken c u (1024 - u % 1024 - 1) 1, header := none } := by
        unfold runAt
        rw [head] <;> dsimp only <;> rw [lookup] <;> rfl
      rw [found]
      cases h with
      | none => simp; omega
      | some x => simp
    | some y =>
      have found : t.runAt u = if y.count ≤ t.unbroken c u (1024 - u % 1024 - 1) 1 then
          some { cart := c, unit := u, count := y.count, header := some y }
        else some { cart := c, unit := u, count := t.unbroken c u (1024 - u % 1024 - 1) 1, header := none } := by
        unfold runAt
        rw [head] <;> dsimp only <;> rw [lookup] <;> rfl
      rw [found]
      by_cases whole : y.count ≤ t.unbroken c u (1024 - u % 1024 - 1) 1
      · cases h with
        | none => simp [whole]
        | some x =>
          simp only [whole, if_true, Option.some.injEq, Found.mk.injEq, true_and]
          constructor
          · rintro ⟨rfl, rfl⟩
            exact ⟨rfl, rfl, whole⟩
          · rintro ⟨rfl, rfl, _⟩
            exact ⟨rfl, rfl⟩
      · cases h with
        | none => simp [whole]; omega
        | some x =>
          simp only [whole, if_false, Option.some.injEq, Found.mk.injEq, reduceCtorEq, and_false, false_iff]
          rintro ⟨rfl, rfl, short⟩
          exact whole short
  · exact ⟨fun found => absurd (runAt_head found).1 head, fun ⟨here, _⟩ => absurd here head⟩

end

/-! ### The run kept (R153) -/

/-- The first of a list in an order that has the property comes before each other one. -/
theorem find_first {α : Type} {r : α → α → Prop} {p : α → Bool} {l : List α} (order : l.Pairwise r) {a b : α} (found : l.find? p = some a)
    (mem : b ∈ l) (has : p b = true) : b = a ∨ r a b := by
  induction l with
  | nil => cases mem
  | cons x rest ih =>
    obtain ⟨first, later⟩ := List.pairwise_cons.mp order
    by_cases own : p x = true
    · rw [List.find?_cons_of_pos own] at found
      cases found
      exact (List.mem_cons.mp mem).imp id (first b)
    · rw [List.find?_cons_of_neg own] at found
      rcases List.mem_cons.mp mem with rfl | mem
      · exact absurd has own
      · exact ih later found mem

theorem found_sorted (t : Scan) : t.found.Pairwise (fun f g => f.unit < g.unit) := by
  unfold found
  rw [List.pairwise_filterMap]
  refine List.pairwise_lt_range.imp fun {u v} less f at' g next => ?_
  rw [(runAt_head at').2, (runAt_head next).2]
  exact less

theorem mem_found {t : Scan} {f : Found} : f ∈ t.found ↔ t.Head f.cart f.unit f.count f.header := by
  unfold found Head
  rw [List.mem_filterMap]
  constructor
  · rintro ⟨u, mem, here⟩
    have own := (runAt_head here).2
    subst own
    exact ⟨List.mem_range.mp mem, here⟩
  · rintro ⟨inside, here⟩
    exact ⟨f.unit, List.mem_range.mpr inside, here⟩

section
variable {t : Scan} {c : Fin 1024}

theorem mem_mine {f : Found} : f ∈ t.found.filter (fun f => decide (f.cart = c)) ↔ t.Head c f.unit f.count f.header ∧ f.cart = c := by
  rw [List.mem_filter, mem_found, decide_eq_true_eq]
  constructor
  · rintro ⟨head, rfl⟩
    exact ⟨head, rfl⟩
  · rintro ⟨head, rfl⟩
    exact ⟨head, rfl⟩

theorem keptRun_kept {f : Found} (run : keptRun t.found c = some f) : t.Kept c f.unit f.count f.header ∧ f.cart = c := by
  have order : (t.found.filter (fun f => decide (f.cart = c))).Pairwise (fun f g => f.unit < g.unit) := t.found_sorted.filter _
  have mine {v m : Nat} {g : Option CartHeader} (head : t.Head c v m g) :
      ({ cart := c, unit := v, count := m, header := g } : Found) ∈ t.found.filter (fun f => decide (f.cart = c)) := mem_mine.mpr ⟨head, rfl⟩
  unfold keptRun at run
  dsimp only at run
  cases ready : (t.found.filter (fun f => decide (f.cart = c))).find? (fun f => f.header.isSome) with
  | some g =>
    rw [ready] at run
    cases run
    obtain ⟨head, own⟩ := mem_mine.mp (List.mem_of_find?_eq_some ready)
    have has : f.header.isSome = true := List.find?_some (p := fun f : Found => f.header.isSome) ready
    refine ⟨⟨head, fun v m g other => ⟨fun _ => has, fun same => ?_⟩⟩, own⟩
    rcases find_first order ready (mine other) (same.trans has) with rfl | less
    · exact Nat.le_refl _
    · exact Nat.le_of_lt less
  | none =>
    rw [ready] at run
    obtain ⟨head, own⟩ := mem_mine.mp (List.mem_of_head? run)
    have bare {g : Found} (mem : g ∈ t.found.filter (fun f => decide (f.cart = c))) : g.header.isSome = false := by
      have refused := List.find?_eq_none.mp ready g mem
      exact Bool.not_eq_true _ ▸ refused
    refine ⟨⟨head, fun v m g other => ⟨fun has => ?_, fun _ => ?_⟩⟩, own⟩
    · cases has.symm.trans (bare (mine other))
    · obtain ⟨rest, list⟩ := List.head?_eq_some_iff.mp run
      have mem := mine other
      rw [list] at mem order
      rcases List.mem_cons.mp mem with rfl | later
      · exact Nat.le_refl _
      · exact Nat.le_of_lt ((List.pairwise_cons.mp order).1 _ later)

theorem keptRun_none (none : keptRun t.found c = none) (u n : Nat) (h : Option CartHeader) : ¬ t.Head c u n h := by
  intro head
  have mem : ({ cart := c, unit := u, count := n, header := h } : Found) ∈ t.found.filter (fun f => decide (f.cart = c)) := mem_mine.mpr ⟨head, rfl⟩
  unfold keptRun at none
  dsimp only at none
  cases ready : (t.found.filter (fun f => decide (f.cart = c))).find? (fun f => f.header.isSome) with
  | some g =>
    rw [ready] at none
    cases none
  | none =>
    rw [ready] at none
    rw [List.head?_eq_none_iff.mp none] at mem
    cases mem

theorem keptRun_some {u n : Nat} {h : Option CartHeader} (kept : t.Kept c u n h) :
    keptRun t.found c = some { cart := c, unit := u, count := n, header := h } := by
  obtain ⟨head, best⟩ := kept
  cases run : keptRun t.found c with
  | none => exact absurd head (keptRun_none run u n h)
  | some f =>
    obtain ⟨⟨head', best'⟩, own⟩ := keptRun_kept run
    have grade : f.header.isSome = h.isSome := Bool.eq_iff_iff.mpr ⟨(best _ _ _ head').1, (best' _ _ _ head).1⟩
    have place : f.unit = u := Nat.le_antisymm ((best' _ _ _ head).2 grade.symm) ((best _ _ _ head').2 grade)
    obtain ⟨cart, unit, count, header⟩ := f
    subst own place
    exact head'.2.symm.trans head.2

end

end Scan

/-! ### The store rebuilt (R154) -/

namespace Store

variable (t : Store)

theorem rebuilt_entry (c : Fin 1024) : t.rebuilt.catalog.get c = ((keptRun t.scan.found c).map Found.entry).getD CatalogEntry.empty := by
  unfold rebuilt
  rw [Vector.get_ofFn]

theorem rebuilt_kept {c : Fin 1024} {u n : Nat} {h : Option CartHeader} (kept : t.scan.Kept c u n h) :
    t.rebuilt.catalog.get c =
      { state := if h.isSome then .ready else .torn, run := some { bank := Fin.ofNat 4 (u / 1024), first := u % 1024, count := n }
        size := h.map (fun x => { length := x.length, segueOut := x.segueOut }), check := h.map (·.check), download := none } := by
  rw [rebuilt_entry, Scan.keptRun_some kept]
  rfl

theorem rebuilt_empty {c : Fin 1024} (none : ∀ u n h, ¬ t.scan.Head c u n h) : t.rebuilt.catalog.get c = CatalogEntry.empty := by
  rw [rebuilt_entry]
  cases run : keptRun t.scan.found c with
  | none => rfl
  | some f => exact absurd (Scan.keptRun_kept run).1.1 (none _ _ _)

/-- A cart that is not EMPTY has its run. -/
theorem rebuilt_run {c : Fin 1024} (torn : (t.rebuilt.catalog.get c).state = .torn) : ∃ r, (t.rebuilt.catalog.get c).run = some r := by
  rw [rebuilt_entry] at torn ⊢
  cases run : keptRun t.scan.found c with
  | none =>
    rw [run] at torn
    cases torn
  | some f => exact ⟨_, rfl⟩

theorem rebuilt_at {u : Nat} (inside : u < 4096) {x : UnitClass} (class' : t.scan.classes[u]? = some (some x)) :
    UnitMap.at t.rebuilt.map u = some (mapState t.scan.found u (some x)) := by
  have own : t.scan.classes.get ⟨u, inside⟩ = some x := by
    rw [Vector.getElem?_eq_getElem inside] at class'
    exact Option.some.inj class'
  unfold UnitMap.at rebuilt
  dsimp only
  rw [Vector.getElem?_eq_getElem inside, Vector.getElem_ofFn, own]
  rfl

theorem mapState_claimed {u v n : Nat} {c : Fin 1024} {h : Option CartHeader} {ordinal : Nat} (kept : t.scan.Kept c v n h) (after : v ≤ u)
    (before : u < v + n) : mapState t.scan.found u (some (.header c ordinal)) = .claimed := by
  unfold mapState
  dsimp only
  rw [Scan.keptRun_some kept]
  exact if_pos ⟨after, before⟩

theorem mapState_dirty {u : Nat} {c : Fin 1024} {ordinal : Nat} (outside : ∀ v n h, t.scan.Kept c v n h → u < v ∨ v + n ≤ u) :
    mapState t.scan.found u (some (.header c ordinal)) = .dirty := by
  unfold mapState
  dsimp only
  cases run : keptRun t.scan.found c with
  | none => rfl
  | some f =>
    refine if_neg fun ⟨after, before⟩ => ?_
    rcases outside _ _ _ (Scan.keptRun_kept run).1 with less | more <;> omega

/-- The CART_TORN records with the run of each cart as the catalog has it. -/
theorem tornRecords (position : FrameNo) : (t.rebuilt.cartsIn .torn).map (scanTornRecord position t.rebuilt) =
    ((List.finRange 1024).filter (fun c => decide ((t.rebuilt.catalog.get c).state = .torn))).map fun c =>
      { sequence := 0, kind := .cartTorn, position := position, cart := some c, reason := some .tornScan
        frames := (t.rebuilt.catalog.get c).run.map (fun r => BitVec.ofNat 32 r.count)
        detail := (t.rebuilt.catalog.get c).run.map (fun r => BitVec.ofNat 32 (r.bank.val * 1024 + r.first)) } := by
  refine List.map_congr_left fun c mem => ?_
  obtain ⟨r, run⟩ := t.rebuilt_run (of_decide_eq_true (List.mem_filter.mp mem).2)
  unfold scanTornRecord
  rw [Store.runOf_eq run, run]
  rfl

end Store

theorem Log.appendAll_last (l : Log) (rs : List Record) (r : Record) : (l.appendAll rs).append r = l.appendAll (rs ++ [r]) := by
  unfold appendAll
  rw [List.foldl_append]
  rfl

theorem State.setStore_logged (s : State) (t t' : Store) (rs : List Record) (r : Record) :
    (((s.setStore t).appendAll rs).append r).setStore t' = { s with store := t', log := s.log.appendAll (rs ++ [r]) } :=
  congrArg (fun log => ({ s with store := t', log := log } : State)) (s.log.appendAll_last rs r)

/-- R154 where no channel waits for a fill cart. -/
theorem State.scanEndsWith_calm {s : State} (t : Store) (calm : ∀ n, (s.channels.get n).fill.wait = false) : s.scanEndsWith t = { s with
    store := { t with scan := { t.scan with done := true } }
    log := s.log.appendAll ((t.cartsIn .torn).map (scanTornRecord s.time.pos t) ++ [scanDoneRecord s.time.pos t]) } := by
  unfold State.scanEndsWith
  generalize t.cartsIn .torn = torn
  generalize (t.cartsIn .ready).isEmpty = empty
  extract_lets set told ended _ _ done
  have same : done = { s with
      store := { t with scan := { t.scan with done := true } }
      log := s.log.appendAll (torn.map (scanTornRecord s.time.pos t) ++ [scanDoneRecord s.time.pos t]) } :=
    s.setStore_logged t { t with scan := { t.scan with done := true } } (torn.map (scanTornRecord s.time.pos t)) (scanDoneRecord s.time.pos t)
  have calmed : done.cartReady = done := State.cartReady_calm calm
  rw [calmed, ite_self, same]

/-- Settles O59: the last read ends the scan, and the store is rebuilt from the runs that R153 keeps. -/
theorem scanEnds : Obligations.ScanEnds := by
  unfold Obligations.ScanEnds
  intro s b attempt p k held bank others class' plain calm classes run head kept
  let scan := s.store.scan.marked b 1023 k (nextUnit 1023)
  let read : State := (s.freed b).setStore { s.store with scan := scan }
  have headIff (c : Fin 1024) (u n : Nat) (h : Option CartHeader) : head c u n h ↔ scan.Head c u n h := by
    rw [Scan.head_iff]
    exact Iff.rfl
  have keptIff (c : Fin 1024) (u n : Nat) (h : Option CartHeader) : kept c u n h ↔ scan.Kept c u n h :=
    and_congr (headIff c u n h) (forall_congr' fun v => forall_congr' fun m => forall_congr' fun g => imp_congr (headIff c v m g) Iff.rfl)
  have reads : s.store.scan.page0Read b { read := some { unit := 1023, page1 := false }, attempt := attempt } 1023 (some p) = scan :=
    s.store.scan.page0Read_classed b _ 1023 class' plain
  have ended : scan.banks.toList.all (fun x => x.read.isNone) = true := by
    refine List.all_eq_true.mpr fun x mem => Option.isNone_iff_eq_none.mpr ?_
    obtain ⟨m, rfl⟩ := (mem_toList_iff_get _ _).mp mem
    change ((put s.store.scan.banks b (nextUnit 1023)).get m).read = none
    rw [get_put]
    split
    · rfl
    · next other => exact others m (Ne.symm other)
  have runs : exec (.scanReadComplete (.other p)) s = .next read.endScan := by
    rw [exec_scanRead held bank (outcome := .other p) (scan := scan) reads, if_pos ended]
  rw [State.endScan_eq, State.scanEndsWith_calm (s := read) _ calm, Store.tornRecords] at runs
  have kept_entry {c : Fin 1024} {u n : Nat} {h : Option CartHeader} (keeps : kept c u n h) :=
    read.store.rebuilt_kept ((keptIff c u n h).mp keeps)
  have empty_entry {c : Fin 1024} (none : ∀ u n h, ¬ head c u n h) :=
    read.store.rebuilt_empty fun u n h => mt (headIff c u n h).mpr (none u n h)
  have units {u : Nat} (inside : u < 4096) {x : UnitClass} (has : classes[u]? = some (some x)) := read.store.rebuilt_at inside has
  obtain ⟨map, catalog, rebuilt, _⟩ := read.store.rebuilt_eq
  rw [rebuilt] at runs kept_entry empty_entry units
  refine ⟨_, runs, rfl, fun c u n h keeps => kept_entry keeps, fun c none => empty_entry none, fun u x inside has => ?_⟩
  have unit := units inside has
  refine ⟨?_, ?_, ?_, fun c ordinal header => ⟨fun v n h keeps after before => ?_, fun outside => ?_⟩⟩
  · rintro rfl
    exact unit
  · rintro rfl
    exact unit
  · rintro (rfl | rfl)
    · exact unit
    · exact unit
  · subst header
    exact unit.trans (congrArg some (read.store.mapState_claimed ((keptIff c v n h).mp keeps) after before))
  · subst header
    exact unit.trans (congrArg some (read.store.mapState_dirty fun v n h keeps => outside v n h ((keptIff c v n h).mpr keeps)))

end Sys2Proof.Machine

/-! The records that a desk already holds have no part in what its rules do: they stay first. -/

namespace Sys2Proof.Machine.Desk

variable (e : Env) (said : List Record) (d : Desk)

/-- The desk with records written before its own. -/
def after : Desk := { d with out := said ++ d.out }

theorem ite_after {p : Prop} [Decidable p] {x y x' y' : Desk} (pos : x' = x.after said) (neg : y' = y.after said) :
    (if p then x' else y') = (if p then x else y).after said := by
  by_cases h : p
  · rw [if_pos h, if_pos h, pos]
  · rw [if_neg h, if_neg h, neg]

theorem foldl_after {α : Type} {rule : Desk → α → Desk} (each : ∀ d x, rule (d.after said) x = (rule d x).after said) (xs : List α) :
    xs.foldl rule (d.after said) = (xs.foldl rule d).after said := by
  induction xs generalizing d with
  | nil => rfl
  | cons x xs ih => rw [List.foldl_cons, List.foldl_cons, each, ih]

/-! ### What a rule reads -/

theorem ch_after : (d.after said).ch = d.ch := rfl
theorem deck_after (id : DeckId) : (d.after said).deck id = d.deck id := rfl
theorem entry_after (i : Fin 128) : (d.after said).entry i = d.entry i := rfl
theorem item_after (r : ItemRef) : (d.after said).item r = d.item r := rfl
theorem idleDeck_after : (d.after said).idleDeck = d.idleDeck := rfl
theorem candidateDeck_after : (d.after said).candidateDeck = d.candidateDeck := rfl
theorem scanSlots_after : (d.after said).scanSlots = d.scanSlots := rfl
theorem slotGranted_after : (d.after said).slotGranted e = d.slotGranted e := rfl
theorem nextPlanned_after (items : List PlanItem) : (d.after said).nextPlanned items = d.nextPlanned items := rfl
theorem nextPlayable_after : (d.after said).nextPlayable = d.nextPlayable := rfl
theorem pendingB_after : (d.after said).pendingB = d.pendingB := rfl
theorem starved_after : (d.after said).starved = d.starved := rfl
theorem headEntry_after : (d.after said).headEntry = d.headEntry := rfl
theorem onDeck_after : (d.after said).onDeck = d.onDeck := rfl
theorem openItems_after (entries : List (Fin 128)) : (d.after said).openItems entries = d.openItems entries := rfl

/-! ### Items and their results -/

theorem setItem_after (r : ItemRef) (x : Item) : (d.after said).setItem r x = (d.setItem r x).after said := rfl

theorem record_after (r : Record) : (d.after said).record e r = (d.record e r).after said :=
  congrArg (fun out => ({ d with out := out } : Desk)) (List.append_assoc said d.out _)

theorem unhold_after (r : ItemRef) : (d.after said).unhold r = (d.unhold r).after said := ite_after said rfl rfl

theorem claim_after (r : ItemRef) : (d.after said).claim e r = (d.claim e r).after said := ite_after said rfl rfl

/-- The item has left the split's items and its entry, where all of it is final, the channel. -/
def closed (r : ItemRef) : Desk :=
  let d := { d with ch := { d.ch with split := d.ch.split.map (Split.without r) } }
  if (d.entry r.index).allFinal then d.returnEntry r.index else d

theorem closed_after (r : ItemRef) : (d.after said).closed r = (d.closed r).after said := ite_after said rfl rfl

theorem settle_after (r : ItemRef) (result : Result) (rec? : Option (BreakNo × FrameNo × Nat)) :
    (d.after said).settle e r result rec? = (d.settle e r result rec?).after said := by
  let given : Desk := (d.setItem r { d.item r with result := result, provisional := false }).unhold r
  have gives : ((d.after said).setItem r { d.item r with result := result, provisional := false }).unhold r = given.after said :=
    unhold_after said (d.setItem r { d.item r with result := result, provisional := false }) r
  cases rec? with
  | none => exact (congrArg (closed · r) gives).trans (given.closed_after said r)
  | some x =>
    obtain ⟨number, position, underruns⟩ := x
    let rec' : Record := { note .item position with
      breakNo := some number, ring := some (r.index, some r.part), cart := some (d.item r).cart, reason := some (.result result),
      frames := some (BitVec.ofNat 32 (d.item r).aired), detail := some (BitVec.ofNat 32 underruns) }
    have writes := (congrArg (record e rec') gives).trans (given.record_after e said rec')
    exact (congrArg (closed · r) writes).trans ((given.record e rec').closed_after said r)

theorem finishUnsounded_after (result : Result) (r : ItemRef) :
    (d.after said).finishUnsounded e result r = (d.finishUnsounded e result r).after said :=
  d.settle_after e said r result _

theorem finishOnDeck_after (k : Deck) (result : Result) (r : ItemRef) :
    (d.after said).finishOnDeck e k result r = (d.finishOnDeck e k result r).after said := by
  unfold finishOnDeck
  rw [settle_after]
  rfl

theorem finishFill_after (k : Deck) (slot : Fin 16) (result : Result) :
    (d.after said).finishFill e k slot result = (d.finishFill e k slot result).after said :=
  (d.releaseHold k.cart).record_after e said _

theorem endDeck_after (id : DeckId) (result : Result) : (d.after said).endDeck e id result = (d.endDeck e id result).after said := by
  unfold endDeck
  dsimp only [deck_after]
  cases (d.deck id).item with
  | none => rfl
  | some item =>
    cases item with
    | ring r =>
      dsimp only
      rw [finishOnDeck_after]
      rfl
    | fill slot =>
      dsimp only
      rw [finishFill_after]
      rfl

theorem giveUp_after (id : DeckId) : (d.after said).giveUp id = (d.giveUp id).after said := by
  unfold giveUp
  dsimp only [deck_after]
  cases (d.deck id).fillItem with
  | none => rfl
  | some slot => exact ite_after said rfl rfl

theorem giveUpCandidate_after : (d.after said).giveUpCandidate = d.giveUpCandidate.after said := by
  unfold giveUpCandidate
  rw [candidateDeck_after]
  cases d.candidateDeck with
  | none => rfl
  | some id => exact d.giveUp_after said id

theorem takeDeck_after : (d.after said).takeDeck = d.takeDeck.map (fun x => (x.1, x.2.after said)) := by
  unfold takeDeck
  rw [idleDeck_after, candidateDeck_after]
  cases d.idleDeck with
  | some id => rfl
  | none =>
    cases d.candidateDeck with
    | none => rfl
    | some id =>
      dsimp only
      rw [giveUp_after, deck_after]
      by_cases h : (d.deck (otherDeck id)).sounding = true
      · rw [if_pos h, if_pos h]
        rfl
      · rw [if_neg h, if_neg h]
        rfl

theorem mediaFault_after (id : DeckId) : (d.after said).mediaFault e id = (d.mediaFault e id).after said := by
  have ends := d.endDeck_after e said id .mediaFault
  unfold mediaFault
  dsimp only [deck_after]
  cases (d.deck id).item with
  | none => exact ends
  | some item =>
    cases item with
    | fill slot => exact ends
    | ring r => exact ite_after said rfl ends

/-! ### The choice of a fill item -/

theorem chooseFill_after (mode : StartMode) : (d.after said).chooseFill e mode = (d.chooseFill e mode).after said := by
  unfold chooseFill
  rw [idleDeck_after, candidateDeck_after, scanSlots_after, slotGranted_after]
  cases d.idleDeck with
  | none => rfl
  | some id =>
    cases d.candidateDeck with
    | some c => rfl
    | none =>
      cases d.scanSlots with
      | none => rfl
      | some slots =>
        dsimp only
        cases slots.find? (d.slotGranted e) <;> rfl

theorem chooseCalled_after : (d.after said).chooseCalled e = (d.chooseCalled e).after said := by
  unfold chooseCalled
  refine ite_after said rfl ?_
  dsimp only
  rw [chooseFill_after]
  exact ite_after said rfl rfl

/-! ### What comes next, loaded -/

theorem loadPlanned_after (items : List PlanItem) : (d.after said).loadPlanned e items = (d.loadPlanned e items).after said := by
  unfold loadPlanned
  rw [takeDeck_after, nextPlanned_after]
  cases d.nextPlanned items with
  | none => rfl
  | some x => cases d.takeDeck <;> rfl

theorem loadPlannedAll_after (items : List PlanItem) :
    (d.after said).loadPlannedAll e items = (d.loadPlannedAll e items).after said := by
  unfold loadPlannedAll
  rw [loadPlanned_after, loadPlanned_after]

theorem servicePlan_after (p : Plan) : (d.after said).servicePlan e p = (d.servicePlan e p).after said :=
  ite_after said (ite_after said (d.chooseCalled_after e said) rfl) (d.loadPlannedAll_after e said p.items)

theorem serviceSplit_after (opening : Bool) (x : Split) :
    (d.after said).serviceSplit e opening x = (d.serviceSplit e opening x).after said := by
  unfold serviceSplit
  cases x.phase with
  | items =>
    dsimp only
    rw [loadPlannedAll_after]
    exact ite_after said (chooseFill_after e said _ .named) rfl
  | fill =>
    exact ite_after said rfl (ite_after said (chooseFill_after e said (d.setSplit { x with phase := .fill, wantFill := false }) .following) (d.chooseFill_after e said _))
  | pad => rfl
  | closing => rfl

theorem loadBreakItem_after : (d.after said).loadBreakItem e = (d.loadBreakItem e).after said := by
  unfold loadBreakItem
  rw [takeDeck_after, nextPlayable_after]
  cases d.nextPlayable with
  | none => rfl
  | some r => cases d.takeDeck <;> rfl

theorem serviceBreak_after : (d.after said).serviceBreak e = (d.serviceBreak e).after said := by
  unfold serviceBreak
  rw [loadBreakItem_after, loadBreakItem_after]

theorem nextWindowItem_after : (d.after said).nextWindowItem = d.nextWindowItem.map (fun x => (x.1, x.2.after said)) := by
  have singly : (d.after said).takeSingly = d.takeSingly.map (fun x => (x.1, x.2.after said)) := by
    unfold takeSingly
    rw [headEntry_after]
    by_cases h : d.headEntry.owner = .channel
    · rw [if_pos h, if_pos h]
      rfl
    · rw [if_neg h, if_neg h]
      rfl
  unfold nextWindowItem
  rw [singly, pendingB_after, openItems_after, onDeck_after, ch_after]
  cases d.pendingB with
  | some r => rfl
  | none =>
    dsimp only
    cases (d.openItems [d.ch.head]).find? (fun r => !d.onDeck r) with
    | none => rfl
    | some r => cases d.takeSingly <;> rfl

theorem loadWindowItem_after (fuel : Nat) :
    (d.after said).loadWindowItem e fuel = ((d.loadWindowItem e fuel).1.after said, (d.loadWindowItem e fuel).2) := by
  induction fuel generalizing d with
  | zero => rfl
  | succ fuel ih =>
    unfold loadWindowItem
    rw [takeDeck_after, nextWindowItem_after, Option.isSome_map]
    cases d.takeDeck.isSome with
    | false => rfl
    | true =>
      rw [if_pos rfl, if_pos rfl]
      cases d.nextWindowItem with
      | none => rfl
      | some next =>
        obtain ⟨r, t⟩ := next
        dsimp -zeta only [Option.map_some]
        extract_lets s1 s2 s3 c1 c2 c3
        have second : s3 = c3.after said := c2.claim_after e said r
        rw [second, finishUnsounded_after, ih, takeDeck_after]
        change (if (c3.item r).held = true then _ else _) = _
        cases (c3.item r).held with
        | false => rfl
        | true => cases c3.takeDeck <;> rfl

theorem localNext_after (opening : Bool) : (d.after said).localNext e opening = (d.localNext e opening).after said := by
  unfold localNext
  refine ite_after said rfl ?_
  rw [loadWindowItem_after]
  obtain ⟨t, loaded⟩ := d.loadWindowItem e ringFuel
  exact ite_after said rfl (ite_after said rfl (t.chooseFill_after e said _))

theorem serviceLocal_after (opening : Bool) : (d.after said).serviceLocal e opening = (d.serviceLocal e opening).after said := by
  unfold serviceLocal
  rw [localNext_after, localNext_after]
  rw [ch_after]
  cases d.ch.window with
  | none => rfl
  | some w => exact ite_after said rfl rfl

theorem lookAtHead_after : (d.after said).lookAtHead e = (d.lookAtHead e).after said := by
  unfold lookAtHead
  rw [giveUpCandidate_after, localNext_after]
  rw [ch_after]
  cases d.ch.window with
  | none => rfl
  | some w => exact ite_after said rfl rfl

theorem prepareRing_after {otherwise : Desk → Desk} (other : ∀ t : Desk, otherwise (t.after said) = (otherwise t).after said) :
    (d.after said).prepareRing e otherwise = (d.prepareRing e otherwise).after said := by
  unfold prepareRing
  refine ite_after said rfl ?_
  rw [loadWindowItem_after]
  obtain ⟨t, loaded⟩ := d.loadWindowItem e ringFuel
  exact ite_after said rfl (ite_after said rfl (other t))

theorem serviceFallback_after (opening : Bool) :
    (d.after said).serviceFallback e opening = (d.serviceFallback e opening).after said :=
  ite_after said (d.chooseFill_after e said _) rfl

theorem serviceHeld_after (opening : Bool) (h : HeldWindow) :
    (d.after said).serviceHeld e opening h = (d.serviceHeld e opening h).after said := by
  unfold serviceHeld
  cases h.stage with
  | ring => exact d.prepareRing_after e said (fun _ => rfl)
  | call => exact d.chooseCalled_after e said
  | fill => rfl
  | waiting => exact d.serviceFallback_after e said opening
  | nothing => exact d.serviceFallback_after e said opening

theorem serviceAs_after (opening : Bool) : (d.after said).serviceAs opening e = (d.serviceAs opening e).after said := by
  have idle := d.serviceFallback_after e said opening
  have open' : (match d.ch.plan, d.ch.held with
      | some p, _ => if p.primed then (d.after said).servicePlan e p else (d.after said).serviceFallback e opening
      | none, some h => (d.after said).serviceHeld e opening h
      | none, none => (d.after said).serviceFallback e opening) = (match d.ch.plan, d.ch.held with
      | some p, _ => if p.primed then d.servicePlan e p else d.serviceFallback e opening
      | none, some h => d.serviceHeld e opening h
      | none, none => d.serviceFallback e opening).after said := by
    cases d.ch.plan with
    | some p => exact ite_after said (d.servicePlan_after e said p) idle
    | none =>
      cases d.ch.held with
      | some h => exact d.serviceHeld_after e said opening h
      | none => exact idle
  unfold serviceAs
  rw [ch_after]
  cases d.ch.state with
  | bypass => rfl
  | pass => exact open'
  | fallback => exact open'
  | split =>
    cases d.ch.split with
    | none => rfl
    | some x => exact d.serviceSplit_after e said opening x
  | brk =>
    cases d.ch.brk with
    | none => rfl
    | some b => exact ite_after said (d.serviceBreak_after e said) rfl
  | loc => exact d.serviceLocal_after e said opening

theorem faultDeck_after (id : DeckId) : (d.after said).faultDeck e id = (d.faultDeck e id).after said := by
  unfold faultDeck
  dsimp only
  rw [mediaFault_after, lookAtHead_after]
  exact ite_after said rfl rfl

/-! ### The emission -/

theorem abandon_after (ids : List DeckId) : (d.after said).abandon e ids = (d.abandon e ids).after said := by
  unfold abandon
  rw [starved_after]
  cases ids.filter d.starved with
  | nil => rfl
  | cons id starving =>
    dsimp only
    rw [foldl_after said d (fun d id => d.faultDeck_after e said id)]
    exact serviceAs_after e said _ false

theorem emitDeck_after (id : DeckId) : (d.after said).emitDeck id = (d.emitDeck id).after said := by
  unfold emitDeck countAired
  rw [deck_after]
  cases (d.deck id).next? with
  | none => rfl
  | some x => cases (d.deck id).ringItem <;> rfl

theorem emitAbandon_after : (d.after said).emit.abandonDecks e = (d.emit.abandonDecks e).after said := by
  have emits : (d.after said).emit = d.emit.after said := by
    unfold emit
    rw [emitDeck_after, emitDeck_after]
    rfl
  rw [emits]
  exact d.emit.abandon_after e said d.emit.decksInOrder

end Sys2Proof.Machine.Desk

/-! An output period, channel by channel (O25). -/

namespace Sys2Proof.Machine

theorem Log.appendAll_append (l : Log) (rs rs' : List Record) : (l.appendAll rs).appendAll rs' = l.appendAll (rs ++ rs') :=
  (List.foldl_append ..).symm

/-! ### One channel -/

section
variable (s : State) (n : Fin 4)

/-- Channel n after its rules of an output period. -/
def State.ruled : Desk := (s.desk n).period (s.env n)

/-- Channel n after its frame is emitted and its starved items are given up. -/
def State.gaveFrame : Desk := (s.ruled n).emit.abandonDecks (s.env n)

/-- A second rule on a channel, after the records of the first are written and a frame is given to the output. -/
theorem State.putDesk_then (d : Desk) (frame : Composer) (rule : Env → Desk → Desk)
    (keeps : ∀ said d, rule (s.env n) (d.after said) = (rule (s.env n) d).after said) :
    ({ s.putDesk n d with outputs := put s.outputs n frame } : State).onChannel n rule = { s with
      channels := put s.channels n (rule (s.env n) d).ch
      outputs := put s.outputs n frame
      store := { s.store with holds := (rule (s.env n) d).holds }
      log := s.log.appendAll (rule (s.env n) d).out } := by
  have whole : d = ({ d with out := [] } : Desk).after d.out :=
    congrArg (fun out => ({ d with out := out } : Desk)) (List.append_nil d.out).symm
  have gives : rule (s.env n) d = (rule (s.env n) { d with out := [] }).after d.out :=
    (congrArg (rule (s.env n)) whole).trans (keeps d.out _)
  have seen : ({ s.putDesk n d with outputs := put s.outputs n frame } : State).desk n = { d with out := [] } :=
    congrArg (fun c => ({ ch := c, holds := d.holds, out := [] } : Desk)) (get_put_same s.channels n d.ch)
  rw [gives]
  refine (congrArg (fun t => ({ s.putDesk n d with outputs := put s.outputs n frame } : State).putDesk n (rule (s.env n) t)) seen).trans ?_
  generalize rule (s.env n) { d with out := [] } = t
  change ({ s with
    channels := put (put s.channels n d.ch) n t.ch
    outputs := put s.outputs n frame
    store := { s.store with holds := t.holds }
    log := (s.log.appendAll d.out).appendAll t.out } : State) = _
  rw [put_put, Log.appendAll_append]
  rfl

theorem State.channelPeriod_eq : s.channelPeriod n = { s with
    channels := put s.channels n (s.gaveFrame n).ch
    outputs := put s.outputs n (Composer.emit ((s.ruled n).outFrame (s.env n) s.networkFrame))
    store := { s.store with holds := (s.gaveFrame n).holds }
    log := s.log.appendAll (s.gaveFrame n).out } := by
  have shows : ((s.putDesk n (s.ruled n)).desk n).outFrame (s.env n) s.networkFrame =
      (s.ruled n).outFrame (s.env n) s.networkFrame := by
    generalize s.ruled n = d
    exact congrArg (fun c => ({ ch := c, holds := d.holds, out := [] } : Desk).outFrame (s.env n) s.networkFrame)
      (get_put_same s.channels n d.ch)
  have runs : s.channelPeriod n =
      ({ s.putDesk n (s.ruled n) with
          outputs := put s.outputs n (Composer.emit ((s.ruled n).outFrame (s.env n) s.networkFrame)) } : State).onChannel n
        (fun e d => d.emit.abandonDecks e) := by
    rw [← shows]
    rfl
  rw [runs]
  exact s.putDesk_then n (s.ruled n) _ (fun e d => d.emit.abandonDecks e) (fun said d => d.emitAbandon_after (s.env n) said)

theorem State.channelPeriod_channels : (s.channelPeriod n).channels = put s.channels n (s.gaveFrame n).ch := by
  rw [State.channelPeriod_eq]

theorem State.channelPeriod_outputs : (s.channelPeriod n).outputs =
    put s.outputs n (Composer.emit ((s.ruled n).outFrame (s.env n) s.networkFrame)) := by
  rw [State.channelPeriod_eq]

theorem State.channelPeriod_log : (s.channelPeriod n).log = s.log.appendAll (s.gaveFrame n).out := by
  rw [State.channelPeriod_eq]

theorem State.channelPeriod_holds : (s.channelPeriod n).store.holds = (s.gaveFrame n).holds := by
  rw [State.channelPeriod_eq]

end

/-! ### The four channels in turn -/

section
variable (s : State)

/-- The state after channels 0 to k - 1. -/
def State.channelsTo : Nat → State
  | 0 => s
  | k + 1 => (State.channelsTo k).channelPeriod (Fin.ofNat 4 k)

theorem State.channelsTo_next (k : Nat) : s.channelsTo (k + 1) = (s.channelsTo k).channelPeriod (Fin.ofNat 4 k) := rfl

/-- The rules of the channels change the channels, the outputs, the hold counts and the log alone. -/
theorem State.channelsTo_frame (k : Nat) : s.channelsTo k = { s with
    channels := (s.channelsTo k).channels, outputs := (s.channelsTo k).outputs
    store := { s.store with holds := (s.channelsTo k).store.holds }, log := (s.channelsTo k).log } := by
  induction k with
  | zero => rfl
  | succ k ih =>
    have next := (s.channelsTo k).channelPeriod_eq (Fin.ofNat 4 k)
    rw [State.channelsTo_next, next, ih]

theorem State.channelsTo_env (k : Nat) (n : Fin 4) : (s.channelsTo k).env n = s.env n := by rw [State.channelsTo_frame]; rfl

theorem State.channelsTo_networkFrame (k : Nat) : (s.channelsTo k).networkFrame = s.networkFrame := by
  rw [State.channelsTo_frame]; rfl

theorem State.channelsTo_succ (n : Fin 4) : s.channelsTo (n.val + 1) = (s.channelsTo n.val).channelPeriod n :=
  congrArg (State.channelPeriod (s.channelsTo n.val)) (Fin.ofNat_val_eq_self n)

/-- The channels still to come are as they were. -/
theorem State.channelsTo_later {k : Nat} {n : Fin 4} (later : k ≤ n.val) : (s.channelsTo k).channels.get n = s.channels.get n := by
  induction k with
  | zero => rfl
  | succ k ih =>
    have other : Fin.ofNat 4 k ≠ n := by
      intro same
      have := congrArg Fin.val same
      simp only [Fin.ofNat] at this
      omega
    rw [State.channelsTo_next, State.channelPeriod_channels, get_put_other _ _ _ _ other]
    exact ih (by omega)

/-- A channel that has had its rules, and its output, stay as they are. -/
theorem State.channelsTo_done {n : Fin 4} {k : Nat} (done : n.val < k) (within : k ≤ 4) :
    (s.channelsTo k).channels.get n = ((s.channelsTo n.val).gaveFrame n).ch ∧
      (s.channelsTo k).outputs.get n =
        Composer.emit (((s.channelsTo n.val).ruled n).outFrame (s.env n) s.networkFrame) := by
  induction k with
  | zero => omega
  | succ k ih =>
    by_cases same : n.val = k
    · subst same
      rw [State.channelsTo_succ, State.channelPeriod_channels, State.channelPeriod_outputs, get_put_same, get_put_same,
        s.channelsTo_env, s.channelsTo_networkFrame]
      exact ⟨rfl, rfl⟩
    · have other : Fin.ofNat 4 k ≠ n := by
        intro same
        have := congrArg Fin.val same
        simp only [Fin.ofNat] at this
        omega
      obtain ⟨channel, output⟩ := ih (by omega) (by omega)
      rw [State.channelsTo_next, State.channelPeriod_channels, State.channelPeriod_outputs, get_put_other _ _ _ _ other, get_put_other _ _ _ _ other]
      exact ⟨channel, output⟩

theorem State.channelsTo_log (k : Nat) : (s.channelsTo k).log =
    s.log.appendAll ((List.range k).flatMap (fun j => ((s.channelsTo j).gaveFrame (Fin.ofNat 4 j)).out)) := by
  induction k with
  | zero => rfl
  | succ k ih =>
    rw [List.range_succ, List.flatMap_append, List.flatMap_cons, List.flatMap_nil, List.append_nil, ← Log.appendAll_append, ← ih]
    exact (s.channelsTo k).channelPeriod_log _

theorem State.channelPeriods_eq : (List.finRange 4).foldl State.channelPeriod s = s.channelsTo 4 := rfl

end

/-! ### The watches of the outputs -/

/-- The channels replaced. -/
def State.withChannels (s : State) (cs : Vector Channel 4) : State := { s with channels := cs }

theorem State.ite_channels {p : Prop} [Decidable p] {x y x' y' : State} {cs : Vector Channel 4}
    (pos : x' = x.withChannels cs) (neg : y' = y.withChannels cs) :
    (if p then x' else y') = (if p then x else y).withChannels cs := by
  by_cases h : p
  · rw [if_pos h, if_pos h, pos]
  · rw [if_neg h, if_neg h, neg]

theorem State.tripWatch_channels (s : State) (cs : Vector Channel 4) (i : Fin 5) :
    (s.withChannels cs).tripWatch i = (s.tripWatch i).withChannels cs :=
  congrArg (State.append · ((s.watches.get i).tripRecord i)) (State.ite_channels
    (p := i = 0 ∧ (s.watches.get i).direction = .quiet ∧ s.feed.state = .locked)
    (x := ({ s.setWatch i { s.watches.get i with tripped := true } with
      feed := { (s.feed.publishBreak .silent ((s.watches.get i).first.getD 0)) with state := .silent } } : State).append
        (note .feedSilent ((s.watches.get i).first.getD 0)))
    (y := s.setWatch i { s.watches.get i with tripped := true }) (cs := cs) rfl rfl)

/-- What is observed does not touch the channels, and is not touched by them. -/
theorem State.observe_channels (s : State) (cs : Vector Channel 4) (i : Fin 5) (x : FrameNo) (depth : Nat) :
    (s.withChannels cs).observe i x depth = (s.observe i x depth).withChannels cs :=
  State.ite_channels
    (State.ite_channels
      (State.ite_channels ((s.setWatch i ((s.watches.get i).lengthen x depth)).tripWatch_channels cs i) rfl)
      (State.ite_channels (State.ite_channels rfl rfl) rfl))
    rfl

theorem State.observeOutput_emitted {s : State} {n : Fin 4} {o : OutFrame} (emits : (s.outputs.get n).emitted = some o) :
    s.observeOutput n = s.observe n.succ o.position (peakDepth o.audio) := by
  unfold State.observeOutput
  rw [emits]

/-- R20: each watch of an output observes the frame that its output emits. -/
theorem State.observeOutputs_emitted (ns : List (Fin 4)) (s : State) (cs : Vector Channel 4) (o : Fin 4 → OutFrame)
    (emits : ∀ n, (s.outputs.get n).emitted = some (o n)) :
    (ns.foldl State.observeOutput s).withChannels cs =
      ns.foldl (fun u n => u.observe n.succ (o n).position (peakDepth (o n).audio)) (s.withChannels cs) := by
  induction ns generalizing s with
  | nil => rfl
  | cons n ns ih =>
    rw [List.foldl_cons, List.foldl_cons, State.observeOutput_emitted (emits n), State.observe_channels]
    refine ih _ (fun m => ?_)
    rw [State.observe_frame]
    exact emits m

theorem State.countIdle_frame (s : State) : s.countIdle = { s with
    watches := s.countIdle.watches, feed := s.countIdle.feed, log := s.countIdle.log } := by
  unfold State.countIdle State.loseFeed State.endFeedRun
  dsimp only
  split
  · rfl
  · split
    · split <;> rfl
    · rfl

end Sys2Proof.Machine

/-! The output period as a whole, and in BYPASS (O25). -/

namespace Sys2Proof.Machine

section
variable (s : State)

/-- The state of an output period after P advanced, as the channels see it. -/
theorem State.advance_eq : s.advance = { s with
    time := match s.time.nextPosition with
      | some x => { s.time with position := some x, nextPosition := some (x + 1) }
      | none => s.time
    feed := match (match s.time.nextPosition with
        | some x => { s.time with position := some x, nextPosition := some (x + 1) }
        | none => s.time : Timebase).position, s.feed.brk.bind (·.resume) with
      | some p, some r => if atOrAfter p r then { s.feed with brk := none } else s.feed
      | _, _ => s.feed } := by
  have time : s.time.advance = match s.time.nextPosition with
      | some x => { s.time with position := some x, nextPosition := some (x + 1) }
      | none => s.time := by
    unfold Timebase.advance
    cases s.time.nextPosition <;> rfl
  unfold State.advance Feed.removePast
  rw [time]
  generalize (match s.time.nextPosition with
      | some x => { s.time with position := some x, nextPosition := some (x + 1) }
      | none => s.time : Timebase) = t
  dsimp only
  cases t.position with
  | none => rfl
  | some p => cases s.feed.brk.bind (·.resume) <;> rfl

/-- Frame P, by its slot of the delay line. -/
theorem State.networkFrame_eq : s.networkFrame = s.time.position.bind (fun p =>
    (s.time.line.get (Fin.ofNat 512 p.toNat)).bind (fun x => if x.number = p then some x.audio else none)) := by
  unfold State.networkFrame Timebase.slotOf
  cases s.time.position with
  | none => rfl
  | some p =>
    change Option.map _ (Option.filter _ (s.time.line.get (Fin.ofNat 512 p.toNat))) =
      (s.time.line.get (Fin.ofNat 512 p.toNat)).bind (fun x => if x.number = p then some x.audio else none)
    cases s.time.line.get (Fin.ofNat 512 p.toNat) with
    | none => rfl
    | some x =>
      rw [Option.bind_some]
      by_cases named : x.number = p
      · rw [if_pos named, Option.filter_some, if_pos (by simpa using named)]
        rfl
      · rw [if_neg named, Option.filter_some, if_neg (by simpa using named)]
        rfl

/-- R175: the channels with the allowances unused. -/
def State.renewed : Vector Channel 4 := (s.channelsTo 4).channels.map Channel.renewAllowances

/-- The frame of output n. -/
def State.frameOf (n : Fin 4) : OutFrame := ((s.channelsTo n.val).ruled n).outFrame (s.env n) s.networkFrame

/-- The four channels at an output period, their frames observed. -/
theorem State.sounded_observes : s.sounded = (List.finRange 4).foldl
    (fun u n => u.observe n.succ (s.advance.frameOf n).position (peakDepth (s.advance.frameOf n).audio))
    ((s.advance.channelsTo 4).withChannels s.advance.renewed) := by
  have emits (n : Fin 4) : ((s.advance.channelsTo 4).outputs.get n).emitted = some (s.advance.frameOf n) :=
    congrArg Composer.emitted (s.advance.channelsTo_done (n := n) n.isLt (le_refl 4)).2
  have same : ((List.finRange 4).foldl State.observeOutput (s.advance.channelsTo 4)).channels = (s.advance.channelsTo 4).channels := by
    generalize s.advance.channelsTo 4 = t
    generalize List.finRange 4 = ns
    induction ns generalizing t with
    | nil => rfl
    | cons n ns ih =>
      rw [List.foldl_cons, ih]
      unfold State.observeOutput
      split
      · rw [State.observe_frame]
      · rfl
  rw [← State.observeOutputs_emitted _ _ _ _ emits]
  exact congrArg (fun cs => ((List.finRange 4).foldl State.observeOutput (s.advance.channelsTo 4)).withChannels
    (cs.map Channel.renewAllowances)) same

theorem State.ruled_eq (n : Fin 4) : (s.channelsTo n.val).ruled n =
    ({ ch := s.channels.get n, holds := (s.channelsTo n.val).store.holds, out := [] } : Desk).period (s.env n) := by
  unfold State.ruled State.desk
  rw [s.channelsTo_later (le_refl n.val), s.channelsTo_env]

theorem State.gaveFrame_eq (n : Fin 4) :
    (s.channelsTo n.val).gaveFrame n = ((s.channelsTo n.val).ruled n).emit.abandonDecks (s.env n) := by
  unfold State.gaveFrame
  rw [s.channelsTo_env]

/-- The two states differ in the watches, the feed and the log alone. -/
def State.ObservedTo (t : State) : Prop := t = { s with watches := t.watches, feed := t.feed, log := t.log }

variable {s} in
theorem State.ObservedTo.trans {t u : State} (first : s.ObservedTo t) (second : t.ObservedTo u) : s.ObservedTo u := by
  refine Eq.trans second ?_
  rw [first]

theorem State.observes_frame (ns : List (Fin 4)) (o : Fin 4 → OutFrame) :
    s.ObservedTo (ns.foldl (fun u n => u.observe n.succ (o n).position (peakDepth (o n).audio)) s) := by
  induction ns generalizing s with
  | nil => rfl
  | cons n ns ih => exact State.ObservedTo.trans (s.observe_frame _ _ _) (ih _)

/-- After an output period the channels and outputs are those of the four channels' rules; the rest, but the watches, the feed and
the log, is as P's advance left it. -/
theorem State.countIdle_sounded_frame : s.sounded.countIdle = { s.advance with
    channels := s.advance.renewed, outputs := (s.advance.channelsTo 4).outputs, store := (s.advance.channelsTo 4).store
    watches := s.sounded.countIdle.watches, feed := s.sounded.countIdle.feed, log := s.sounded.countIdle.log } := by
  have observes := State.observes_frame ((s.advance.channelsTo 4).withChannels s.advance.renewed) (List.finRange 4) s.advance.frameOf
  rw [← s.sounded_observes] at observes
  have last := observes.trans s.sounded.countIdle_frame
  generalize s.sounded.countIdle = t at last ⊢
  refine Eq.trans last ?_
  have rules := s.advance.channelsTo_frame 4
  generalize s.advance.channelsTo 4 = u at rules ⊢
  rw [rules]
  rfl

end

end Sys2Proof.Machine

/-! What an output period composes, and what it sends in BYPASS (O25). -/

namespace Sys2Proof.Machine

section
variable (s : State)

/-- The state of an output period whose frames are sent and not yet observed. -/
theorem State.sent_eq : (s.advance.channelsTo 4).withChannels s.advance.renewed = { s.advance with
    channels := s.advance.renewed, outputs := (s.advance.channelsTo 4).outputs
    store := { s.store with holds := (s.advance.channelsTo 4).store.holds }
    log := s.log.appendAll ((List.finRange 4).flatMap (fun n => ((s.advance.channelsTo n.val).gaveFrame n).out)) } := by
  have log := s.advance.channelsTo_log 4
  have indices : List.range 4 = (List.finRange 4).map (·.val) := rfl
  rw [indices, List.flatMap_map] at log
  have said : (s.advance.channelsTo 4).log =
      s.log.appendAll ((List.finRange 4).flatMap (fun n => ((s.advance.channelsTo n.val).gaveFrame n).out)) := by
    refine log.trans (congrArg s.log.appendAll (congrArg (fun f => (List.finRange 4).flatMap f) (funext (fun n => ?_))))
    rw [Fin.ofNat_val_eq_self n]
  rw [← said]
  have rules := s.advance.channelsTo_frame 4
  generalize s.advance.renewed = cs
  generalize s.advance.channelsTo 4 = u at rules ⊢
  rw [rules]
  rfl

theorem State.countIdle_outputs : s.sounded.countIdle.outputs = (s.advance.channelsTo 4).outputs := by
  rw [State.countIdle_sounded_frame]

theorem State.countIdle_channels : s.sounded.countIdle.channels = s.advance.renewed := by
  rw [State.countIdle_sounded_frame]

theorem State.renewed_get (n : Fin 4) : s.renewed.get n = ((s.channelsTo n.val).gaveFrame n).ch.renewAllowances := by
  unfold State.renewed
  rw [Vector.get_map, (s.channelsTo_done n.isLt (le_refl 4)).1]

/-- The feed after the frames of an output period: counted idle, or lost after the loss wait (R11). -/
theorem State.countIdle_cases :
    (s.feed.state = .noLock → s.sounded.countIdle = s.sounded) ∧
    (s.feed.state = .lost ∨ ((s.feed.state = .locked ∨ s.feed.state = .silent) ∧ min (s.feed.idle + 1) 250 < s.feed.lossWait) →
      s.sounded.countIdle = { s.sounded with feed := { s.sounded.feed with idle := min (s.feed.idle + 1) 250 } }) ∧
    (s.feed.state = .locked ∨ s.feed.state = .silent → s.feed.lossWait ≤ min (s.feed.idle + 1) 250 →
      s.sounded.countIdle = ({ s.sounded with feed := { s.sounded.feed with idle := min (s.feed.idle + 1) 250 } } : State).feedGone
        (s.feed.last.getD 0 + 1)) := by
  obtain ⟨state, idle, wait, last⟩ := s.advance_feed_same
  rw [← s.sounded_feed] at state idle wait last
  refine ⟨fun noLock => State.countIdle_noLock _ (state.trans noLock), fun holds => ?_, fun locked waited => ?_⟩
  · rw [State.countIdle_holds, idle]
    · rw [state]
      rcases holds with lost | ⟨locked | silent, _⟩
      · rw [lost]; nofun
      · rw [locked]; nofun
      · rw [silent]; nofun
    · rw [state, idle, wait]
      exact holds.imp_right And.right
  · rw [State.countIdle_lost _ (state.symm ▸ locked) (by rw [idle, wait]; exact waited), idle]
    unfold Feed.newest
    rw [last]

end

/-! ### In BYPASS -/

/-- A channel in BYPASS with nothing on its decks, no context and no timer. -/
structure Channel.Bypassed (c : Channel) : Prop where
  state : c.state = .bypass
  idle : c.decksIdle
  free : c.free
  split : c.split = none
  brk : c.brk = none
  window : c.window = none
  timer : c.timer = none

namespace Desk
variable (e : Env) {d : Desk} (h : d.ch.Bypassed)
include h

theorem bypassed_idle (id : DeckId) : (d.deck id).state = .idle := d.deck_forall (p := fun k => k.state = .idle) h.idle.1 h.idle.2 id

theorem period_bypassed : d.period e = d := by
  have noneEnds : d.noneEnds := by
    rintro k (rfl | rfl) sounds
    · exact absurd h.idle.1 (sounding_not_idle sounds)
    · exact absurd h.idle.2 (sounding_not_idle sounds)
  have starts (id : DeckId) : d.mayStart id = false := d.mayStart_notWaiting (idle_not_waiting (bypassed_idle h id))
  have opens : d.periodOpens e = d := by
    unfold periodOpens
    rw [d.splitStarts_none e h.free.1, d.windowOpens_none e h.free.2, d.feedTest_other e (by rw [h.state]; nofun) (by rw [h.state]; nofun)]
  unfold period
  dsimp only
  rw [d.periodEnds_none e noneEnds h.brk h.split h.window, opens, d.periodFades_none e h.free.1 h.free.2 h.split h.brk h.window,
    d.splitExhausted_none e h.split, d.starts_none e (starts .a) (starts .b) (d.reachedItems_none h.brk),
    d.timerExpires_none e h.timer, d.serviceAs_bypass e _ h.state]

theorem bypassed_next (id : DeckId) : (d.deck id).next? = none := by
  unfold Deck.next?
  rw [idle_not_sounding (bypassed_idle h id)]
  rfl

theorem emitDeck_bypassed (id : DeckId) : d.emitDeck id = d := by
  have silent : (d.deck id).emitted = d.deck id := by
    unfold Deck.emitted
    rw [idle_not_sounding (bypassed_idle h id)]
    rfl
  unfold emitDeck countAired
  rw [bypassed_next h id, silent]
  cases id <;> rfl

theorem emit_bypassed : d.emit.abandonDecks e = d := by
  have counts : d.countBreak = d := by
    unfold countBreak
    rw [h.brk, Option.map_none, ← h.brk]
  have emits : d.emit = d := by
    unfold emit
    rw [emitDeck_bypassed h .a, emitDeck_bypassed h .b, counts]
  rw [emits]
  refine d.abandon_none e _ (fun id _ => ?_)
  unfold starved
  rw [idle_not_sounding (bypassed_idle h id)]
  rfl

/-- R108, R113, R114: frame P, or silence. -/
theorem outFrame_bypassed (frame : Option Audio) : d.outFrame e frame =
    { audio := mix (frame.elim [] (fun a => [(Gain.full, a)])), position := e.pos
      origin := if frame.isSome then .network else .silence, onAir := 0, state := .bypass } := by
  have silentA := idle_not_sounding h.idle.1
  have silentB := idle_not_sounding h.idle.2
  have noneA : d.ch.deckA.source? = [] := by
    unfold Deck.source?
    rw [show d.ch.deckA.next? = none from bypassed_next h .a]
  have noneB : d.ch.deckB.source? = [] := by
    unfold Deck.source?
    rw [show d.ch.deckB.next? = none from bypassed_next h .b]
  unfold outFrame carriesNetwork origin onAirCart
  rw [h.state, noneA, noneB, silentA, silentB]
  simp

end Desk

theorem mix_nothing : mix [] = List.replicate 384 0 := by
  unfold mix
  rw [List.foldl_nil, List.map_replicate]
  rfl

namespace State
variable {s : State} (h : ∀ n, (s.channels.get n).Bypassed)
include h

theorem channelPeriod_bypassed (n : Fin 4) : s.gaveFrame n = s.desk n ∧ s.ruled n = s.desk n := by
  have stays : s.ruled n = s.desk n := Desk.period_bypassed (s.env n) (d := s.desk n) (h n)
  unfold State.gaveFrame
  rw [stays]
  exact ⟨Desk.emit_bypassed (s.env n) (d := s.desk n) (h n), rfl⟩

theorem channelsTo_bypassed (k : Nat) : (s.channelsTo k).channels = s.channels ∧ (s.channelsTo k).store = s.store := by
  induction k with
  | zero => exact ⟨rfl, rfl⟩
  | succ k ih =>
    obtain ⟨channels, store⟩ := ih
    have bypassed : ∀ n, ((s.channelsTo k).channels.get n).Bypassed := fun n => channels.symm ▸ h n
    rw [State.channelsTo_next, State.channelPeriod_eq]
    dsimp only
    rw [(channelPeriod_bypassed bypassed _).1]
    exact ⟨(put_get_self _ _).trans channels, store⟩

theorem renewed_bypassed : s.renewed = s.channels.map Channel.renewAllowances := by
  unfold State.renewed
  rw [(channelsTo_bypassed h 4).1]

theorem frameOf_bypassed (n : Fin 4) : s.frameOf n =
    { audio := mix (s.networkFrame.elim [] (fun a => [(Gain.full, a)])), position := s.time.pos
      origin := if s.networkFrame.isSome then .network else .silence, onAir := 0, state := .bypass } := by
  have bypassed : ∀ m, ((s.channelsTo n.val).channels.get m).Bypassed := fun m => (channelsTo_bypassed h n.val).1.symm ▸ h m
  unfold State.frameOf
  rw [(channelPeriod_bypassed bypassed n).2]
  exact Desk.outFrame_bypassed (s.env n) (d := (s.channelsTo n.val).desk n) (bypassed n) _

end State

/-- Settles O25: the channels of an output period in turn, its frames observed and the feed counted; in BYPASS frame P or silence. -/
theorem outputPeriodInBypass : Obligations.OutputPeriodInBypass := by
  refine ⟨fun s => ?_, fun s bypass => ?_⟩
  · intro time feed e frame renewed
    have advanced : ({ s with time := time, feed := feed } : State) = s.advance := s.advance_eq.symm
    have envs (n : Fin 4) : e n = s.advance.env n := congrArg (State.env · n) advanced
    have seen : frame = s.advance.networkFrame := by
      have line : s.time.line = time.line := by
        unfold time
        cases s.time.nextPosition <;> rfl
      rw [s.advance.networkFrame_eq, ← advanced, ← line]
    refine ⟨s.sounded.countIdle, fun n => (s.advance.channelsTo n.val).ruled n, fun k => (s.advance.channelsTo k.val).store.holds,
      execOutputPeriod_eq s, rfl, fun n => ⟨?_, ?_⟩, ?_⟩
    · rw [envs]
      exact s.advance.ruled_eq n
    · intro o emitted
      have gives : emitted = (s.advance.channelsTo n.val).gaveFrame n := by
        rw [s.advance.gaveFrame_eq, ← envs]
      refine ⟨?_, ?_, ?_⟩
      · rw [s.countIdle_outputs, (s.advance.channelsTo_done n.isLt (le_refl 4)).2, ← envs, ← seen]
        rfl
      · rw [gives]
        exact (congrArg (fun t => t.store.holds) (s.advance.channelsTo_succ n)).trans ((s.advance.channelsTo n.val).channelPeriod_holds n)
      · rw [s.countIdle_channels, s.advance.renewed_get, ← gives]
        rfl
    · intro sent watched idle counted
      have sends : sent = (s.advance.channelsTo 4).withChannels s.advance.renewed := by
        have said : (fun n => ((s.advance.channelsTo n.val).gaveFrame n).out) =
            (fun n => (((s.advance.channelsTo n.val).ruled n).emit.abandonDecks (e n)).out) := by
          funext n
          rw [envs, s.advance.gaveFrame_eq]
        rw [State.sent_eq, said, ← s.countIdle_channels, ← s.countIdle_outputs]
        exact congrArg (fun a : State => ({ a with
          channels := s.sounded.countIdle.channels, outputs := s.sounded.countIdle.outputs
          store := { s.store with holds := (s.advance.channelsTo 4).store.holds }
          log := s.log.appendAll ((List.finRange 4).flatMap (fun n =>
            (((s.advance.channelsTo n.val).ruled n).emit.abandonDecks (e n)).out)) } : State)) advanced
      have watches : watched = s.sounded := by
        rw [s.sounded_observes, ← sends]
        have heard : (fun (u : State) (n : Fin 4) => u.observe n.succ (s.advance.frameOf n).position (peakDepth (s.advance.frameOf n).audio)) =
            (fun u n => u.observe n.succ (time.position.getD 0)
              (peakDepth (((s.advance.channelsTo n.val).ruled n).outFrame (e n) frame).audio)) := by
          funext u n
          have position : (s.advance.frameOf n).position = time.position.getD 0 :=
            congrArg (fun a : State => a.time.position.getD 0) advanced.symm
          rw [position, envs, seen]
          rfl
        rw [heard]
      have counts : counted = { s.sounded with feed := { s.sounded.feed with idle := idle } } :=
        congrArg (fun u : State => ({ u with feed := { u.feed with idle := idle } } : State)) watches
      obtain ⟨noLock, holds, lost⟩ := s.countIdle_cases
      exact ⟨fun state => (noLock state).trans watches.symm, fun state => (holds state).trans counts.symm,
        fun state waited => (lost state waited).trans (congrArg (State.feedGone · (s.feed.last.getD 0 + 1)) counts.symm)⟩
  · have bypassed : ∀ n, (s.advance.channels.get n).Bypassed := fun n =>
      let ⟨state, idle, free, split, brk, window, timer⟩ := bypass n
      ⟨state, idle, free, split, brk, window, timer⟩
    have frames := s.countIdle_sounded_frame
    have store : s.sounded.countIdle.store = s.store := by
      rw [frames]
      exact (State.channelsTo_bypassed bypassed 4).2
    have channel (n : Fin 4) : s.sounded.countIdle.channels.get n = (s.channels.get n).renewAllowances := by
      rw [s.countIdle_channels, State.renewed_bypassed bypassed, Vector.get_map]
      rfl
    have output (n : Fin 4) : s.sounded.countIdle.outputs.get n = Composer.emit (s.advance.frameOf n) := by
      rw [s.countIdle_outputs, (s.advance.channelsTo_done n.isLt (le_refl 4)).2]
      rfl
    have time : s.sounded.countIdle.time = s.advance.time := by
      rw [frames]
    have seen := s.advance.networkFrame_eq
    refine ⟨s.sounded.countIdle, execOutputPeriod_eq s, time.trans (congrArg State.time s.advance_eq), ?_, store, ?_, ?_, ?_, ?_,
      fun n => ?_, fun n => ⟨s.advance.frameOf n, ?_⟩⟩
    · rw [frames]; rfl
    · rw [frames]; rfl
    · rw [frames]; rfl
    · rw [frames]; rfl
    · rw [frames]; rfl
    · rw [channel]
      exact ⟨(bypassed n).state, rfl, rfl, rfl⟩
    · have line : s.advance.time.line = s.time.line := by
        rw [s.advance_eq]
        cases s.time.nextPosition <;> rfl
      rw [output, time, ← line, State.frameOf_bypassed bypassed]
      refine ⟨rfl, rfl, rfl, rfl, rfl, rfl, fun p x position slot named size => ?_, fun absent => ?_⟩
      · have present : s.advance.networkFrame = some x.audio := by
          rw [seen, position, Option.bind_some, slot, Option.bind_some, if_pos named]
        rw [present]
        exact ⟨mix_one x.audio size, rfl⟩
      · have nothing : s.advance.networkFrame = none := by
          rw [seen]
          cases position : s.advance.time.position with
          | none => rfl
          | some p =>
            rw [Option.bind_some]
            cases slot : s.advance.time.line.get (Fin.ofNat 512 p.toNat) with
            | none => rfl
            | some x => exact if_neg (absent p x position slot)
        rw [nothing]
        exact ⟨mix_nothing, rfl⟩

end Sys2Proof.Machine

/-! CHANNEL_CLEAR: what stays of the channel, and the waiting entries of its ring (O38). -/

namespace Sys2Proof.Machine

/-! ### What a clear leaves alone -/

/-- Of the channel only its ring, its decks and what names items or entries may differ. -/
def Channel.KeptTo (c c' : Channel) : Prop :=
  c' = { c with ring := c'.ring, deckA := c'.deckA, deckB := c'.deckB, split := c'.split, brk := c'.brk, lastRing := c'.lastRing }

namespace Channel.KeptTo

theorem refl (c : Channel) : c.KeptTo c := rfl

theorem trans {a b c : Channel} (first : a.KeptTo b) (second : b.KeptTo c) : a.KeptTo c := by
  refine Eq.trans second ?_
  rw [first]

theorem foldl {α : Type} {rule : Desk → α → Desk} (each : ∀ (d : Desk) x, d.ch.KeptTo (rule d x).ch) (xs : List α) (d : Desk) :
    d.ch.KeptTo (xs.foldl rule d).ch := by
  induction xs generalizing d with
  | nil => rfl
  | cons x xs ih => exact (each d x).trans (ih _)

end Channel.KeptTo

namespace Desk

section
variable (e : Env) (d : Desk)

theorem unhold_decks (r : ItemRef) : d.ch.KeptTo (d.unhold r).ch ∧ (d.unhold r).ch.deckA = d.ch.deckA ∧ (d.unhold r).ch.deckB = d.ch.deckB := by
  unfold unhold
  dsimp only
  split <;> exact ⟨rfl, rfl, rfl⟩

/-- A result leaves the decks, and of the channel changes its ring and what names items alone (R43). -/
theorem settle_decks (r : ItemRef) (result : Result) (rec? : Option (BreakNo × FrameNo × Nat)) :
    d.ch.KeptTo (d.settle e r result rec?).ch ∧ (d.settle e r result rec?).ch.deckA = d.ch.deckA ∧
      (d.settle e r result rec?).ch.deckB = d.ch.deckB := by
  let given := (d.setItem r { d.item r with result := result, provisional := false }).unhold r
  obtain ⟨kept, a, b⟩ := (d.setItem r { d.item r with result := result, provisional := false }).unhold_decks r
  have closes (t : Desk) : t.ch.KeptTo (t.closed r).ch ∧ (t.closed r).ch.deckA = t.ch.deckA ∧ (t.closed r).ch.deckB = t.ch.deckB := by
    unfold closed
    dsimp only
    split <;> exact ⟨rfl, rfl, rfl⟩
  have from' : d.ch.KeptTo given.ch := Channel.KeptTo.trans (rfl : d.ch.KeptTo (d.setItem r _).ch) kept
  cases rec? with
  | none =>
    obtain ⟨kept', a', b'⟩ := closes given
    exact ⟨from'.trans kept', a'.trans a, b'.trans b⟩
  | some x =>
    obtain ⟨kept', a', b'⟩ := closes (given.record e { note .item x.2.1 with
      breakNo := some x.1, ring := some (r.index, some r.part), cart := some (d.item r).cart, reason := some (.result result)
      frames := some (BitVec.ofNat 32 (d.item r).aired), detail := some (BitVec.ofNat 32 x.2.2) })
    exact ⟨from'.trans kept', a'.trans a, b'.trans b⟩

/-- The item on a deck ends: that deck becomes IDLE, and the other stays. -/
theorem endDeck_decks (id : DeckId) (result : Result) : d.ch.KeptTo (d.endDeck e id result).ch ∧
    (d.endDeck e id result).deck id = (d.deck id).idled ∧
    (d.endDeck e id result).deck (otherDeck id) = d.deck (otherDeck id) := by
  have sets (t : Desk) (kept : d.ch.KeptTo t.ch) (a : t.ch.deckA = d.ch.deckA) (b : t.ch.deckB = d.ch.deckB) :
      d.ch.KeptTo (t.setDeck id (t.deck id).idled).ch ∧ (t.setDeck id (t.deck id).idled).deck id = (d.deck id).idled ∧
        (t.setDeck id (t.deck id).idled).deck (otherDeck id) = d.deck (otherDeck id) := by
    cases id with
    | a => exact ⟨kept.trans rfl, congrArg Deck.idled a, b⟩
    | b => exact ⟨kept.trans rfl, congrArg Deck.idled b, a⟩
  unfold endDeck
  dsimp only
  cases (d.deck id).item with
  | none => exact sets d rfl rfl rfl
  | some item =>
    cases item with
    | ring r =>
      obtain ⟨kept, a, b⟩ := d.settle_decks e r result (some (d.breakNumber.getD (d.entry r.index).breakNo,
        if (d.deck id).sounding then (d.entry r.index).start.getD e.pos else e.pos, (d.deck id).underruns))
      exact sets _ kept a b
    | fill slot => exact sets _ rfl rfl rfl

/-- A clear gives up the item of a deck in the first step where it sounds, in the second where it waits. -/
theorem clearDeck_cases (sounding : Bool) (id : DeckId) :
    ((if sounding then (d.deck id).sounding else (d.deck id).waiting) = true ∧
      d.clearDeck e sounding id = d.endDeck e id (if sounding then .aborted else .cleared)) ∨
    (¬ (if sounding then (d.deck id).sounding else (d.deck id).waiting) = true ∧ d.clearDeck e sounding id = d) := by
  cases sounding with
  | true =>
    by_cases sounds : (d.deck id).sounding = true
    · exact .inl ⟨sounds, by simp [clearDeck, sounds]⟩
    · exact .inr ⟨sounds, by simp [clearDeck, sounds]⟩
  | false =>
    by_cases waits : (d.deck id).waiting = true
    · exact .inl ⟨waits, by simp [clearDeck, waits]⟩
    · exact .inr ⟨waits, by simp [clearDeck, waits]⟩

theorem clearDeck_decks (sounding : Bool) (id : DeckId) : d.ch.KeptTo (d.clearDeck e sounding id).ch ∧
    (d.clearDeck e sounding id).deck id =
      (if (if sounding then (d.deck id).sounding else (d.deck id).waiting) = true then (d.deck id).idled else d.deck id) ∧
    (d.clearDeck e sounding id).deck (otherDeck id) = d.deck (otherDeck id) := by
  rcases d.clearDeck_cases e sounding id with ⟨ends, eq⟩ | ⟨stays, eq⟩
  · rw [eq, if_pos ends]
    exact d.endDeck_decks e id _
  · rw [eq, if_neg stays]
    exact ⟨rfl, rfl, rfl⟩

/-- One step of a clear on both decks. -/
theorem clearDecks_decks (sounding : Bool) : d.ch.KeptTo (d.decksInOrder.foldl (clearDeck e sounding) d).ch ∧
    ∀ id, (d.decksInOrder.foldl (clearDeck e sounding) d).deck id =
      if (if sounding then (d.deck id).sounding else (d.deck id).waiting) = true then (d.deck id).idled else d.deck id := by
  have both (x y : DeckId) (other : y = otherDeck x) (back : x = otherDeck y) : d.ch.KeptTo ([x, y].foldl (clearDeck e sounding) d).ch ∧
      ∀ id, ([x, y].foldl (clearDeck e sounding) d).deck id =
        if (if sounding then (d.deck id).sounding else (d.deck id).waiting) = true then (d.deck id).idled else d.deck id := by
    obtain ⟨kept, own, rest⟩ := d.clearDeck_decks e sounding x
    obtain ⟨kept', own', rest'⟩ := (d.clearDeck e sounding x).clearDeck_decks e sounding y
    rw [← other] at rest
    rw [← back] at rest'
    rw [rest] at own'
    refine ⟨kept.trans kept', fun id => ?_⟩
    have cases' : id = x ∨ id = y := by
      subst other
      cases id <;> cases x <;> simp [otherDeck]
    rcases cases' with rfl | rfl
    · exact rest'.trans own
    · exact own'
  unfold decksInOrder
  split
  · exact both .b .a rfl rfl
  · exact both .a .b rfl rfl

/-! ### The entries that wait -/

/-- Entry i has become x, and the other entries, the holds, the records and the decks are as they were. -/
structure EntryBecame (i : Fin 128) (x : Entry) (d d' : Desk) : Prop where
  own : d'.entry i = x
  others : ∀ l, l ≠ i → d'.entry l = d.entry l
  holds : d'.holds = d.holds
  out : d'.out = d.out
  deckA : d'.ch.deckA = d.ch.deckA
  deckB : d'.ch.deckB = d.ch.deckB
  kept : d.ch.KeptTo d'.ch

end

variable {e : Env} {i : Fin 128} {x y : Entry} {d d' d'' : Desk}

theorem EntryBecame.then (first : EntryBecame i x d d') (second : EntryBecame i y d' d'') : EntryBecame i y d d'' where
  own := second.own
  others l other := (second.others l other).trans (first.others l other)
  holds := second.holds.trans first.holds
  out := second.out.trans first.out
  deckA := second.deckA.trans first.deckA
  deckB := second.deckB.trans first.deckB
  kept := first.kept.trans second.kept

/-- An item that holds no cart receives CLEARED, with no record (R50 step 4). -/
theorem settle_waits {part : Part} (free : (d.item ⟨i, part⟩).held = false)
    (sets : (d.entry i).setItem part { d.item ⟨i, part⟩ with result := .cleared, provisional := false } = x) :
    (x.allFinal = true → EntryBecame i { x with owner := .loader } d (d.settle e ⟨i, part⟩ .cleared none)) ∧
      (¬ x.allFinal = true → EntryBecame i x d (d.settle e ⟨i, part⟩ .cleared none)) := by
  let written := d.setItem ⟨i, part⟩ { d.item ⟨i, part⟩ with result := .cleared, provisional := false }
  have now : ¬ (written.item ⟨i, part⟩).held = true := by
    rw [show written.item ⟨i, part⟩ = _ from d.item_setItem _ _]
    exact ne_of_eq_of_ne free Bool.false_ne_true
  have settled : d.settle e ⟨i, part⟩ .cleared none = written.closed ⟨i, part⟩ :=
    congrArg (closed · ⟨i, part⟩) (if_neg now : written.unhold ⟨i, part⟩ = written)
  let t : Desk := { written with ch := { written.ch with split := written.ch.split.map (Split.without ⟨i, part⟩) } }
  have entry : t.entry i = x := (get_put_same _ _ _).trans sets
  rw [settled, show written.closed ⟨i, part⟩ = if (t.entry i).allFinal then t.returnEntry i else t from rfl, entry]
  have wrote : EntryBecame i x d t :=
    { own := entry, others := fun l other => get_put_other _ _ _ _ other.symm, holds := rfl, out := rfl, deckA := rfl, deckB := rfl, kept := rfl }
  refine ⟨fun final => ?_, fun half => ?_⟩
  · rw [if_pos final]
    refine EntryBecame.then wrote ?_
    refine { own := ?_, others := fun l other => get_put_other _ _ _ _ other.symm, holds := rfl, out := rfl, deckA := rfl, deckB := rfl, kept := rfl }
    exact (get_put_same _ _ _).trans (by rw [entry])
  · rw [if_neg half]
    exact wrote

end Desk

/-- An item that waits unclaimed: without hold and without a provisional result (R24). -/
def Item.Settled (m : Item) : Prop := m.held = false ∧ m.provisional = false

def Item.Open (m : Item) : Prop := m.cart ≠ 0 ∧ m.result = .none

/-- R24, R25: an entry that waits to be taken. -/
def Entry.Waits (x : Entry) : Prop := (x.itemA.Open ∨ x.itemB.Open) ∧ x.itemA.Settled ∧ x.itemB.Settled

/-- R50 step 4: an item without a result receives CLEARED. -/
def Item.swept (m : Item) : Item := if m.cart ≠ 0 ∧ m.result = .none then { m with result := .cleared } else m

/-- R50 step 4: a CHANNEL entry returns to the hub. -/
def Entry.swept (x : Entry) : Entry :=
  if x.owner = .channel then { x with owner := .loader, itemA := x.itemA.swept, itemB := x.itemB.swept } else x

theorem Item.swept_open {m : Item} (open' : m.Open) (settled : m.Settled) : { m with result := .cleared, provisional := false } = m.swept :=
  (congrArg (fun p => ({ m with result := .cleared, provisional := p } : Item)) settled.2.symm).trans (if_pos open').symm

theorem Item.swept_other {m : Item} (other : ¬ m.Open) : m.swept = m := if_neg other

theorem Item.swept_final {m : Item} (settled : m.Settled) : (!m.swept.present || m.swept.final) = true := by
  unfold Item.swept Item.present Item.final
  obtain ⟨_, provisional⟩ := settled
  by_cases present : m.cart = 0
  · simp [present]
  · by_cases result : m.result = .none <;> simp [present, result, provisional]

namespace Desk
variable {e : Env} {i : Fin 128} {d : Desk}

theorem openItems_both (a : (d.entry i).itemA.Open) (b : (d.entry i).itemB.Open) : d.openItems [i] = [⟨i, .a⟩, ⟨i, .b⟩] := by
  simp [openItems, Entry.refs, Item.present, Desk.item, Entry.item, a.1, a.2, b.1, b.2]

theorem openItems_first (a : (d.entry i).itemA.Open) (b : ¬ (d.entry i).itemB.Open) : d.openItems [i] = [⟨i, .a⟩] := by
  have other : (d.entry i).itemB.cart ≠ 0 → (d.entry i).itemB.result ≠ .none := fun some' none' => b ⟨some', none'⟩
  by_cases some' : (d.entry i).itemB.cart = 0 <;>
    simp [openItems, Entry.refs, Item.present, Desk.item, Entry.item, a.1, a.2, some', other]

theorem openItems_second (a : ¬ (d.entry i).itemA.Open) (b : (d.entry i).itemB.Open) : d.openItems [i] = [⟨i, .b⟩] := by
  have other : (d.entry i).itemA.cart ≠ 0 → (d.entry i).itemA.result ≠ .none := fun some' none' => a ⟨some', none'⟩
  by_cases some' : (d.entry i).itemA.cart = 0 <;>
    simp [openItems, Entry.refs, Item.present, Desk.item, Entry.item, b.1, b.2, some', other]

/-- R50 step 4 on one entry. -/
theorem clearEntry_waits (owner : (d.entry i).owner = .channel) (waits : (d.entry i).Waits) :
    EntryBecame i (d.entry i).swept d ((d.openItems [i]).foldl (fun d r => d.settle e r .cleared none) d) := by
  obtain ⟨open', settledA, settledB⟩ := waits
  have swept : (d.entry i).swept = { d.entry i with owner := .loader, itemA := (d.entry i).itemA.swept, itemB := (d.entry i).itemB.swept } :=
    if_pos owner
  have final : Entry.allFinal { d.entry i with itemA := (d.entry i).itemA.swept, itemB := (d.entry i).itemB.swept } = true :=
    Bool.and_eq_true_iff.mpr ⟨Item.swept_final settledA, Item.swept_final settledB⟩
  by_cases openA : (d.entry i).itemA.Open
  · obtain ⟨first, left⟩ := settle_waits (e := e) (d := d) (i := i) (part := .a) settledA.1
      (congrArg (fun m => ({ d.entry i with itemA := m } : Entry)) (Item.swept_open openA settledA))
    by_cases openB : (d.entry i).itemB.Open
    · have half : ¬ Entry.allFinal { d.entry i with itemA := (d.entry i).itemA.swept } = true := by
        simp [Entry.allFinal, Item.present, Item.final, openB.1, openB.2]
      have left := left half
      have item : (d.settle e ⟨i, .a⟩ .cleared none).item ⟨i, .b⟩ = (d.entry i).itemB := by
        change ((d.settle e ⟨i, .a⟩ .cleared none).entry i).itemB = _
        rw [left.own]
      have sets : ((d.settle e ⟨i, .a⟩ .cleared none).entry i).setItem .b
          { (d.settle e ⟨i, .a⟩ .cleared none).item ⟨i, .b⟩ with result := .cleared, provisional := false } =
          { d.entry i with itemA := (d.entry i).itemA.swept, itemB := (d.entry i).itemB.swept } := by
        rw [item, Item.swept_open openB settledB, left.own]
        rfl
      have free : ((d.settle e ⟨i, .a⟩ .cleared none).item ⟨i, .b⟩).held = false := by
        rw [item]
        exact settledB.1
      obtain ⟨second, _⟩ := settle_waits (e := e) (d := d.settle e ⟨i, .a⟩ .cleared none) (i := i) (part := .b) free sets
      rw [openItems_both openA openB, swept, List.foldl_cons, List.foldl_cons, List.foldl_nil]
      exact left.then (second final)
    · rw [openItems_first openA openB, swept, List.foldl_cons, List.foldl_nil]
      rw [Item.swept_other openB] at final ⊢
      exact first final
  · have openB := open'.resolve_left openA
    obtain ⟨second, _⟩ := settle_waits (e := e) (d := d) (i := i) (part := .b) settledB.1
      (congrArg (fun m => ({ d.entry i with itemB := m } : Entry)) (Item.swept_open openB settledB))
    rw [openItems_second openA openB, swept, List.foldl_cons, List.foldl_nil]
    rw [Item.swept_other openA] at final ⊢
    exact second final

/-- R50 step 4 on the entries of a list. -/
theorem clearEntries_waits {l : List (Fin 128)} (distinct : l.Nodup) (waits : ∀ i ∈ l, (d.entry i).owner = .channel → (d.entry i).Waits) :
    let d' := l.foldl (fun d i => if (d.entry i).owner = .channel then (d.openItems [i]).foldl (fun d r => d.settle e r .cleared none) d else d) d
    (∀ i, d'.entry i = if i ∈ l then (d.entry i).swept else d.entry i) ∧ d'.holds = d.holds ∧ d'.out = d.out ∧
      d'.ch.deckA = d.ch.deckA ∧ d'.ch.deckB = d.ch.deckB := by
  induction l generalizing d with
  | nil => exact ⟨fun i => rfl, rfl, rfl, rfl, rfl⟩
  | cons i l ih =>
    obtain ⟨fresh, distinct⟩ := List.nodup_cons.mp distinct
    let next := if (d.entry i).owner = .channel then (d.openItems [i]).foldl (fun d r => d.settle e r .cleared none) d else d
    have became : EntryBecame i (d.entry i).swept d next := by
      by_cases owner : (d.entry i).owner = .channel
      · rw [show next = _ from if_pos owner]
        exact clearEntry_waits owner (waits i (List.mem_cons_self ..) owner)
      · rw [show next = d from if_neg owner, show (d.entry i).swept = d.entry i from if_neg owner]
        exact ⟨rfl, fun _ _ => rfl, rfl, rfl, rfl, rfl, rfl⟩
    have same (m : Fin 128) (mem : m ∈ l) : next.entry m = d.entry m := became.others m (fun eq => fresh (eq ▸ mem))
    obtain ⟨entries, holds, out, deckA, deckB⟩ := ih (d := next) distinct
      (fun m mem => by rw [same m mem]; exact waits m (List.mem_cons_of_mem _ mem))
    refine ⟨fun m => ?_, holds.trans became.holds, out.trans became.out, deckA.trans became.deckA, deckB.trans became.deckB⟩
    refine (entries m).trans ?_
    by_cases mem : m ∈ l
    · rw [if_pos mem, if_pos (List.mem_cons_of_mem _ mem), same m mem]
    · rw [if_neg mem]
      by_cases own : m = i
      · subst own
        rw [if_pos (List.mem_cons_self ..)]
        exact became.own
      · rw [if_neg (fun held => (List.mem_cons.mp held).elim own mem)]
        exact became.others m own

/-- R50 step 4 where every CHANNEL entry waits. -/
theorem clearWaiting_waits (waits : ∀ i, (d.entry i).owner = .channel → (d.entry i).Waits) :
    (∀ i, (d.clearWaiting e).entry i = (d.entry i).swept) ∧ (d.clearWaiting e).holds = d.holds ∧ (d.clearWaiting e).out = d.out ∧
      (d.clearWaiting e).ch.deckA = d.ch.deckA ∧ (d.clearWaiting e).ch.deckB = d.ch.deckB := by
  have distinct := List.nodup_finRange 128
  have all : ∀ i : Fin 128, i ∈ List.finRange 128 := List.mem_finRange
  unfold clearWaiting
  generalize List.finRange 128 = l at distinct all ⊢
  obtain ⟨entries, rest⟩ := clearEntries_waits (e := e) distinct (fun i _ => waits i)
  exact ⟨fun i => (entries i).trans (if_pos (all i)), rest⟩

end Desk

end Sys2Proof.Machine

/-! CHANNEL_CLEAR by its steps (O38). -/

namespace Sys2Proof.Machine

namespace Desk

/-! ### The steps of a clear -/

/-- The desk after one step on both decks (R50 steps 1 and 2). -/
def clearDecks (e : Env) (sounding : Bool) (d : Desk) : Desk := d.decksInOrder.foldl (clearDeck e sounding) d

/-- The desk after the items of the plan and of the contexts have their results (R50 step 3). -/
def clearItems (e : Env) (d : Desk) : Desk := d.clearedItems.foldl (finishUnsounded e .cleared) d

/-- R50: the channel stopped. -/
def shut (d : Desk) : Desk := { d with ch := { d.ch with
  state := .bypass, plan := none, pending := none, lastTaken := none, held := none, split := none, brk := none
  window := none, lastRing := none, timer := none, fill := { d.ch.fill with wait := false } } }

theorem clear_eq (e : Env) (d : Desk) :
    d.clear e = ((((d.clearDecks e true).clearDecks e false).clearItems e).clearWaiting e).shut := by
  unfold clear
  generalize clearWaiting e = waiting
  rfl

/-- The decks are as they were, and of the channel what names items or entries alone may differ. -/
def SameDecks (d d' : Desk) : Prop := d.ch.KeptTo d'.ch ∧ ∀ id, d'.deck id = d.deck id

theorem SameDecks.trans {d d' d'' : Desk} (first : SameDecks d d') (second : SameDecks d' d'') : SameDecks d d'' :=
  ⟨first.1.trans second.1, fun id => (second.2 id).trans (first.2 id)⟩

theorem SameDecks.foldl {α : Type} {rule : Desk → α → Desk} (each : ∀ (d : Desk) x, SameDecks d (rule d x)) (xs : List α) (d : Desk) :
    SameDecks d (xs.foldl rule d) := by
  induction xs generalizing d with
  | nil => exact ⟨rfl, fun _ => rfl⟩
  | cons x xs ih => exact (each d x).trans (ih _)

theorem settle_sameDecks (e : Env) (d : Desk) (r : ItemRef) (result : Result) (rec? : Option (BreakNo × FrameNo × Nat)) :
    SameDecks d (d.settle e r result rec?) := by
  obtain ⟨kept, a, b⟩ := d.settle_decks e r result rec?
  refine ⟨kept, fun id => ?_⟩
  cases id
  · exact a
  · exact b

theorem clearWaiting_sameDecks (e : Env) (d : Desk) : SameDecks d (d.clearWaiting e) := by
  refine SameDecks.foldl (fun d i => ?_) _ d
  by_cases owner : (d.entry i).owner = .channel
  · rw [if_pos owner]
    exact SameDecks.foldl (fun d r => d.settle_sameDecks e r .cleared none) _ d
  · rw [if_neg owner]
    exact ⟨rfl, fun _ => rfl⟩

theorem clearItems_sameDecks (e : Env) (d : Desk) : SameDecks d (d.clearItems e) :=
  SameDecks.foldl (fun d r => d.settle_sameDecks e r .cleared _) _ d

/-- R50: after a clear both decks are IDLE. -/
theorem clearDecks_idle (e : Env) (d : Desk) (id : DeckId) : (((d.clearDecks e true).clearDecks e false).deck id).state = .idle := by
  have first := (d.clearDecks_decks e true).2 id
  have second := ((d.clearDecks e true).clearDecks_decks e false).2 id
  refine (congrArg Deck.state second).trans ?_
  unfold clearDecks
  rw [first]
  have states := deck_state_cases (d.deck id)
  simp only [if_true, Bool.false_eq_true, if_false]
  by_cases sounds : (d.deck id).sounding = true
  · rw [if_pos sounds, if_neg (show ¬ (d.deck id).idled.waiting = true from Bool.false_ne_true)]
    rfl
  · rw [if_neg sounds]
    by_cases waits : (d.deck id).waiting = true
    · rw [if_pos waits]
      rfl
    · rw [if_neg waits]
      exact states.resolve_right (not_or.mpr ⟨waits, sounds⟩)

/-- R50: what stays of the channel. -/
theorem clear_channel (e : Env) (d : Desk) : (d.clear e).ch.decksIdle ∧ (d.clear e).ch = { d.ch with
    state := .bypass, plan := none, pending := none, lastTaken := none, held := none, split := none, brk := none
    window := none, lastRing := none, timer := none, fill := { d.ch.fill with wait := false }
    ring := (d.clear e).ch.ring, deckA := (d.clear e).ch.deckA, deckB := (d.clear e).ch.deckB } := by
  let t := (d.clearDecks e true).clearDecks e false
  obtain ⟨kept, decks⟩ := (t.clearItems_sameDecks e).trans ((t.clearItems e).clearWaiting_sameDecks e)
  have whole : d.ch.KeptTo ((t.clearItems e).clearWaiting e).ch :=
    ((d.clearDecks_decks e true).1.trans ((d.clearDecks e true).clearDecks_decks e false).1).trans kept
  have idle (id : DeckId) : (((t.clearItems e).clearWaiting e).deck id).state = .idle := by
    rw [decks id]
    exact d.clearDecks_idle e id
  rw [clear_eq]
  change Channel.decksIdle ((t.clearItems e).clearWaiting e).shut.ch ∧ ((t.clearItems e).clearWaiting e).shut.ch = _
  generalize (t.clearItems e).clearWaiting e = u at whole idle
  refine ⟨⟨idle .a, idle .b⟩, ?_⟩
  change ({ u.ch with
    state := .bypass, plan := none, pending := none, lastTaken := none, held := none, split := none, brk := none
    window := none, lastRing := none, timer := none, fill := { u.ch.fill with wait := false } } : Channel) = { d.ch with
    state := .bypass, plan := none, pending := none, lastTaken := none, held := none, split := none, brk := none
    window := none, lastRing := none, timer := none, fill := { d.ch.fill with wait := false }
    ring := u.ch.ring, deckA := u.ch.deckA, deckB := u.ch.deckB }
  generalize u.ch = c at whole
  rw [whole]

/-! ### The decks at a clear -/

section
variable {e : Env} {d : Desk} {id : DeckId}

theorem clearDecks_none (sounding : Bool)
    (none' : ∀ id, ¬ (if sounding then (d.deck id).sounding else (d.deck id).waiting) = true) : d.clearDecks e sounding = d := by
  have stays (id : DeckId) : d.clearDeck e sounding id = d := ((d.clearDeck_cases e sounding id).resolve_left (fun h => none' id h.1)).2
  unfold clearDecks decksInOrder
  split <;> rw [List.foldl_cons, List.foldl_cons, List.foldl_nil, stays, stays]

/-- One deck alone gives up its item in a step. -/
theorem clearDecks_one (sounding : Bool) (own : (if sounding then (d.deck id).sounding else (d.deck id).waiting) = true)
    (other : ¬ (if sounding then (d.deck (otherDeck id)).sounding else (d.deck (otherDeck id)).waiting) = true) :
    d.clearDecks e sounding = d.endDeck e id (if sounding then .aborted else .cleared) := by
  have ends : d.clearDeck e sounding id = d.endDeck e id (if sounding then .aborted else .cleared) :=
    ((d.clearDeck_cases e sounding id).resolve_right (fun h => h.1 own)).2
  have before : d.clearDeck e sounding (otherDeck id) = d :=
    ((d.clearDeck_cases e sounding (otherDeck id)).resolve_left (fun h => other h.1)).2
  have after : (d.endDeck e id (if sounding then .aborted else .cleared)).clearDeck e sounding (otherDeck id) =
      d.endDeck e id (if sounding then .aborted else .cleared) := by
    refine (((d.endDeck e id _).clearDeck_cases e sounding (otherDeck id)).resolve_left (fun h => other ?_)).2
    rw [← (d.endDeck_decks e id (if sounding then .aborted else .cleared)).2.2]
    exact h.1
  have orders : d.decksInOrder = [id, otherDeck id] ∨ d.decksInOrder = [otherDeck id, id] := by
    unfold decksInOrder
    cases id <;> split <;> simp [otherDeck]
  unfold clearDecks
  rcases orders with order | order
  · rw [order, List.foldl_cons, List.foldl_cons, List.foldl_nil, ends, after]
  · rw [order, List.foldl_cons, List.foldl_cons, List.foldl_nil, before, ends]

theorem clearedItems_none (plan : d.ch.plan = none) (held : d.ch.held = none) (split : d.ch.split = none) (brk : d.ch.brk = none) :
    d.clearedItems = [] := by
  unfold clearedItems breakItems
  rw [plan, held, split, brk]
  rfl

theorem clearedItems_break {b : BreakCtx} (plan : d.ch.plan = none) (held : d.ch.held = none) (split : d.ch.split = none)
    (brk : d.ch.brk = some b) : d.clearedItems = d.openItems b.entries := by
  unfold clearedItems breakItems
  rw [plan, held, split, brk]
  exact List.append_nil _

theorem clearedItems_plan {p : Plan} {r : ItemRef} (plan : d.ch.plan = some p) (items : p.items.map (·.ref) = [r])
    (provisional : (d.item r).provisional = true) (held : d.ch.held = none) (split : d.ch.split = none) (brk : d.ch.brk = none) :
    d.clearedItems = [r] := by
  have kept : (!(d.item r).final) = true := by
    unfold Item.final
    rw [provisional]
    simp
  unfold clearedItems breakItems
  rw [plan, held, split, brk]
  dsimp only
  rw [items, show [r].filter (fun r => !(d.item r).final) = [r] from List.filter_cons_of_pos kept]
  rfl

end

end Desk

/-! ### The request -/

section
variable {s : State} {a : Address} (reached : s.reached a) (tag : BitVec 16) {channel : Byte}
include reached

theorem exec_channelClear_bad (bad : 4 ≤ channel.toNat) : exec (.channelClear a tag channel) s = .next (s.answer tag 0x000A .badField) := by
  refine congrArg Host.Outcome.next ((s.atPart_reached a _ reached).trans ?_)
  rw [field_outside (Nat.not_lt.mpr bad)]

variable {n : Fin 4} (hn : channel.toNat = n.val)
include hn

theorem exec_channelClear : exec (.channelClear a tag channel) s = .next ((s.onChannel n (fun e d => d.clear e)).answer tag 0x000A .done) := by
  refine congrArg Host.Outcome.next ((s.atPart_reached a _ reached).trans ?_)
  rw [field_eq_some n hn]

/-- R50: what a clear leaves, once steps 1 to 3 have left a desk whose CHANNEL entries all wait. -/
theorem exec_channelClear_waits {d : Desk} (steps : (((s.desk n).clearDecks (s.env n) true).clearDecks (s.env n) false).clearItems (s.env n) = d)
    (waits : ∀ i, (d.entry i).owner = .channel → (d.entry i).Waits) :
    ∃ t, exec (.channelClear a tag channel) s = .next t ∧ t.log = s.log.appendAll d.out ∧ t.store = { s.store with holds := d.holds } ∧
      (t.channels.get n).deckA = d.ch.deckA ∧ (t.channels.get n).deckB = d.ch.deckB ∧
      ∀ i, (t.channels.get n).ring.get i = (d.entry i).swept := by
  obtain ⟨entries, holds, out, deckA, deckB⟩ := Desk.clearWaiting_waits (e := s.env n) waits
  have clears : (s.desk n).clear (s.env n) = (d.clearWaiting (s.env n)).shut := by
    rw [Desk.clear_eq, steps]
  generalize d.clearWaiting (s.env n) = u at entries holds out deckA deckB clears
  refine ⟨_, exec_channelClear reached tag hn, ?_⟩
  unfold State.onChannel
  dsimp only
  rw [clears]
  have own : ((s.putDesk n u.shut).channels.get n) = u.shut.ch := get_put_same _ _ _
  have shut : (((s.putDesk n u.shut).answer tag 0x000A .done).channels.get n) = u.shut.ch := own
  refine ⟨congrArg s.log.appendAll out, congrArg (fun h => ({ s.store with holds := h } : Store)) holds, ?_, ?_, fun i => ?_⟩
  · rw [shut]; exact deckA
  · rw [shut]; exact deckB
  · rw [shut]; exact entries i

end

end Sys2Proof.Machine

/-! CHANNEL_CLEAR settled (O38). -/

namespace Sys2Proof.Machine

namespace Desk
variable {e : Env} {d : Desk}

/-- A returned entry is the hub's, and no clear touches it. -/
theorem swept_returned (x : Entry) (result : Result) : (returned x result).swept = returned x result := if_neg nofun

/-- R50 on a break of three entries: the first item sounds on deck A, the second waits on deck B. -/
theorem clear_break {b : BreakCtx} {i j m : Fin 128} (brk : d.ch.brk = some b) (entries : b.entries = [i, j, m]) (ij : i ≠ j) (im : i ≠ m)
    (jm : j ≠ m) (free : d.ch.free) (split : d.ch.split = none) (ti : (d.entry i).taken) (tj : (d.entry j).taken) (tm : (d.entry m).taken)
    (a : d.ch.deckA.item = some (.ring ⟨i, .a⟩)) (sounds : d.ch.deckA.sounding = true) {q : FrameNo} (start : (d.entry i).start = some q)
    (onB : d.ch.deckB.item = some (.ring ⟨j, .a⟩)) (waits : d.ch.deckB.waiting = true) :
    let d' := ((d.clearDecks e true).clearDecks e false).clearItems e
    d'.out = d.out ++ [e.ringItem q b.breakNo i (d.entry i).itemA .aborted d.ch.deckA.underruns,
      e.ringItem e.pos b.breakNo j (d.entry j).itemA .cleared d.ch.deckB.underruns,
      e.ringItem e.pos b.breakNo m (d.entry m).itemA .cleared 0] ∧
    d'.holds = (((d.releaseHold (d.entry i).itemA.cart).releaseHold (d.entry j).itemA.cart).releaseHold (d.entry m).itemA.cart).holds ∧
    d'.ch.deckA = freedDeck d.ch.deckA ∧ d'.ch.deckB = freedDeck d.ch.deckB ∧
    d'.ch.ring = put (put (put d.ch.ring i (returned (d.entry i) .aborted)) j (returned (d.entry j) .cleared)) m
      (returned (d.entry m) .cleared) := by
  obtain ⟨_, singleI, heldI, _⟩ := ti
  obtain ⟨_, singleJ, heldJ, _⟩ := tj
  obtain ⟨plan, held⟩ := free
  have quietB := waiting_not_sounding waits
  let d1 := (resulted e d i .aborted q d.ch.deckA.underruns).setDeck .a (freedDeck d.ch.deckA)
  have first : d.clearDecks e true = d1 := by
    rw [clearDecks_one (id := .a) true sounds (by rw [if_pos rfl]; exact ne_of_eq_of_ne quietB Bool.false_ne_true)]
    refine (endDeck_ring (id := .a) e a singleI (by decide)).trans ?_
    rw [show (d.deck .a).sounding = true from sounds, if_pos rfl, start]
    rfl
  have entryJ : d1.entry j = d.entry j := get_put_other _ _ _ _ ij
  let d2 := (resulted e d1 j .cleared e.pos d.ch.deckB.underruns).setDeck .b (freedDeck d.ch.deckB)
  have second : d1.clearDecks e false = d2 := by
    rw [clearDecks_one (d := d1) (id := .b) false waits Bool.false_ne_true]
    refine (endDeck_ring (d := d1) (id := .b) e onB (by rw [entryJ]; exact singleJ) (by decide)).trans ?_
    rw [show (d1.deck .b).sounding = false from quietB]
    rfl
  have entryM : d2.entry m = d.entry m := (get_put_other _ _ _ _ jm).trans (get_put_other _ _ _ _ im)
  have brk2 : d2.ch.brk = some ((b.without i).without j) := by
    change (d.ch.brk.map (BreakCtx.without i)).map (BreakCtx.without j) = _
    rw [brk]
    rfl
  have left : ((b.without i).without j).entries = [m] := by
    change (b.entries.filter (fun l => l != i)).filter (fun l => l != j) = [m]
    rw [entries]
    simp [Ne.symm ij, Ne.symm im, Ne.symm jm]
  have third : d2.clearItems e = resulted e d2 m .cleared e.pos 0 := by
    unfold clearItems
    rw [clearedItems_break (d := d2) plan held (by change (d.ch.split.map _).map _ = none; rw [split]; rfl) brk2, left,
      openItems_taken (l := [m]) (by simpa [entryM] using tm)]
    exact finishUnsounded_one e (by rw [entryM]; exact tm.2.1) (by decide)
  have number : d.numberFor i = b.breakNo := by unfold numberFor breakNumber; rw [brk]; rfl
  have number1 : d1.numberFor j = b.breakNo := by
    unfold numberFor breakNumber
    rw [show d1.ch.brk = some (b.without i) from congrArg (Option.map (BreakCtx.without i)) brk]
    rfl
  have number2 : d2.numberFor m = b.breakNo := by unfold numberFor breakNumber; rw [brk2]; rfl
  intro d'
  have is : d' = resulted e d2 m .cleared e.pos 0 := by
    unfold d'
    rw [first, second, third]
  rw [is]
  have holds1 : d1.holds = (d.releaseHold (d.entry i).itemA.cart).holds := holdsWithout_held heldI
  have holds2 : d2.holds = ((d.releaseHold (d.entry i).itemA.cart).releaseHold (d.entry j).itemA.cart).holds := by
    refine (holdsWithout_held (d := d1) (by rw [entryJ]; exact heldJ)).trans ?_
    rw [entryJ, holds1]
    rfl
  refine ⟨?_, ?_, rfl, rfl, ?_⟩
  · change ((d.out ++ [e.ringItem q (d.numberFor i) i (d.entry i).itemA .aborted d.ch.deckA.underruns]) ++
      [e.ringItem e.pos (d1.numberFor j) j (d1.entry j).itemA .cleared d.ch.deckB.underruns]) ++
      [e.ringItem e.pos (d2.numberFor m) m (d2.entry m).itemA .cleared 0] = _
    rw [number, number1, number2, entryJ, entryM, List.append_assoc, List.append_assoc]
    rfl
  · refine (holdsWithout_held (d := d2) (by rw [entryM]; exact tm.2.2.1)).trans ?_
    rw [entryM, holds2]
    rfl
  · change put (put (put d.ch.ring i (returned (d.entry i) .aborted)) j (returned (d1.entry j) .cleared)) m
      (returned (d2.entry m) .cleared) = _
    rw [entryJ, entryM]

/-- R50 in FALLBACK beside an armed plan of one item: a fill item sounds on deck A, a candidate waits on deck B. -/
theorem clear_fallback {p : Plan} {i : Fin 128} {slot other : Fin 16} (plan : d.ch.plan = some p) (items : p.items.map (·.ref) = [⟨i, .a⟩])
    (held : d.ch.held = none) (split : d.ch.split = none) (brk : d.ch.brk = none) (single : (d.entry i).itemB.cart = 0)
    (holds : (d.entry i).itemA.held = true) (provisional : (d.entry i).itemA.provisional = true)
    (a : d.ch.deckA.item = some (.fill slot)) (sounds : d.ch.deckA.sounding = true)
    (onB : d.ch.deckB.item = some (.fill other)) (waits : d.ch.deckB.waiting = true) :
    ((d.clearDecks e true).clearDecks e false).clearItems e =
      { ch := { d.ch.returns i .cleared with deckA := freedDeck d.ch.deckA, deckB := freedDeck d.ch.deckB }
        holds := (((d.releaseHold d.ch.deckA.cart).releaseHold d.ch.deckB.cart).releaseHold (d.entry i).itemA.cart).holds
        out := d.out ++ [e.fillEnd none slot d.ch.deckA .aborted, e.fillEnd none other d.ch.deckB .cleared,
          e.ringItem e.pos p.breakNo i (d.entry i).itemA .cleared 0] } := by
  have quietB := waiting_not_sounding waits
  let d1 : Desk :=
    { ch := { d.ch with deckA := freedDeck d.ch.deckA }, holds := (d.releaseHold d.ch.deckA.cart).holds
      out := d.out ++ [e.fillEnd none slot d.ch.deckA .aborted] }
  have first : d.clearDecks e true = d1 := by
    rw [clearDecks_one (id := .a) true sounds (by rw [if_pos rfl]; exact ne_of_eq_of_ne quietB Bool.false_ne_true)]
    refine (endDeck_fill (id := .a) e a .aborted).trans ?_
    rw [fillEnd_noSplit e split]
    rfl
  let d2 : Desk :=
    { ch := { d.ch with deckA := freedDeck d.ch.deckA, deckB := freedDeck d.ch.deckB }
      holds := ((d.releaseHold d.ch.deckA.cart).releaseHold d.ch.deckB.cart).holds
      out := (d.out ++ [e.fillEnd none slot d.ch.deckA .aborted]) ++ [e.fillEnd none other d.ch.deckB .cleared] }
  have second : d1.clearDecks e false = d2 := by
    rw [clearDecks_one (d := d1) (id := .b) false waits Bool.false_ne_true]
    refine (endDeck_fill (d := d1) (id := .b) e onB .cleared).trans ?_
    rw [fillEnd_noSplit (d := d1) e split]
    rfl
  have third : d2.clearItems e = resulted e d2 i .cleared e.pos 0 := by
    unfold clearItems
    rw [clearedItems_plan (d := d2) plan items provisional held split brk]
    exact finishUnsounded_one (d := d2) e single (by decide)
  have number : d2.numberFor i = p.breakNo := by
    unfold numberFor breakNumber
    rw [show d2.ch.brk = none from brk, show d2.ch.split = none from split, show d2.ch.plan = some p from plan]
    rfl
  rw [first, second, third]
  unfold resulted
  rw [number, holdsWithout_held (d := d2) holds, List.append_assoc, List.append_assoc]
  rfl

end Desk

/-- Settles O38: CHANNEL_CLEAR by its field, in any state, in BYPASS, in a BREAK and in FALLBACK beside a plan. -/
theorem channelClearRequest : Obligations.ChannelClearRequest := by
  refine ⟨fun s a tag channel reached => ⟨exec_channelClear_bad reached tag, fun n hn => ?_⟩, fun s a tag channel n reached hn => ?_⟩
  · intro c
    have runs : exec (.channelClear a tag channel) s =
        .next ((s.putDesk n ((s.desk n).clear (s.env n))).answer tag 0x000A .done) := exec_channelClear reached tag hn
    obtain ⟨idle, channel⟩ := (s.desk n).clear_channel (s.env n)
    generalize (s.desk n).clear (s.env n) = u at runs idle channel
    have own : ((s.putDesk n u).answer tag 0x000A .done).channels.get n = u.ch := get_put_same _ _ _
    refine ⟨_, runs, rfl, fun m other => get_put_other _ _ _ _ other.symm, ?_, ?_⟩
    · rw [own]
      exact idle
    · rw [own]
      exact channel
  · intro c e openItem settled waits cleared swept taken released
    refine ⟨fun state free idle split brk waiting => ?_, ?_, ?_⟩
    · have quiet (sounding : Bool) (id : DeckId) :
          ¬ (if sounding then ((s.desk n).deck id).sounding else ((s.desk n).deck id).waiting) = true := by
        have none' : ((s.desk n).deck id).state = .idle := Desk.deck_forall (p := fun k => k.state = .idle) (s.desk n) idle.1 idle.2 id
        cases sounding
        · exact ne_of_eq_of_ne (Desk.idle_not_waiting none') Bool.false_ne_true
        · exact ne_of_eq_of_ne (Desk.idle_not_sounding none') Bool.false_ne_true
      have steps : (((s.desk n).clearDecks (s.env n) true).clearDecks (s.env n) false).clearItems (s.env n) = s.desk n := by
        rw [Desk.clearDecks_none true (quiet true), Desk.clearDecks_none false (quiet false)]
        unfold Desk.clearItems
        rw [Desk.clearedItems_none (d := s.desk n) free.1 free.2 split brk]
        rfl
      obtain ⟨t, runs, log, store, deckA, deckB, ring⟩ := exec_channelClear_waits reached tag hn steps waiting
      exact ⟨t, runs, log, store, deckA, deckB, ring⟩
    · intro b i j m q state brk entries ij im jm free split ti tj tm open' a sounds start onB waitsB waiting item
      have wholly (l : Fin 128) (own : taken l) (fresh : openItem (c.ring.get l).itemA) : (c.ring.get l).taken :=
        ⟨fresh.1, own.2.2.1, own.2.2.2, fresh.2⟩
      obtain ⟨out, holds, deckA', deckB', ring'⟩ := Desk.clear_break (d := s.desk n) (e := s.env n) brk entries ij im jm free split
        (wholly i ti (open' i (.inl rfl))) (wholly j tj (open' j (.inr (.inl rfl)))) (wholly m tm (open' m (.inr (.inr rfl))))
        a sounds start onB waitsB
      generalize steps : (((s.desk n).clearDecks (s.env n) true).clearDecks (s.env n) false).clearItems (s.env n) = d at out holds deckA' deckB' ring'
      have entry (l : Fin 128) : d.entry l = if l = i then returned (c.ring.get l) .aborted
          else if l = j ∨ l = m then returned (c.ring.get l) .cleared else c.ring.get l := by
        unfold Desk.entry
        rw [ring', get_put, get_put, get_put]
        by_cases atM : m = l
        · subst atM
          rw [if_pos rfl, if_neg (Ne.symm im), if_pos (.inr rfl)]
          rfl
        · rw [if_neg atM]
          by_cases atJ : j = l
          · subst atJ
            rw [if_pos rfl, if_neg (Ne.symm ij), if_pos (.inl rfl)]
            rfl
          · rw [if_neg atJ]
            by_cases atI : i = l
            · subst atI
              rw [if_pos rfl, if_pos rfl]
              rfl
            · rw [if_neg atI, if_neg (Ne.symm atI), if_neg (not_or.mpr ⟨Ne.symm atJ, Ne.symm atM⟩)]
              rfl
      obtain ⟨t, runs, log, store, deckA, deckB, ring⟩ := exec_channelClear_waits reached tag hn steps (fun l owner => by
        rw [entry] at owner ⊢
        by_cases atI : l = i
        · rw [if_pos atI] at owner
          cases owner
        · rw [if_neg atI] at owner ⊢
          by_cases atJM : l = j ∨ l = m
          · rw [if_pos atJM] at owner
            cases owner
          · rw [if_neg atJM] at owner ⊢
            exact waiting l atI (fun h => atJM (.inl h)) (fun h => atJM (.inr h)) owner)
      refine ⟨t, runs, ?_, ?_, ?_, ?_, fun l => ?_⟩
      · rw [log, out]
        rfl
      · rw [store, holds]
        rfl
      · rw [deckA, deckA']
        rfl
      · rw [deckB, deckB']
        rfl
      · rw [ring, entry]
        by_cases atI : l = i
        · rw [if_pos atI, if_pos atI, Desk.swept_returned]
        · rw [if_neg atI, if_neg atI]
          by_cases atJM : l = j ∨ l = m
          · rw [if_pos atJM, if_pos atJM, Desk.swept_returned]
          · rw [if_neg atJM, if_neg atJM]
            rfl
    · intro p x slot other q state plan items part held split brk tx provisional result a sounds startA onB waitsB startB waiting item filled
      have ref : x.ref = ⟨x.ref.index, .a⟩ := congrArg (ItemRef.mk x.ref.index) part
      have refs : p.items.map (·.ref) = [⟨x.ref.index, .a⟩] := by rw [items, ← ref]; rfl
      have steps := Desk.clear_fallback (d := s.desk n) (e := s.env n) plan refs held split brk tx.2.2.1 tx.2.2.2 provisional a sounds onB waitsB
      have entry (l : Fin 128) : (put c.ring x.ref.index (returned (c.ring.get x.ref.index) .cleared)).get l =
          if l = x.ref.index then returned (c.ring.get l) .cleared else c.ring.get l := by
        by_cases own : l = x.ref.index
        · rw [if_pos own, own, get_put_same]
        · rw [if_neg own, get_put_other _ _ _ _ (Ne.symm own)]
      obtain ⟨t, runs, log, store, deckA, deckB, ring⟩ := exec_channelClear_waits reached tag hn steps (fun l owner => by
        change ((put c.ring x.ref.index (returned (c.ring.get x.ref.index) .cleared)).get l).owner = .channel at owner
        change ((put c.ring x.ref.index (returned (c.ring.get x.ref.index) .cleared)).get l).Waits
        rw [entry] at owner ⊢
        by_cases own : l = x.ref.index
        · rw [if_pos own] at owner
          cases owner
        · rw [if_neg own] at owner ⊢
          exact waiting l own owner)
      refine ⟨t, runs, ?_, ?_, deckA, deckB, fun l => ?_⟩
      · have recordA : e.fillEnd none slot c.deckA .aborted = filled (e.fillItem none slot q c.deckA) .aborted := by
          unfold Env.fillEnd
          rw [startA]
          rfl
        have recordB : e.fillEnd none other c.deckB .cleared = filled (e.fillItem none other e.pos c.deckB) .cleared := by
          unfold Env.fillEnd
          rw [startB]
          rfl
        rw [log, ← recordA, ← recordB]
        rfl
      · rw [store]
        rfl
      · rw [ring]
        change ((put c.ring x.ref.index (returned (c.ring.get x.ref.index) .cleared)).get l).swept = _
        rw [entry]
        by_cases own : l = x.ref.index
        · rw [if_pos own, if_pos own, Desk.swept_returned]
        · rw [if_neg own, if_neg own]
          rfl

end Sys2Proof.Machine

/-! An output period of a channel by its steps, and the feed test (O27). -/

namespace Sys2Proof.Machine

namespace Desk

section
variable {e : Env} {d : Desk}

/-- The steps of log 5 at P, each by its outcome, on a channel without a timer. -/
theorem period_eq {ended opened faded exhausted started : Desk} (ends : d.periodEnds e = ended) (opens : ended.periodOpens e = opened)
    (fades : opened.periodFades e = faded) (exhausts : faded.splitExhausted e = exhausted) (starts : exhausted.starts e = started)
    (timer : started.ch.timer = none) : d.period e = started.serviceAs (ended.opensWaiting e) e := by
  subst ends opens fades exhausts starts
  exact congrArg (serviceAs _ e) (timerExpires_none e _ timer)

theorem periodOpens_feed (plan : d.ch.plan = none) (held : d.ch.held = none) : d.periodOpens e = d.feedTest e := by
  unfold periodOpens
  rw [d.splitStarts_none e plan, d.windowOpens_none e held]

/-- The feed is tested in PASS and FALLBACK alone (R68). -/
theorem periodOpens_none (plan : d.ch.plan = none) (held : d.ch.held = none) (pass : d.ch.state ≠ .pass) (fallback : d.ch.state ≠ .fallback) :
    d.periodOpens e = d := (periodOpens_feed plan held).trans (d.feedTest_other e pass fallback)

/-- In PASS nothing starts (R103). -/
theorem mayStart_pass (state : d.ch.state = .pass) (id : DeckId) : d.mayStart id = false := by
  have ring (r : ItemRef) (k before : Deck) : d.ringMayStart k r before = false := by
    unfold ringMayStart
    rw [state]
  have fill : d.fillMayStart = false := by
    unfold fillMayStart
    rw [state]
  unfold mayStart
  dsimp only
  rw [fill]
  cases (d.deck id).item with
  | none => exact Bool.and_false _
  | some item => cases item <;> simp [ring]

theorem starts_notWaiting (a : d.ch.deckA.waiting = false) (b : d.ch.deckB.waiting = false) (brk : d.ch.brk = none) : d.starts e = d :=
  d.starts_none e (d.mayStart_notWaiting (id := .a) a) (d.mayStart_notWaiting (id := .b) b) (d.reachedItems_none brk)

/-! ### The feed test (R68) -/

/-- R68: a deck at the exit of FALLBACK, its fill item under the exit fade unless a ramp runs. -/
def exitFaded (f : Nat) (k : Deck) : Deck :=
  if k.sounding = true ∧ k.fillItem.isSome = true ∧ k.ramp = none then
    { k with state := .fading, ramp := some { kind := .exit, length := f, elapsed := 0 } } else k

theorem setDeck_deck_self (id : DeckId) : d.setDeck id (d.deck id) = d := by cases id <;> rfl

theorem exitFade_eq (f : Nat) (id : DeckId) : exitFade f d id = d.setDeck id (exitFaded f (d.deck id)) := by
  unfold exitFade exitFaded
  dsimp only
  by_cases fades : (d.deck id).sounding = true ∧ (d.deck id).fillItem.isSome = true ∧ (d.deck id).ramp = none
  · rw [if_pos fades, if_pos (by simp [fades.1, fades.2.1, fades.2.2])]
    rfl
  · rw [if_neg fades, if_neg (by simpa [and_assoc] using fades), setDeck_deck_self]

theorem exitFaded_waiting (f : Nat) (k : Deck) : (exitFaded f k).waiting = k.waiting := by
  unfold exitFaded
  split
  · next fades => rw [sounding_not_waiting fades.1]; rfl
  · rfl

theorem exitFaded_candidate (f : Nat) (k : Deck) : (exitFaded f k).candidate = k.candidate := by
  unfold Deck.candidate
  rw [exitFaded_waiting]
  unfold exitFaded
  split <;> rfl

theorem exitFaded_quiet {f : Nat} {k : Deck} (quiet : k.sounding = false) : exitFaded f k = k :=
  if_neg (fun fades => ne_of_eq_of_ne quiet Bool.false_ne_true fades.1)

/-- R68: PASS left where the feed is broken at P. -/
theorem feedTest_breaks (state : d.ch.state = .pass) (broken : e.broken d.ch.settings = true) : d.feedTest e = { d with
    ch := { d.ch with state := .fallback, fill := { d.ch.fill with wait := false } }
    out := d.out ++ [e.noted .fallbackStart e.pos] } := by
  unfold feedTest
  rw [state]
  exact if_pos broken

theorem feedTest_stays (state : d.ch.state = .fallback) (stays : e.broken d.ch.settings = true ∨ e.present = false) : d.feedTest e = d := by
  unfold feedTest
  rw [state]
  refine if_neg ?_
  rcases stays with broken | absent
  · simp [broken]
  · simp [absent]

/-- R68: FALLBACK at its exit, before its candidate is given up. -/
def leaving (d : Desk) : Desk := { d with ch := { d.ch with
  state := .pass, fill := { d.ch.fill with wait := false }
  deckA := exitFaded d.ch.settings.fade d.ch.deckA, deckB := exitFaded d.ch.settings.fade d.ch.deckB
  plan := d.ch.plan.map (fun p => ({ p with wantFill := false } : Plan))
  held := d.ch.held.map (fun h => (if h.stage = .call then { h with stage := .fill } else h : HeldWindow)) } }

theorem feedTest_leaves (state : d.ch.state = .fallback) (good : e.broken d.ch.settings = false) (present : e.present = true) :
    d.feedTest e = d.leaving.giveUpCandidate.record e (note .fallbackEnd e.pos) := by
  have fades : [DeckId.a, .b].foldl (exitFade d.ch.settings.fade) (d.setState .pass).noFillCalled = d.leaving := by
    rw [List.foldl_cons, List.foldl_cons, List.foldl_nil, exitFade_eq, exitFade_eq]
    rfl
  unfold feedTest
  rw [state]
  refine (if_pos (by rw [good, present]; rfl)).trans ?_
  exact congrArg (fun t : Desk => t.giveUpCandidate.record e (note .fallbackEnd e.pos)) fades

theorem leaving_free (free : d.ch.free) : d.leaving = { d with ch := { d.ch with
    state := .pass, fill := { d.ch.fill with wait := false }
    deckA := exitFaded d.ch.settings.fade d.ch.deckA, deckB := exitFaded d.ch.settings.fade d.ch.deckB } } := by
  obtain ⟨plan, held⟩ := free
  unfold leaving
  rw [plan, held, Option.map_none, Option.map_none, ← plan, ← held]

end

end Desk

/-! ### The broken feed (R15) -/

theorem State.env_broken (s : State) (n : Fin 4) (x : Settings) : (s.env n).broken x = s.feed.brokenFor x.silenceFallback s.time.pos := by
  unfold Env.broken
  cases x.silenceFallback <;> rfl

theorem State.env_broken_iff (s : State) (n : Fin 4) (x : Settings) : (s.env n).broken x = true ↔
    s.feed.state = .noLock ∨ ∃ b, s.feed.brk = some b ∧ (b.cause = .silent → x.silenceFallback = true) ∧
      atOrAfter (s.time.position.getD 0) b.point = true ∧ ∀ r, b.resume = some r → isBefore (s.time.position.getD 0) r = true := by
  rw [State.env_broken]
  change s.feed.brokenFor x.silenceFallback (s.time.position.getD 0) = true ↔ _
  unfold Feed.brokenFor Feed.brokenAt FeedBreak.covers
  by_cases noLock : s.feed.state = .noLock
  · simp [noLock]
  · cases s.feed.brk with
    | none => simp [noLock]
    | some b =>
      cases resume : b.resume with
      | none => by_cases silent : b.cause = .silent <;> simp [noLock, silent, resume, and_comm]
      | some r => by_cases silent : b.cause = .silent <;> simp [noLock, silent, resume, and_comm]

namespace Desk
variable {e : Env} {d : Desk}

theorem periodEnds_quiet (quiet : d.ch.quiet) (ends : d.noneEnds) : d.periodEnds e = d := d.periodEnds_none e ends quiet.2.1 quiet.1 quiet.2.2.1

/-- An output period of a channel without contexts, by its feed test, where nothing starts after it. -/
theorem period_feed {t : Desk} (free : d.ch.free) (quiet : d.ch.quiet) (ends : d.noneEnds) (feed : d.feedTest e = t) (plan : t.ch.plan = none) (held : t.ch.held = none) (split : t.ch.split = none)
    (brk : t.ch.brk = none) (window : t.ch.window = none) (timer : t.ch.timer = none) (starts : t.starts e = t) :
    d.period e = t.serviceAs false e := by
  rw [period_eq (periodEnds_quiet quiet ends) ((periodOpens_feed free.1 free.2).trans feed)
    (t.periodFades_none e plan held split brk window) (t.splitExhausted_none e split) starts timer,
    d.opensWaiting_unheld e free.2]

theorem period_passGood (free : d.ch.free) (quiet : d.ch.quiet) (ends : d.noneEnds) (state : d.ch.state = .pass) (good : e.broken d.ch.settings = false) : d.period e = d := by
  obtain ⟨split, brk, window, _, timer⟩ := quiet
  rw [period_feed free ⟨split, brk, window, by assumption, timer⟩ ends (d.feedTest_good e state good) free.1 free.2 split brk window timer
    (d.starts_none e (mayStart_pass state .a) (mayStart_pass state .b) (d.reachedItems_none brk))]
  exact d.serviceAs_pass e false state free

end Desk

namespace Desk
variable {e : Env} {d : Desk}

theorem openingMode_false (d : Desk) : d.openingMode false =
    if d.ch.deckA.state = .idle ∧ d.ch.deckB.state = .idle then .whenReady else .following := by
  unfold openingMode
  by_cases a : d.ch.deckA.state = .idle <;> by_cases b : d.ch.deckB.state = .idle <;> simp [a, b]

/-- R103: what FALLBACK loads at the end of an output period. -/
theorem serviceAs_fallbackMode (state : d.ch.state = .fallback) (free : d.ch.free) : d.serviceAs false e =
    if d.ch.fill.wait = true then d
    else d.chooseFill e (if d.ch.deckA.state = .idle ∧ d.ch.deckB.state = .idle then .whenReady else .following) := by
  rw [d.serviceAs_fallback e false state free, openingMode_false]

/-- The fill candidate on a deck, beside one that does not wait. -/
theorem candidateDeck_of {id : DeckId} {slot : Fin 16} (item : (d.deck id).item = some (.fill slot)) (waits : (d.deck id).waiting = true)
    (other : (d.deck (otherDeck id)).waiting = false) : d.candidateDeck = some id := by
  have own : (d.deck id).candidate = true := candidate_of item waits
  unfold candidateDeck
  cases id
  · exact if_pos own
  · exact (if_neg (ne_of_eq_of_ne (not_candidate (k := d.ch.deckA) other) Bool.false_ne_true)).trans (if_pos own)

theorem giveUpCandidate_of {id : DeckId} (candidate : d.candidateDeck = some id) : d.giveUpCandidate = d.giveUp id := by
  unfold giveUpCandidate
  rw [candidate]

/-- R68: FALLBACK left, by the desk at its exit once its candidate is given up. -/
theorem period_leaves {t : Desk} (free : d.ch.free) (quiet : d.ch.quiet) (ends : d.noneEnds) (state : d.ch.state = .fallback)
    (good : e.broken d.ch.settings = false) (present : e.present = true) (gives : d.leaving.giveUpCandidate = t)
    (same : t.ch.state = .pass ∧ t.ch.free ∧ t.ch.quiet) : d.period e = t.record e (note .fallbackEnd e.pos) := by
  obtain ⟨state', ⟨plan, held⟩, split, brk, window, last, timer⟩ := same
  have leaves : d.feedTest e = t.record e (note .fallbackEnd e.pos) := by
    rw [feedTest_leaves state good present, gives]
  rw [period_feed (t := t.record e (note .fallbackEnd e.pos)) free quiet ends leaves plan held split brk window timer
    (starts_none e _ (mayStart_pass state' .a) (mayStart_pass state' .b) (reachedItems_none _ brk))]
  exact serviceAs_pass e _ false state' ⟨plan, held⟩

end Desk

/-- Settles O27: the broken feed; PASS and FALLBACK by the feed test of an output period, with fill as FALLBACK chooses it. -/
theorem fallbackStartsAndEnds : Obligations.FallbackStartsAndEnds := by
  refine ⟨fun s n x => s.env_broken_iff n x, fun e d => ?_, fun e d => ?_⟩
  · intro c broken mode faded free quiet ends
    obtain ⟨plan, held⟩ := id free
    obtain ⟨split, brk, window, last, timer⟩ := id quiet
    refine ⟨Desk.period_passGood free quiet ends,
      fun a b => ⟨fun state breaks => ?_, fun state stays => ?_, fun state good present => ?_⟩, ?_⟩
    · rw [Desk.period_feed free quiet ends (Desk.feedTest_breaks state breaks) plan held split brk window timer
        (Desk.starts_notWaiting a b brk)]
      exact Desk.serviceAs_fallbackMode rfl free
    · rw [Desk.period_feed free quiet ends (Desk.feedTest_stays state stays) plan held split brk window timer
        (Desk.starts_notWaiting a b brk)]
      exact Desk.serviceAs_fallbackMode state free
    · have none' : d.leaving.giveUpCandidate = d.leaving := d.leaving.giveUpCandidate_none
        ((Desk.exitFaded_candidate _ _).trans (Desk.not_candidate a)) ((Desk.exitFaded_candidate _ _).trans (Desk.not_candidate b))
      rw [Desk.leaving_free free] at none'
      rw [Desk.period_leaves free quiet ends state good present ((congrArg Desk.giveUpCandidate (Desk.leaving_free free)).trans none')
        ⟨rfl, free, quiet⟩]
      rfl
    · intro id slot item waits other state good present k fill
      have own : Desk.exitFaded c.settings.fade (c.deck id) = c.deck id := Desk.exitFaded_quiet (Desk.waiting_not_sounding waits)
      have decks (j : DeckId) : d.leaving.deck j = Desk.exitFaded c.settings.fade (c.deck j) := by cases j <;> rfl
      have candidate : d.leaving.candidateDeck = some id := Desk.candidateDeck_of (d := d.leaving) (slot := slot)
        (by rw [decks, own]; exact item) (by rw [decks, own]; exact waits) (by rw [decks, Desk.exitFaded_waiting]; exact other)
      have gives := (Desk.giveUpCandidate_of candidate).trans
        (Desk.giveUp_eq (t := d.leaving) (id := id) (slot := slot) (by rw [decks, own]; exact item) split)
      rw [decks, own, Desk.leaving_free free] at gives
      rw [Desk.period_leaves free quiet ends state good present ((congrArg Desk.giveUpCandidate (Desk.leaving_free free)).trans gives) ?_]
      · cases id <;> rfl
      · cases id <;> exact ⟨rfl, free, quiet⟩
  · intro c faded state good present a b
    have none' : d.leaving.giveUpCandidate = d.leaving := d.leaving.giveUpCandidate_none
      ((Desk.exitFaded_candidate _ _).trans a) ((Desk.exitFaded_candidate _ _).trans b)
    rw [Desk.feedTest_leaves state good present, none']
    rfl

end Sys2Proof.Machine

/-! Items that end and begin at an output period, and the way out of an insert state (R52, R69, R183). -/

namespace Sys2Proof.Machine.Desk

variable {e : Env} {d : Desk}

/-! ### Rules over the two decks -/

theorem otherDeck_otherDeck (id : DeckId) : otherDeck (otherDeck id) = id := by cases id <;> rfl

theorem decksInOrder_cases (id : DeckId) : d.decksInOrder = [id, otherDeck id] ∨ d.decksInOrder = [otherDeck id, id] := by
  unfold decksInOrder
  cases id <;> split <;> simp [otherDeck]

/-- A rule over both decks that leaves all but one as it is. -/
theorem foldDecks_one {rule : Desk → DeckId → Desk} {t : Desk} (id : DeckId) (own : rule d id = t) (before : rule d (otherDeck id) = d)
    (after : rule t (otherDeck id) = t) : d.decksInOrder.foldl rule d = t := by
  rcases d.decksInOrder_cases id with order | order
  · rw [order, List.foldl_cons, List.foldl_cons, List.foldl_nil, own, after]
  · rw [order, List.foldl_cons, List.foldl_cons, List.foldl_nil, before, own]

theorem foldDecks_none {rule : Desk → DeckId → Desk} (each : ∀ id, rule d id = d) : d.decksInOrder.foldl rule d = d :=
  List.foldl_fixed' each _

/-! ### Ends (R40, R183) -/

/-- R40: but for the segue fade the due frames decide. -/
theorem naturalResult_due {k : Deck} (unsegued : ∀ r, k.ramp = some r → r.kind ≠ .segue) : d.naturalResult k = resultAt k.due (d.aired k) := by
  unfold naturalResult resultAt
  cases ramp : k.ramp with
  | none => simp
  | some r => simp [unsegued r ramp]

theorem naturalResult_plain {k : Deck} (plain : k.ramp = none) : d.naturalResult k = resultAt k.due (d.aired k) :=
  naturalResult_due (fun _ has => absurd (plain.symm.trans has) nofun)

theorem aired_ring {k : Deck} {r : ItemRef} (item : k.item = some (.ring r)) : d.aired k = (d.item r).aired := by
  unfold aired
  rw [item]

theorem aired_fill {k : Deck} {slot : Fin 16} (item : k.item = some (.fill slot)) : d.aired k = k.fillAired := by
  unfold aired
  rw [item]

/-- R106: a fill item that sounds ends by itself. -/
theorem endDeck_fillNatural {id : DeckId} {slot : Fin 16} {q : FrameNo} (item : (d.deck id).item = some (.fill slot))
    (unsegued : ∀ r, (d.deck id).ramp = some r → r.kind ≠ .segue) (start : (d.deck id).fillStart = some q) :
    d.endDeck e id (d.naturalResult (d.deck id)) =
      { ch := d.ch.setDeck id (freedDeck (d.deck id))
        holds := put d.holds (d.deck id).cart (d.holds.get (d.deck id).cart - 1)
        out := d.out ++ [e.fillItem (d.ch.split.map (·.breakNo)) slot q (d.deck id)] } := by
  have record : e.fillEnd (if (d.deck id).fillStart.isSome = true then d.ch.split.map (·.breakNo) else none) slot (d.deck id)
      (resultAt (d.deck id).due (d.deck id).fillAired) = e.fillItem (d.ch.split.map (·.breakNo)) slot q (d.deck id) := by
    unfold Env.fillEnd
    rw [start]
    rfl
  rw [endDeck_fill e item, naturalResult_due unsegued, aired_fill item, record]

theorem ended_quiet {k : Deck} (quiet : k.sounding = false) : d.ended k = false := by
  unfold ended
  rw [quiet]
  rfl

/-- One deck alone is released. -/
theorem releases_one {t : Desk} (id : DeckId) (released : d.releaseDeck e id = t)
    (other : d.ended (d.deck (otherDeck id)) = false) (after : t.ended (t.deck (otherDeck id)) = false) : d.releases e = t :=
  foldDecks_one id released (d.releaseDeck_none e _ other) (t.releaseDeck_none e _ after)

theorem releaseDeck_ring {id : DeckId} {r : ItemRef} (ends : d.ended (d.deck id) = true) (item : (d.deck id).item = some (.ring r)) :
    d.releaseDeck e id = d.endDeck e id (d.naturalResult (d.deck id)) := by
  refine (if_pos ends).trans (if_neg ?_)
  rw [fillItem_ring item]
  exact Bool.false_ne_true

theorem releaseDeck_fill {id : DeckId} {slot : Fin 16} (ends : d.ended (d.deck id) = true) (item : (d.deck id).item = some (.fill slot)) :
    d.releaseDeck e id = (d.endDeck e id (d.naturalResult (d.deck id))).lookAtHead e := by
  refine (if_pos ends).trans (if_pos ?_)
  rw [fillItem_of item]
  rfl

/-- Of the two decks one alone sounds, and its item ends. -/
theorem endSounding_one (id : DeckId) (sounds : (d.deck id).sounding = true) (other : (d.deck (otherDeck id)).sounding = false) :
    d.endSounding e = d.endDeck e id (d.naturalResult (d.deck id)) := by
  refine foldDecks_one id (if_pos sounds) (if_neg (ne_of_eq_of_ne other Bool.false_ne_true)) (if_neg ?_)
  rw [(d.endDeck_decks e id _).2.2]
  exact ne_of_eq_of_ne other Bool.false_ne_true

theorem endSounding_none (quiet : ∀ id, (d.deck id).sounding = false) : d.endSounding e = d :=
  foldDecks_none (fun id => if_neg (ne_of_eq_of_ne (quiet id) Bool.false_ne_true))

theorem cutFill_none (quiet : ∀ id, (d.deck id).sounding = false ∨ (d.deck id).fillItem = none) : d.cutFill e = d := by
  refine foldDecks_none (fun id => if_neg ?_)
  rcases quiet id with quiet | none'
  · rw [quiet]
    exact Bool.false_ne_true
  · rw [none', Option.isSome_none, Bool.and_false]
    exact Bool.false_ne_true

theorem cutFill_one {slot : Fin 16} (id : DeckId) (item : (d.deck id).item = some (.fill slot)) (sounds : (d.deck id).sounding = true)
    (other : (d.deck (otherDeck id)).sounding = false ∨ (d.deck (otherDeck id)).fillItem = none) :
    d.cutFill e = d.endDeck e id (d.naturalResult (d.deck id)) := by
  have stays (t : Desk) (same : t.deck (otherDeck id) = d.deck (otherDeck id)) :
      ¬ ((t.deck (otherDeck id)).sounding && (t.deck (otherDeck id)).fillItem.isSome) = true := by
    rw [same]
    rcases other with quiet | none'
    · rw [quiet]
      exact Bool.false_ne_true
    · rw [none', Option.isSome_none, Bool.and_false]
      exact Bool.false_ne_true
  refine foldDecks_one id (if_pos ?_) (if_neg (stays d rfl)) (if_neg (stays _ (d.endDeck_decks e id _).2.2))
  rw [sounds, fillItem_of item]
  rfl

/-! ### Starts (R52) -/

/-- One item alone begins at this output period. -/
theorem starts_one {t : Desk} (id : DeckId) (may : d.mayStart id = true) (begins : d.begin e id = t)
    (other : d.mayStart (otherDeck id) = false) (after : t.mayStart (otherDeck id) = false) (reached : d.reachedItems = [])
    (left : t.reachedItems = []) : d.starts e = t := by
  have passes := d.passReached_none e reached
  have passes' := t.passReached_none e left
  unfold starts
  rw [passes]
  refine foldDecks_one id ?_ ?_ ?_
  · rw [show d.startDeck e id = t from (if_pos may).trans begins, passes']
  · rw [d.startDeck_none e _ other, passes]
  · rw [t.startDeck_none e _ after, passes']

/-- R52: a deck whose item begins to sound in channel c. -/
def played (e : Env) (c : Channel) (k : Deck) : Deck :=
  { begunDeck c k with fillStart := if k.fillItem.isSome then some e.pos else none }

theorem played_ring {c : Channel} {k : Deck} {r : ItemRef} (item : k.item = some (.ring r)) : played e c k = begunDeck c k := by
  unfold played
  rw [fillItem_ring item]
  rfl

theorem play_eq {id : DeckId} (waits : (d.deck id).waiting = true) : d.play e id =
    { d with ch := { d.ch.setDeck id (played e d.ch (d.deck id)) with stamp := d.ch.stamp + 1, lastStart := d.ch.stamp } } := by
  have unready : decide ((d.deck id).state ≠ .ready) = decide ((d.deck id).state = .priming) := by
    rcases waiting_state waits with state | state <;> simp [state]
  unfold play played begunDeck
  dsimp only
  rw [← unready]
  cases id <;> rfl

theorem begin_fill {id : DeckId} {slot : Fin 16} (item : (d.deck id).item = some (.fill slot)) : d.begin e id = d.play e id := by
  unfold begin
  rw [ringItem_fill item]

/-- A ring item begins outside a break, beside nothing that it follows. -/
theorem begin_ring {id : DeckId} {r : ItemRef} (item : (d.deck id).item = some (.ring r)) :
    d.begin e id = ((((((d.passBefore e r).breakBegins e).segueFade r (otherDeck id)).play e id).markStart e r.index).callFill e id) := by
  unfold begin
  rw [ringItem_of item]

theorem passBefore_none {r : ItemRef} (brk : d.ch.brk = none) : d.passBefore e r = d := by
  unfold passBefore breakItems
  rw [brk]
  rfl

theorem breakBegins_none (brk : d.ch.brk = none) : d.breakBegins e = d := by
  unfold breakBegins
  rw [brk]

theorem breakBegins_started {b : BreakCtx} (brk : d.ch.brk = some b) (start : b.start.isSome = true) : d.breakBegins e = d := by
  unfold breakBegins
  rw [brk]
  refine if_neg ?_
  cases h : b.start with
  | none => rw [h] at start; exact absurd start Bool.false_ne_true
  | some _ => exact Bool.false_ne_true

theorem segueFade_quiet {r : ItemRef} {other : DeckId} (quiet : (d.deck other).sounding = false ∨ (d.deck other).ringItem = none) :
    d.segueFade r other = d := by
  refine if_neg ?_
  rcases quiet with quiet | none'
  · rw [quiet]
    exact Bool.false_ne_true
  · rw [none', Option.isSome_none, Bool.and_false]
    exact Bool.false_ne_true

theorem markStart_first {i : Fin 128} (first : (d.entry i).start = none) :
    d.markStart e i = d.setEntry i { d.entry i with start := some e.pos } := if_pos (by rw [first]; rfl)

theorem callFill_none {id : DeckId} (split : d.ch.split = none) : d.callFill e id = d := by
  unfold callFill
  rw [split]

/-! ### The way out of an insert state (R69) -/

theorem giveUpCandidate_noCandidate (noCandidate : d.candidateDeck = none) : d.giveUpCandidate = d := by
  unfold giveUpCandidate
  rw [noCandidate]

/-- R69: the channel as an insert state leaves it. -/
def left (d : Desk) : Desk := { d with ch := { d.ch with
  split := none, brk := none, window := none, lastRing := none, fill := { d.ch.fill with wait := false } } }

theorem leaveInsert_pass (noCandidate : d.candidateDeck = none) (good : e.present = true ∧ e.broken d.ch.settings = false) :
    d.leaveInsert e = { d.left with ch := { d.left.ch with state := .pass } } := by
  let t : Desk := { d with ch := { d.ch with split := none, brk := none, window := none, lastRing := none } }
  have candidate : t.giveUpCandidate = t := giveUpCandidate_noCandidate (d := t) noCandidate
  have may : (e.present && !e.broken t.ch.settings) = true := by
    rw [good.1, show e.broken t.ch.settings = false from good.2]
    rfl
  have leaves : d.leaveInsert e = t.setState .pass := (if_pos may).trans (congrArg (setState .pass) candidate)
  rw [leaves]
  rfl

theorem leaveInsert_fallback (bad : ¬ (e.present = true ∧ e.broken d.ch.settings = false)) :
    d.leaveInsert e = { d.left with ch := { d.left.ch with state := .fallback }, out := d.out ++ [e.noted .fallbackStart e.pos] } := by
  refine if_neg ?_
  intro may
  obtain ⟨present, good⟩ := Bool.and_eq_true_iff.mp may
  exact bad ⟨present, by simpa using good⟩

/-- R69 in an output period: where an insert state ends with both decks IDLE and nothing planned, the channel goes on. -/
theorem period_leavesInsert {t : Desk} (ends : d.periodEnds e = t.leaveInsert e) (a : t.ch.deckA.state = .idle) (b : t.ch.deckB.state = .idle)
    (plan : t.ch.plan = none) (held : t.ch.held = none) (timer : t.ch.timer = none) : d.period e = t.goesOn e := by
  have quiet (u : Desk) (sameA : u.ch.deckA = t.ch.deckA) (sameB : u.ch.deckB = t.ch.deckB) (brk : u.ch.brk = none) : u.starts e = u :=
    starts_notWaiting (by rw [sameA]; exact idle_not_waiting a) (by rw [sameB]; exact idle_not_waiting b) brk
  by_cases good : e.present = true ∧ e.broken t.ch.settings = false
  · let u : Desk := { t.left with ch := { t.left.ch with state := .pass } }
    have leaves : d.periodEnds e = u := ends.trans (leaveInsert_pass
      (t.candidateDeck_none (not_candidate (idle_not_waiting a)) (not_candidate (idle_not_waiting b))) good)
    have feed : u.feedTest e = u := u.feedTest_good e rfl good.2
    rw [period_eq leaves ((periodOpens_feed (d := u) plan held).trans feed) (u.periodFades_none e plan held rfl rfl rfl)
      (u.splitExhausted_none e rfl) (quiet u rfl rfl rfl) timer, u.serviceAs_pass e _ rfl ⟨plan, held⟩]
    exact (if_pos good).symm
  · let u : Desk := { t.left with ch := { t.left.ch with state := .fallback }, out := t.out ++ [e.noted .fallbackStart e.pos] }
    have leaves : d.periodEnds e = u := ends.trans (leaveInsert_fallback good)
    have stays : e.broken t.ch.settings = true ∨ e.present = false := by
      by_cases present : e.present = true
      · exact .inl (by simpa [present] using good)
      · exact .inr (by simpa using present)
    have feed : u.feedTest e = u := feedTest_stays (d := u) rfl stays
    rw [period_eq leaves ((periodOpens_feed (d := u) plan held).trans feed) (u.periodFades_none e plan held rfl rfl rfl)
      (u.splitExhausted_none e rfl) (quiet u rfl rfl rfl) timer, u.opensWaiting_unheld e held,
      serviceAs_fallbackMode (d := u) rfl ⟨plan, held⟩]
    have mode : (if u.ch.deckA.state = .idle ∧ u.ch.deckB.state = .idle then StartMode.whenReady else .following) = .whenReady :=
      if_pos ⟨a, b⟩
    rw [mode]
    refine (if_neg Bool.false_ne_true).trans ?_
    exact (if_neg good).symm

end Sys2Proof.Machine.Desk

/-! An output period of a free-length break (R59 to R62). -/

namespace Sys2Proof.Machine.Desk

variable {e : Env} {d : Desk}

/-! ### The steps of an output period in BREAK -/

/-- What a channel in BREAK has besides its break. -/
structure InBreak (d : Desk) : Prop where
  state : d.ch.state = .brk
  plan : d.ch.plan = none
  held : d.ch.held = none
  split : d.ch.split = none
  window : d.ch.window = none
  last : d.ch.lastRing = none
  timer : d.ch.timer = none

theorem InBreak.opens (h : d.InBreak) : d.periodOpens e = d :=
  periodOpens_none h.plan h.held (by rw [h.state]; nofun) (by rw [h.state]; nofun)

theorem serviceAs_brk {b : BreakCtx} (opening : Bool) (state : d.ch.state = .brk) (brk : d.ch.brk = some b) :
    d.serviceAs opening e = if b.closing = .none then d.serviceBreak e else d := by
  unfold serviceAs
  rw [state, brk]

theorem serviceBreak_none (next : d.nextPlayable = none) : d.serviceBreak e = d := by
  have loads : d.loadBreakItem e = d := by
    unfold loadBreakItem
    rw [next]
  unfold serviceBreak
  rw [loads, loads]

/-- An output period in BREAK by its ends, its closing fade and its starts, where nothing is left to load. -/
theorem period_inBreak {ended closed started : Desk} {b : BreakCtx} (ends : d.periodEnds e = ended) (inBreak : ended.InBreak)
    (closes : ended.breakCloses e = closed) (frame : closed.InBreak) (starts : closed.starts e = started) (inBreak' : started.InBreak)
    (brk : started.ch.brk = some b) (next : b.closing = .none → started.nextPlayable = none) : d.period e = started := by
  have fades : ended.periodFades e = closed := by
    unfold periodFades
    rw [ended.planPrimes_none e inBreak.plan, ended.windowPrimes_none e inBreak.held, ended.splitCloses_none e inBreak.split, closes,
      closed.windowCloses_none e frame.window]
  rw [period_eq ends inBreak.opens fades (closed.splitExhausted_none e frame.split) starts inBreak'.timer,
    serviceAs_brk _ inBreak'.state brk]
  by_cases open' : b.closing = .none
  · rw [if_pos open', serviceBreak_none (next open')]
  · rw [if_neg open']

/-! ### The ends -/

theorem periodEnds_break {r t : Desk} (released : d.releases e = r) (ends : r.breakEnds e = t) (split : t.ch.split = none)
    (window : t.ch.window = none) : d.periodEnds e = t := by
  unfold periodEnds
  rw [released, ends, t.splitEnds_none e split, t.windowEnds_none e window]

/-- A break whose end the channel leaves by R69. -/
theorem periodEnds_leaves {r t : Desk} (released : d.releases e = r) (ends : r.breakEnds e = t.leaveInsert e) :
    d.periodEnds e = t.leaveInsert e := by
  have left : (t.leaveInsert e).ch.split = none ∧ (t.leaveInsert e).ch.window = none := by
    let bare : Desk := { t with ch := { t.ch with split := none, brk := none, window := none, lastRing := none } }
    have q := (giveUpCandidate_still e bare).toQuiet
    by_cases good : (e.present && !e.broken bare.ch.settings) = true
    · rw [show t.leaveInsert e = bare.giveUpCandidate.setState .pass from if_pos good]
      exact ⟨q.split_none rfl, q.window_none rfl⟩
    · rw [show t.leaveInsert e = (bare.setState .fallback).record e (note .fallbackStart e.pos) from if_neg good]
      exact ⟨rfl, rfl⟩
  exact periodEnds_break released ends left.1 left.2

section
variable {b : BreakCtx} (brk : d.ch.brk = some b)
include brk

theorem breakEnds_take {left : Nat} {fading : Bool} (closing : b.closing = .take left fading) (done : left = 0) : d.breakEnds e = d.endTake e b := by
  unfold breakEnds
  rw [brk]
  dsimp only
  rw [closing]
  exact if_pos done

theorem breakEnds_guard {g : FrameNo} (closing : b.closing = .guard) (point : b.guardPoint = some g) (live : e.live = true) (pos : e.pos = g) :
    d.breakEnds e = d.endGuard e b g := by
  unfold breakEnds
  rw [brk]
  dsimp only
  rw [closing, point]
  exact if_pos (by rw [live, decide_eq_true pos]; rfl)

theorem breakEnds_open (closing : b.closing = .none) : d.breakEnds e = d.endsNormally e b := by
  unfold breakEnds
  rw [brk]
  dsimp only
  rw [closing]

/-- The normal end, when every entry has returned. -/
theorem endsNormally_empty (entries : b.entries = []) (reached : b.start.isSome = true → d.reachedItems = []) :
    d.endsNormally e b = d.endNormal e b := by
  have passed : (if b.start.isSome then d.passReached e else d) = d := by
    by_cases start : b.start.isSome = true
    · rw [if_pos start, d.passReached_none e (reached start)]
    · rw [if_neg start]
  unfold endsNormally
  dsimp only
  rw [passed, brk]
  exact if_pos (by rw [entries]; rfl)

theorem endsNormally_airing (entries : b.entries ≠ []) (reached : b.start.isSome = true → d.reachedItems = []) : d.endsNormally e b = d := by
  have passed : (if b.start.isSome then d.passReached e else d) = d := by
    by_cases start : b.start.isSome = true
    · rw [if_pos start, d.passReached_none e (reached start)]
    · rw [if_neg start]
  unfold endsNormally
  dsimp only
  rw [passed, brk]
  exact if_neg (by simpa using entries)

theorem breakCloses_none' (stays : b.closing ≠ .none ∨ b.guardPoint = none) : d.breakCloses e = d := by
  unfold breakCloses
  rw [brk]
  dsimp only
  split
  · next closing point => rcases stays with closes | none'; exacts [absurd closing closes, absurd (point.symm.trans none') nofun]
  · rfl

theorem breakCloses_early {g : FrameNo} (closing : b.closing = .none) (point : b.guardPoint = some g)
    (early : atOrAfter e.pos (g - frames d.ch.settings.fade) = false) : d.breakCloses e = d := by
  unfold breakCloses
  rw [brk]
  dsimp only
  rw [closing, point]
  exact if_neg (by rw [early, Bool.and_false]; exact Bool.false_ne_true)

/-- R61: the closing fade of the overrun guard. -/
theorem breakCloses_due {g : FrameNo} (closing : b.closing = .none) (point : b.guardPoint = some g) (live : e.live = true)
    (due : atOrAfter e.pos (g - frames d.ch.settings.fade) = true) : d.breakCloses e =
      ((d.setBreak { b with
          guardPoint := some (if e.pos = g - frames d.ch.settings.fade then g else e.pos + frames d.ch.settings.fade)
          closing := .guard }).closeAll d.ch.settings.fade).cutWaiting e .cutOff (d.openItems b.entries) := by
  unfold breakCloses
  rw [brk]
  dsimp only
  rw [closing, point]
  exact if_pos (Bool.and_eq_true_iff.mpr ⟨live, due⟩)

end

/-! ### A break of one entry whose one item is on deck A -/

/-- R43, R183: the item of entry i ends on deck A. -/
def itemEnded (e : Env) (d : Desk) (b : BreakCtx) (i : Fin 128) (result : Result) : Desk :=
  { ch := { d.ch with ring := put d.ch.ring i (returned (d.entry i) result), brk := some (b.without i), deckA := freedDeck d.ch.deckA }
    holds := put d.holds (d.entry i).itemA.cart (d.holds.get (d.entry i).itemA.cart - 1)
    out := d.out ++ [e.ringItem ((d.entry i).start.getD e.pos) b.breakNo i (d.entry i).itemA result d.ch.deckA.underruns] }

theorem endDeck_itemEnded {b : BreakCtx} {i : Fin 128} (inBreak : d.InBreak) (brk : d.ch.brk = some b)
    (item : d.ch.deckA.item = some (.ring ⟨i, .a⟩)) (single : (d.entry i).itemB.cart = 0) (held : (d.entry i).itemA.held = true)
    (sounds : d.ch.deckA.sounding = true) {result : Result} (final : result ≠ .none) : d.endDeck e .a result = d.itemEnded e b i result := by
  refine (endDeck_ring (id := .a) e item single final).trans ?_
  rw [show (d.deck .a).sounding = true from sounds, if_pos rfl, resulted_break_at brk inBreak.split inBreak.last held]
  rfl

/-- The break being aired has the one entry i, whose one item holds its cart and is on deck A. -/
structure AirsOne (d : Desk) (b : BreakCtx) (i : Fin 128) : Prop where
  brk : d.ch.brk = some b
  entries : b.entries = [i]
  item : d.ch.deckA.item = some (.ring ⟨i, .a⟩)
  present : (d.entry i).itemA.cart ≠ 0
  fresh : (d.entry i).itemA.result = .none
  held : (d.entry i).itemA.held = true
  single : (d.entry i).itemB.cart = 0

section
variable {b : BreakCtx} {i : Fin 128} (airs : d.AirsOne b i)
include airs

theorem AirsOne.openItems : d.openItems b.entries = [⟨i, .a⟩] := by
  rw [airs.entries]
  exact openItems_one airs.present airs.fresh airs.single

theorem AirsOne.breakItems : d.breakItems = [⟨i, .a⟩] := by
  unfold Desk.breakItems
  rw [airs.brk]
  exact airs.openItems

theorem AirsOne.onDeck : d.onDeck ⟨i, .a⟩ = true := by
  unfold Desk.onDeck
  rw [ringItem_of airs.item, beq_self_eq_true]
  rfl

theorem AirsOne.nextPlayable : d.nextPlayable = none := by
  unfold Desk.nextPlayable
  rw [airs.breakItems]
  refine (List.find?_cons_of_neg ?_).trans rfl
  rw [airs.onDeck, Bool.not_true, Bool.and_false]
  exact Bool.false_ne_true

theorem AirsOne.reachedItems : d.reachedItems = [] := by
  unfold Desk.reachedItems
  rw [airs.brk]
  dsimp only
  rw [airs.breakItems]
  cases h : d.sounds ⟨i, .a⟩ with
  | true =>
    rw [List.dropWhile_cons_of_pos h]
    rfl
  | false =>
    rw [List.dropWhile_cons_of_neg (ne_of_eq_of_ne h Bool.false_ne_true)]
    refine List.takeWhile_cons_of_neg ?_
    rw [show (d.item ⟨i, .a⟩).held = true from airs.held]
    exact Bool.false_ne_true

theorem AirsOne.endDeck (inBreak : d.InBreak) (sounds : d.ch.deckA.sounding = true) {result : Result} (final : result ≠ .none) :
    d.endDeck e .a result = d.itemEnded e b i result :=
  endDeck_itemEnded inBreak airs.brk airs.item airs.single airs.held sounds final

end

end Sys2Proof.Machine.Desk

/-! The ends of a free-length break (R61, R62, R69). -/

namespace Sys2Proof.Machine.Desk

variable {e : Env} {d : Desk}

theorem naturalResult_final (k : Deck) : d.naturalResult k ≠ .none := by
  unfold naturalResult
  extract_lets done
  split <;> nofun

theorem noneEnds_quiet (quiet : ∀ id, (d.deck id).sounding = false) : d.noneEnds := by
  rintro k (rfl | rfl) sounds
  · exact absurd sounds (ne_of_eq_of_ne (quiet .a) Bool.false_ne_true)
  · exact absurd sounds (ne_of_eq_of_ne (quiet .b) Bool.false_ne_true)

theorem quiet_idle (a : d.ch.deckA.state = .idle) (b : d.ch.deckB.state = .idle) (id : DeckId) : (d.deck id).sounding = false := by
  cases id
  · exact idle_not_sounding a
  · exact idle_not_sounding b

/-- R69 does not see the contexts that an insert state leaves. -/
theorem goesOn_brk (d : Desk) (brk : Option BreakCtx) : ({ d with ch := { d.ch with brk := brk } } : Desk).goesOn e = d.goesOn e := rfl

/-- A break with no entry left. -/
theorem reachedItems_empty {b : BreakCtx} (brk : d.ch.brk = some b) (entries : b.entries = []) : d.reachedItems = [] := by
  unfold Desk.reachedItems Desk.breakItems
  rw [brk]
  dsimp only
  rw [entries]
  rfl

/-- A BREAK_END record. -/
theorem breakEnded_eq (number : BreakNo) (reason : Reason) (position : FrameNo) (n : BitVec 32) :
    d.breakEnded e number reason position n = { d with out := d.out ++ [e.breakEnd number reason position n] } := rfl

/-! ### The head break in the place of the one taken (R62) -/

/-- R62: no break at the head. -/
theorem restartBreak_empty (start : d.headEntry.startsBreak = false) : d.restartBreak e =
    ({ d with out := d.out ++ [{ e.noted .triggerIgnored e.pos with reason := some .empty, ring := some (d.ch.head, none) }] } : Desk).leaveInsert e := by
  unfold restartBreak
  rw [d.gather_none e start]
  rfl

/-- R62: the playable break at the head is begun on deck A. -/
theorem restartBreak_begins {r : Run} {z : CartLength} (playable : HeadPlayable e d r z) (split : d.ch.split = none)
    (idle : d.ch.deckA.state = .idle) (empty : d.ch.deckA.item = none) (other : d.ch.deckB.item = none) : d.restartBreak e =
      { ch := d.ch.begins d.ch .a r z false
        holds := put d.holds d.headEntry.itemA.cart (d.holds.get d.headEntry.itemA.cart + 1)
        out := d.out } := by
  obtain ⟨owner, first, last, some', fresh, single, ready, room, run, size⟩ := id playable
  let x := d.headEntry
  let marked : Entry := { x with itemA := { x.itemA with held := true } }
  let claimed : Desk := { d with
    ch := { d.ch with head := x.successor d.ch.head, ring := put d.ch.ring d.ch.head marked }
    holds := put d.holds x.itemA.cart (d.holds.get x.itemA.cart + 1) }
  let gathered : Desk := { d with ch := { d.ch with head := x.successor d.ch.head } }
  have entry : claimed.entry d.ch.head = marked := get_put_same d.ch.ring d.ch.head marked
  have held : (claimed.item ⟨d.ch.head, .a⟩).held = true := congrArg (·.itemA.held) entry
  have items : gathered.openItems [d.ch.head] = [⟨d.ch.head, .a⟩] := openItems_one (d := gathered) some' fresh single
  have claims : gathered.claim e ⟨d.ch.head, .a⟩ = claimed := claim_head playable
  have gives : d.ch.givesDeck claimed.holds .a d.ch claimed.holds :=
    ⟨ringItem_none other, .inl ⟨idle, empty, nofun, rfl, rfl⟩⟩
  have restarts : d.restartBreak e = claimed.airBreak e (newBreak x.breakNo [d.ch.head] false) := by
    unfold restartBreak
    rw [d.gather_one e owner first last]
    dsimp only
    rw [items, List.foldl_cons, List.foldl_nil, claims]
    refine if_pos ?_
    simpa using held
  have airs := airBreak_one gives (t := claimed) (e := e) rfl rfl rfl split rfl (x := newBreak x.breakNo [d.ch.head] false)
    (i := d.ch.head) rfl (by rw [entry]; exact some') (by rw [entry]; exact fresh) (by rw [entry]; exact single) (by rw [entry])
    (by rw [entry]; exact run) (by rw [entry]; exact size)
  rw [restarts, airs, entry]
  rfl

/-- A break begun at the head, its item loading on deck A, waits for it (R59). -/
theorem begun_airsOne {r : Run} {z : CartLength} (playable : HeadPlayable e d r z) {holds : Vector Nat 1024} {out : List Record} :
    AirsOne { ch := d.ch.begins d.ch .a r z false, holds := holds, out := out }
      (newBreak d.headEntry.breakNo [d.ch.head] false) d.ch.head := by
  obtain ⟨_, _, _, some', fresh, single, _⟩ := playable
  have entry : ((d.ch.begins d.ch .a r z false).ring.get d.ch.head) =
      { d.headEntry with itemA := { d.headEntry.itemA with held := true } } := get_put_same _ _ _
  exact { brk := rfl, entries := rfl, item := rfl, present := (congrArg (·.itemA.cart) entry).trans_ne some'
          fresh := (congrArg (·.itemA.result) entry).trans fresh, held := congrArg (·.itemA.held) entry
          single := (congrArg (·.itemB.cart) entry).trans single }

/-- An output period whose ends leave a break just begun at the head. -/
theorem period_restarts {t : Desk} {r : Run} {z : CartLength} (playable : HeadPlayable e t r z) (plan : t.ch.plan = none) (held : t.ch.held = none)
    (split : t.ch.split = none) (window : t.ch.window = none) (last : t.ch.lastRing = none) (timer : t.ch.timer = none)
    (idle : t.ch.deckA.state = .idle) (empty : t.ch.deckA.item = none) (otherIdle : t.ch.deckB.state = .idle) (other : t.ch.deckB.item = none)
    {u : Desk} (released : d.releases e = u) (ends : u.breakEnds e = t.restartBreak e) : d.period e =
      { ch := t.ch.begins t.ch .a r z false
        holds := put t.holds t.headEntry.itemA.cart (t.holds.get t.headEntry.itemA.cart + 1)
        out := t.out } := by
  rw [restartBreak_begins playable split idle empty other] at ends
  let begun : Desk := { ch := t.ch.begins t.ch .a r z false
                        holds := put t.holds t.headEntry.itemA.cart (t.holds.get t.headEntry.itemA.cart + 1), out := t.out }
  have inBreak : begun.InBreak := ⟨rfl, plan, held, split, window, last, timer⟩
  have airs : begun.AirsOne (newBreak t.headEntry.breakNo [t.ch.head] false) t.ch.head := begun_airsOne playable
  have noStart : begun.mayStart .a = false := by
    unfold mayStart ringMayStart
    simp [begun, Channel.begins, Channel.setDeck, Desk.deck, Channel.deck, loadedDeck]
  exact period_inBreak (periodEnds_break released ends split window) inBreak (breakCloses_none' airs.brk (.inr rfl)) inBreak
    (begun.starts_none e noStart (begun.mayStart_notWaiting (id := .b) (idle_not_waiting otherIdle)) airs.reachedItems) inBreak airs.brk
    (fun _ => airs.nextPlayable)

/-! ### The item on deck A at the end of its break -/

section
variable {b : BreakCtx} {i : Fin 128} (airs : d.AirsOne b i) (inBreak : d.InBreak) (sounds : d.ch.deckA.sounding = true)
  (quiet : d.ch.deckB.sounding = false)
include airs

theorem AirsOne.without : (b.without i).entries = [] := by
  change b.entries.filter (fun j => j != i) = []
  rw [airs.entries]
  simp

include inBreak sounds quiet

/-- Where the item is not released by its own end it ends with its break: it is the same item's end. -/
theorem AirsOne.releases_or : (d.ended d.ch.deckA = true ∧ d.releases e = d.itemEnded e b i (d.naturalResult d.ch.deckA)) ∨
    (d.ended d.ch.deckA = false ∧ d.releases e = d) := by
  have quietB : d.ended (d.deck .b) = false := ended_quiet quiet
  cases ends : d.ended d.ch.deckA with
  | true =>
    refine .inl ⟨rfl, releases_one .a ?_ quietB (ended_quiet quiet)⟩
    exact (releaseDeck_ring (id := .a) ends airs.item).trans (airs.endDeck inBreak sounds (naturalResult_final _))
  | false =>
    exact .inr ⟨rfl, foldDecks_none (fun id => by cases id; exacts [d.releaseDeck_none e .a ends, d.releaseDeck_none e .b quietB])⟩

theorem AirsOne.endSounding : d.endSounding e = d.itemEnded e b i (d.naturalResult d.ch.deckA) :=
  (endSounding_one .a sounds quiet).trans (airs.endDeck inBreak sounds (naturalResult_final _))

/-- R61: the overrun guard ends the break. -/
theorem AirsOne.period_guard {s g : FrameNo} (start : b.start = some s) (live : e.live = true) (closing : b.closing = .guard)
    (point : b.guardPoint = some g) (pos : e.pos = g) (idle : d.ch.deckB.state = .idle) :
    d.period e = ({ d.itemEnded e b i (d.naturalResult d.ch.deckA) with
      out := (d.itemEnded e b i (d.naturalResult d.ch.deckA)).out ++ [e.breakEnd b.breakNo .endGuard g (g - s)] } : Desk).goesOn e := by
  refine period_leavesInsert ?_ rfl idle inBreak.plan inBreak.held inBreak.timer
  let t := d.itemEnded e b i (d.naturalResult d.ch.deckA)
  have guard (x : BreakCtx) (u : Desk) (number : x.breakNo = b.breakNo) (same : x.start = b.start) (ends : u.endSounding e = t) :
      u.endGuard e x g = ({ t with out := t.out ++ [e.breakEnd b.breakNo .endGuard g (g - s)] } : Desk).leaveInsert e := by
    unfold endGuard
    rw [ends, number, same, start]
    rfl
  rcases airs.releases_or (e := e) inBreak sounds quiet with ⟨_, released⟩ | ⟨_, released⟩
  · refine periodEnds_leaves released ?_
    rw [breakEnds_guard (b := b.without i) rfl closing point live pos]
    exact guard _ _ rfl rfl (endSounding_none (quiet_idle (d := t) rfl idle))
  · refine periodEnds_leaves released ?_
    rw [breakEnds_guard airs.brk closing point live pos]
    exact guard b d rfl rfl (airs.endSounding inBreak sounds quiet)

/-- R61: the normal end, as the last item is released. -/
theorem AirsOne.period_normal {s : FrameNo} (start : b.start = some s) (closing : b.closing = .none)
    (last : d.ch.deckA.length ≤ (d.entry i).itemA.aired) (idle : d.ch.deckB.state = .idle) :
    d.period e = ({ d.itemEnded e b i (d.naturalResult d.ch.deckA) with
      out := (d.itemEnded e b i (d.naturalResult d.ch.deckA)).out ++
        [e.breakEnd b.breakNo .endNormal e.pos (BitVec.ofNat 32 b.ran)] } : Desk).goesOn e := by
  refine period_leavesInsert ?_ rfl idle inBreak.plan inBreak.held inBreak.timer
  let t := d.itemEnded e b i (d.naturalResult d.ch.deckA)
  have ends : d.ended d.ch.deckA = true := by
    unfold ended
    rw [sounds, aired_ring airs.item, decide_eq_true (show d.ch.deckA.length ≤ (d.item ⟨i, .a⟩).aired from last)]
    rfl
  have released : d.releases e = t :=
    ((airs.releases_or (e := e) inBreak sounds quiet).resolve_right (fun h => Bool.noConfusion (ends.symm.trans h.1))).2
  refine periodEnds_leaves released ?_
  rw [breakEnds_open (d := t) (b := b.without i) rfl closing,
    endsNormally_empty (d := t) (b := b.without i) rfl airs.without (fun _ => reachedItems_empty (d := t) rfl airs.without)]
  unfold endNormal
  dsimp only
  rw [if_pos (show (b.without i).start.isSome = true by rw [show (b.without i).start = b.start from rfl, start]; rfl)]
  rfl

/-- R62: the end of a TAKE hard: the item ends, and then what the head holds is begun, if it is a break. -/
theorem AirsOne.ends_take {fading : Bool} (closing : b.closing = .take 0 fading) (idle : d.ch.deckB.state = .idle) :
    ∃ u, d.releases e = u ∧ u.breakEnds e = ({ d.itemEnded e b i (d.naturalResult d.ch.deckA) with
      out := (d.itemEnded e b i (d.naturalResult d.ch.deckA)).out ++
        [e.breakEnd b.breakNo .endTake e.pos (BitVec.ofNat 32 b.ran)] } : Desk).restartBreak e := by
  let t := d.itemEnded e b i (d.naturalResult d.ch.deckA)
  have take (x : BreakCtx) (u : Desk) (number : x.breakNo = b.breakNo) (same : x.ran = b.ran) (ends : u.endSounding e = t) :
      u.endTake e x = ({ t with out := t.out ++ [e.breakEnd b.breakNo .endTake e.pos (BitVec.ofNat 32 b.ran)] } : Desk).restartBreak e := by
    unfold endTake
    rw [ends, number, same]
    rfl
  rcases airs.releases_or (e := e) inBreak sounds quiet with ⟨_, released⟩ | ⟨_, released⟩
  · refine ⟨t, released, ?_⟩
    rw [breakEnds_take (d := t) (b := b.without i) rfl closing rfl]
    exact take _ _ rfl rfl (endSounding_none (quiet_idle (d := t) rfl idle))
  · refine ⟨d, released, ?_⟩
    rw [breakEnds_take airs.brk closing rfl]
    exact take b d rfl rfl (airs.endSounding inBreak sounds quiet)

end

end Sys2Proof.Machine.Desk

/-! A free-length break begins, and O30 settled. -/

namespace Sys2Proof.Machine.Desk

variable {e : Env} {d : Desk}

/-- R59: the break begins as its first item does. -/
theorem breakBegins_first {b : BreakCtx} {t : Desk} (brk : d.ch.brk = some b) (start : b.start = none) (closing : b.closing = .none)
    (cut : d.cutFill e = t) (candidate : t.candidateDeck = none) : d.breakBegins e = { t with
      ch := { t.ch with brk := some { b with
        start := some e.pos
        guardPoint := if t.ch.settings.guard = 0 then none else some (e.pos + BitVec.ofNat 32 t.ch.settings.guard) } }
      out := t.out ++ [{ e.noted .breakStart e.pos with breakNo := some b.breakNo }] } := by
  have guard : (if b.closing = .none then
      ({ b with start := some e.pos, guardPoint := if t.ch.settings.guard = 0 then none else (some e.pos).map (fun p => p + frames t.ch.settings.guard) } : BreakCtx)
      else { b with start := some e.pos }) = { b with
        start := some e.pos
        guardPoint := if t.ch.settings.guard = 0 then none else some (e.pos + BitVec.ofNat 32 t.ch.settings.guard) } := if_pos closing
  unfold breakBegins
  rw [brk]
  dsimp only
  rw [if_pos (by rw [start]; rfl), cut, giveUpCandidate_noCandidate candidate]
  exact congrArg (fun x => ({ t with
    ch := { t.ch with brk := some x }
    out := t.out ++ [{ e.noted .breakStart e.pos with breakNo := some b.breakNo }] } : Desk)) guard

section
variable {b : BreakCtx} {i : Fin 128} (airs : d.AirsOne b i)
include airs

theorem AirsOne.passBefore : d.passBefore e ⟨i, .a⟩ = d := by
  unfold Desk.passBefore
  rw [airs.breakItems, List.takeWhile_cons_of_neg (by simp)]
  rfl

variable (inBreak : d.InBreak) (start : b.start = none) (closing : b.closing = .none)
include start closing

/-- R59: the first item starts when its deck is READY. -/
theorem AirsOne.mayStart (ready : d.ch.deckA.state = .ready) (other : d.ch.deckB.waiting = false) (state : d.ch.state = .brk) : d.mayStart .a = true := by
  have waits : d.ch.deckA.waiting = true := by
    unfold Deck.waiting
    rw [ready]
    rfl
  unfold Desk.mayStart Desk.ringMayStart
  simp [Desk.deck, Channel.deck, otherDeck, waits, other, airs.item, state, airs.brk, start, closing, ready]

theorem AirsOne.mayStart_priming (priming : d.ch.deckA.state = .priming) (state : d.ch.state = .brk) : d.mayStart .a = false := by
  unfold Desk.mayStart Desk.ringMayStart
  simp [Desk.deck, Channel.deck, airs.item, state, airs.brk, start, closing, priming]

include inBreak

theorem AirsOne.periodEnds_first (ends : d.noneEnds) : d.periodEnds e = d := by
  refine periodEnds_break (d.releases_none e ends) ?_ inBreak.split inBreak.window
  rw [breakEnds_open airs.brk closing]
  exact endsNormally_airing airs.brk (by rw [airs.entries]; nofun) (fun h => by rw [start] at h; exact absurd h Bool.false_ne_true)

variable (unguarded : b.guardPoint = none) (ends : d.noneEnds)
include unguarded ends

theorem AirsOne.period_waits (priming : d.ch.deckA.state = .priming) (other : d.ch.deckB.waiting = false) : d.period e = d :=
  period_inBreak (airs.periodEnds_first inBreak start closing ends) inBreak (breakCloses_none' airs.brk (.inr unguarded)) inBreak
    (d.starts_none e (airs.mayStart_priming start closing priming inBreak.state) (d.mayStart_notWaiting (id := .b) other) airs.reachedItems)
    inBreak airs.brk (fun _ => airs.nextPlayable)

/-- R59: the break begins, over the desk that the cut of a fill item leaves. -/
theorem AirsOne.period_begins {t : Desk} (ready : d.ch.deckA.state = .ready) (other : d.ch.deckB.waiting = false)
    (first : (d.entry i).start = none) (cut : d.cutFill e = t)
    (frame : t.ch = { d.ch with deckB := t.ch.deckB }) (silent : t.ch.deckB.sounding = false) (rests : t.ch.deckB.waiting = false) : d.period e = { t with
      ch := { t.ch with
        brk := some { b with
          start := some e.pos
          guardPoint := if d.ch.settings.guard = 0 then none else some (e.pos + BitVec.ofNat 32 d.ch.settings.guard) }
        ring := put d.ch.ring i { d.entry i with start := some e.pos }
        deckA := begunDeck d.ch d.ch.deckA, stamp := d.ch.stamp + 1, lastStart := d.ch.stamp }
      out := t.out ++ [{ e.noted .breakStart e.pos with breakNo := some b.breakNo }] } := by
  obtain ⟨c, holds, out⟩ := t
  dsimp only at frame silent rests
  generalize c.deckB = k at frame silent rests
  subst frame
  have waits : d.ch.deckA.waiting = true := by
    unfold Deck.waiting
    rw [ready]
    rfl
  let b' : BreakCtx := { b with
    start := some e.pos
    guardPoint := if d.ch.settings.guard = 0 then none else some (e.pos + BitVec.ofNat 32 d.ch.settings.guard) }
  let u : Desk := { ch := { d.ch with deckB := k, brk := some b' }, holds := holds
                    out := out ++ [{ e.noted .breakStart e.pos with breakNo := some b.breakNo }] }
  have begins : d.breakBegins e = u := by
    refine breakBegins_first airs.brk start closing cut (candidateDeck_none _ ?_ ?_)
    · exact ring_not_candidate airs.item
    · exact not_candidate rests
  let v : Desk := { u with ch := { u.ch with deckA := begunDeck d.ch d.ch.deckA, stamp := d.ch.stamp + 1, lastStart := d.ch.stamp } }
  have plays : u.play e .a = v := by
    rw [play_eq (d := u) (id := .a) waits, played_ring (k := u.deck .a) airs.item]
    rfl
  let w : Desk := { v with ch := { v.ch with ring := put d.ch.ring i { d.entry i with start := some e.pos } } }
  have begun : d.begin e .a = w := by
    rw [begin_ring (id := .a) airs.item, airs.passBefore, begins]
    change (((u.segueFade ⟨i, .a⟩ .b).play e .a).markStart e i).callFill e .a = w
    rw [segueFade_quiet (d := u) (other := .b) (.inl silent), plays,
      markStart_first (d := v) first]
    exact callFill_none (d := w) inBreak.split
  have entry : w.entry i = { d.entry i with start := some e.pos } := get_put_same _ _ _
  have airs' : w.AirsOne b' i :=
    { brk := rfl, entries := airs.entries, item := airs.item, present := by rw [entry]; exact airs.present
      fresh := by rw [entry]; exact airs.fresh, held := by rw [entry]; exact airs.held, single := by rw [entry]; exact airs.single }
  have inBreak' : w.InBreak := ⟨inBreak.state, inBreak.plan, inBreak.held, inBreak.split, inBreak.window, inBreak.last, inBreak.timer⟩
  exact period_inBreak (airs.periodEnds_first inBreak start closing ends) inBreak (breakCloses_none' airs.brk (.inr unguarded)) inBreak
    (starts_one .a (airs.mayStart start closing ready other inBreak.state) begun (d.mayStart_notWaiting (id := .b) other)
      (w.mayStart_notWaiting (id := .b) rests) airs.reachedItems airs'.reachedItems) inBreak' airs'.brk (fun _ => airs'.nextPlayable)

end

/-! ### The closing fade of the overrun guard (R61) -/

section
variable {b : BreakCtx} {i : Fin 128} (airs : d.AirsOne b i) (inBreak : d.InBreak) (closing : b.closing = .none)
  (ends : d.noneEnds)
include airs inBreak closing ends

theorem AirsOne.periodEnds_airing : d.periodEnds e = d := by
  refine periodEnds_break (d.releases_none e ends) ?_ inBreak.split inBreak.window
  rw [breakEnds_open airs.brk closing]
  exact endsNormally_airing airs.brk (by rw [airs.entries]; nofun) (fun _ => airs.reachedItems)

variable (sounds : d.ch.deckA.sounding = true) (other : d.ch.deckB.state = .idle) {g : FrameNo} (point : b.guardPoint = some g)
include sounds other point

theorem AirsOne.period_unguarded (early : atOrAfter e.pos (g - frames d.ch.settings.fade) = false) : d.period e = d :=
  period_inBreak (airs.periodEnds_airing inBreak closing ends) inBreak (breakCloses_early airs.brk closing point early) inBreak
    (d.starts_none e (d.mayStart_notWaiting (id := .a) (sounding_not_waiting sounds))
      (d.mayStart_notWaiting (id := .b) (idle_not_waiting other)) airs.reachedItems)
    inBreak airs.brk (fun _ => airs.nextPlayable)

theorem AirsOne.period_closes (live : e.live = true) (due : atOrAfter e.pos (g - frames d.ch.settings.fade) = true) :
    d.period e = { d with ch := { d.ch with
      brk := some { b with
        guardPoint := some (if e.pos = g - frames d.ch.settings.fade then g else e.pos + frames d.ch.settings.fade), closing := .guard }
      deckA := closedDeck d.ch.settings.fade d.ch.deckA } } := by
  let b' : BreakCtx := { b with
    guardPoint := some (if e.pos = g - frames d.ch.settings.fade then g else e.pos + frames d.ch.settings.fade), closing := .guard }
  let u : Desk := { d with ch := { d.ch with brk := some b', deckA := closedDeck d.ch.settings.fade d.ch.deckA } }
  have closes : (d.setBreak b').closeAll d.ch.settings.fade = u := by
    unfold closeAll
    rw [closeDeck_sounding (d := d.setBreak b') _ (id := .a) sounds]
    exact closeDeck_quiet (d := u) _ (id := .b) (idle_not_sounding other)
  have closed : d.breakCloses e = u := by
    rw [breakCloses_due airs.brk closing point live due, airs.openItems, closes]
    exact cutWaiting_sounding (d := u) airs.item rfl
  have airs' : u.AirsOne b' i := ⟨rfl, airs.entries, airs.item, airs.present, airs.fresh, airs.held, airs.single⟩
  have inBreak' : u.InBreak := ⟨inBreak.state, inBreak.plan, inBreak.held, inBreak.split, inBreak.window, inBreak.last, inBreak.timer⟩
  exact period_inBreak (airs.periodEnds_airing inBreak closing ends) inBreak closed inBreak'
    (u.starts_none e (u.mayStart_notWaiting (id := .a) rfl) (u.mayStart_notWaiting (id := .b) (idle_not_waiting other)) airs'.reachedItems)
    inBreak' airs'.brk (fun _ => airs'.nextPlayable)

end

end Sys2Proof.Machine.Desk

/-! Free-length breaks settled (O30). -/

namespace Sys2Proof.Machine

namespace Desk
variable {e : Env} {d : Desk} {b : BreakCtx}

/-- R61: the normal end of a break with no entry left, and both decks IDLE. -/
theorem InBreak.period_empty (inBreak : d.InBreak) (brk : d.ch.brk = some b) (entries : b.entries = []) (closing : b.closing = .none)
    (a : d.ch.deckA.state = .idle) (other : d.ch.deckB.state = .idle) :
    d.period e = Desk.goesOn e { d with out := d.out ++ (if b.start.isNone = true then
      [{ e.noted .breakStart e.pos with breakNo := some b.breakNo }] else []) ++
        [e.breakEnd b.breakNo .endNormal e.pos (BitVec.ofNat 32 b.ran)] } := by
  refine period_leavesInsert (periodEnds_leaves (d.releases_none e (noneEnds_quiet (quiet_idle a other))) ?_) a other inBreak.plan
    inBreak.held inBreak.timer
  rw [breakEnds_open brk closing, endsNormally_empty brk entries (fun _ => reachedItems_empty brk entries)]
  unfold endNormal
  dsimp only
  cases start : b.start with
  | none =>
    rw [if_neg (show ¬ (none : Option FrameNo).isSome = true from Bool.false_ne_true),
      if_pos (show (none : Option FrameNo).isNone = true from rfl)]
    rfl
  | some s =>
    rw [if_pos (show (some s).isSome = true from rfl), if_neg (show ¬ (some s).isNone = true from Bool.false_ne_true), List.append_nil]
    rfl

/-- R62: the break begun at the head of what is left of channel d. -/
theorem begins_headRestarted {t : Desk} {ring : Vector Entry 128} {brk : Option BreakCtx} {k : Deck} {r : Run} {z : CartLength}
    (rest : t.ch = { d.ch with ring := ring, brk := brk, deckA := k }) (state : d.ch.state = .brk)
    (loads : ∀ item cart, loadedDeck k item cart r z d.ch.stamp = loadedDeck d.ch.deckA item cart r z d.ch.stamp)
    (head : ring.get d.ch.head = d.ch.ring.get d.ch.head) :
    ({ ch := t.ch.begins t.ch .a r z false
       holds := put t.holds t.headEntry.itemA.cart (t.holds.get t.headEntry.itemA.cart + 1)
       out := t.out } : Desk) = d.headRestarted ring t.holds t.out r z := by
  obtain ⟨c, holds, out⟩ := t
  dsimp only at rest
  subst rest
  have entry : Desk.headEntry { ch := { d.ch with ring := ring, brk := brk, deckA := k }, holds := holds, out := out } =
      d.ch.ring.get d.ch.head := head
  rw [entry]
  unfold Channel.begins headRestarted
  dsimp only [Channel.deck]
  rw [head, loads, ← state]
  rfl

/-- R62: the head break begun in the place of one with no entry left. -/
theorem InBreak.period_restarts (inBreak : d.InBreak) {r : Run} {z : CartLength} {fading : Bool} (brk : d.ch.brk = some b)
    (closing : b.closing = .take 0 fading) (a : d.ch.deckA.state = .idle) (empty : d.ch.deckA.item = none) (onlyA : d.ch.onlyA)
    (playable : HeadPlayable e d r z) : d.period e =
      d.headRestarted d.ch.ring d.holds (d.out ++ [e.breakEnd b.breakNo .endTake e.pos (BitVec.ofNat 32 b.ran)]) r z := by
  let t : Desk := { d with out := d.out ++ [e.breakEnd b.breakNo .endTake e.pos (BitVec.ofNat 32 b.ran)] }
  have quiet := quiet_idle a onlyA.1
  have ends : d.breakEnds e = t.restartBreak e := by
    rw [breakEnds_take brk closing rfl]
    unfold endTake
    rw [endSounding_none quiet]
    rfl
  refine (Desk.period_restarts (t := t) playable inBreak.plan inBreak.held inBreak.split inBreak.window inBreak.last inBreak.timer a empty
    onlyA.1 onlyA.2 (d.releases_none e (noneEnds_quiet quiet)) ends).trans ?_
  exact begins_headRestarted (t := t) rfl inBreak.state (fun _ _ => rfl) rfl

end Desk

/-- Settles O30: the end of an empty break; a break of one entry as it begins, closes and ends, by the guard, by itself and by TAKE. -/
theorem breakStartsAndEnds : Obligations.BreakStartsAndEnds := by
  intro e d b c state brk plan held split window last timer live
  have inBreak : d.InBreak := ⟨state, plan, held, split, window, last, timer⟩
  refine ⟨fun entries closing a empty onlyA => inBreak.period_empty brk entries closing a onlyA.1, ?_⟩
  intro headPlayable
  refine ⟨fun fading r y entries closing a empty onlyA playable => inBreak.period_restarts brk closing a empty onlyA playable, ?_⟩
  intro i entries item z k present fresh holds single
  have airs : d.AirsOne b i := ⟨brk, entries, item, present, fresh, holds, single⟩
  refine ⟨fun start closing unguarded first ends => ?_, fun s start sounds onlyA => ?_⟩
  · intro started breakStart
    refine ⟨fun priming other => airs.period_waits inBreak start closing unguarded ends priming other, fun ready onlyA => ?_, ?_⟩
    · exact airs.period_begins inBreak start closing unguarded ends ready (Desk.idle_not_waiting onlyA.1) first
        (Desk.cutFill_none (fun id => by
          cases id
          · exact .inr (Desk.fillItem_ring item)
          · exact .inl (Desk.idle_not_sounding onlyA.1))) rfl (Desk.idle_not_sounding onlyA.1) (Desk.idle_not_waiting onlyA.1)
    · intro slot q ready fill sounds plain filled
      have cut := Desk.cutFill_one (e := e) (d := d) .b fill sounds (.inr (Desk.fillItem_ring item))
      rw [Desk.endDeck_fillNatural (d := d) (id := .b) fill (fun r has => absurd (plain.symm.trans has) nofun) filled, split] at cut
      rw [airs.period_begins inBreak start closing unguarded ends ready (Desk.sounding_not_waiting sounds) first cut rfl rfl rfl]
      exact congrArg (fun out => ({
        ch := { started with deckB := freedDeck c.deckB }
        holds := put d.holds c.deckB.cart (d.holds.get c.deckB.cart - 1), out := out } : Desk)) (List.append_assoc _ _ _)
  · intro f ended
    have quiet : d.ch.deckB.sounding = false := Desk.idle_not_sounding onlyA.1
    have natural (plain : k.ramp = none) : d.naturalResult d.ch.deckA = resultAt k.due z.itemA.aired :=
      (Desk.naturalResult_plain plain).trans (congrArg (resultAt k.due) (Desk.aired_ring item))
    refine ⟨fun g closing point ends => ⟨fun early => ?_, fun due => ?_⟩, fun g closing point pos plain => ?_, fun closing whole due => ?_,
      fun fading closing plain noBreak => ?_, fun fading r y closing plain other => ?_⟩
    · exact airs.period_unguarded inBreak closing ends sounds onlyA.1 point early
    · exact airs.period_closes inBreak closing ends sounds onlyA.1 point live due
    · rw [airs.period_guard inBreak sounds quiet start live closing point pos onlyA.1, natural plain]
      rfl
    · have aired : d.naturalResult d.ch.deckA = .aired := by
        unfold Desk.naturalResult
        rw [Desk.aired_ring item, decide_eq_true (show d.ch.deckA.due ≤ (d.item ⟨i, .a⟩).aired from due)]
        simp
      rw [airs.period_normal inBreak sounds quiet start closing whole onlyA.1, aired]
      rfl
    · obtain ⟨u, released, ends⟩ := airs.ends_take (e := e) inBreak sounds quiet closing onlyA.1
      rw [natural plain] at ends
      let t := d.itemEnded e b i (resultAt k.due z.itemA.aired)
      let told : Desk := { t with out := t.out ++ [e.breakEnd b.breakNo .endTake e.pos (BitVec.ofNat 32 b.ran)] }
      have starts : told.headEntry.startsBreak = false := by
        unfold Entry.startsBreak
        change (decide (((put c.ring i (returned (d.entry i) _)).get c.head).owner = .channel) &&
          ((put c.ring i (returned (d.entry i) _)).get c.head).first) = false
        rw [get_put]
        by_cases own : i = c.head
        · rw [if_pos own]
          rfl
        · rw [if_neg own]
          rcases noBreak with hub | follows
          · rw [hub]
            rfl
          · rw [follows, Bool.and_false]
      rw [Desk.restartBreak_empty starts] at ends
      rw [Desk.period_leavesInsert (Desk.periodEnds_leaves released ends) rfl onlyA.1 plan held timer]
      exact congrArg (fun out => Desk.goesOn e {
        ch := { c with deckA := freedDeck k, ring := put c.ring i (returned z (resultAt k.due z.itemA.aired)) }
        holds := put d.holds z.itemA.cart (d.holds.get z.itemA.cart - 1), out := out }) (List.append_assoc _ _ _)
    · intro result released playable
      obtain ⟨u, releases, ends⟩ := airs.ends_take (e := e) inBreak sounds quiet closing onlyA.1
      rw [natural plain] at ends
      let t := d.itemEnded e b i result
      let told : Desk := { t with out := t.out ++ [e.breakEnd b.breakNo .endTake e.pos (BitVec.ofNat 32 b.ran)] }
      have head : (put c.ring i (returned z result)).get c.head = c.ring.get c.head := get_put_other _ _ _ _ (Ne.symm other)
      have playable' : Desk.HeadPlayable e told r y := by
        have entry : told.headEntry = c.ring.get c.head := head
        unfold Desk.HeadPlayable
        rw [entry]
        exact playable
      rw [Desk.period_restarts (t := told) playable' plan held split window last timer rfl rfl onlyA.1 onlyA.2 releases ends,
        Desk.begins_headRestarted (d := d) (t := told) rfl state (fun _ _ => rfl) head]
      exact congrArg (fun out => d.headRestarted (put c.ring i (returned z result)) released out r y) (List.append_assoc _ _ _)

end Sys2Proof.Machine

/-! The ring item that a window takes from the head (R31, R51, R67). -/

namespace Sys2Proof.Machine.Desk

variable {e : Env} {d : Desk}

/-- The head entry is CHANNEL-owned with an open item A that can be claimed, and whose cart has run r and length y. -/
structure HeadTakes (e : Env) (d : Desk) (r : Run) (y : CartLength) : Prop where
  owner : d.headEntry.owner = .channel
  present : d.headEntry.itemA.cart ≠ 0
  fresh : d.headEntry.itemA.result = .none
  ready : (e.catalog.get d.headEntry.itemA.cart).state = .ready
  room : d.holds.get d.headEntry.itemA.cart < 255
  run : (e.catalog.get d.headEntry.itemA.cart).run = some r
  size : (e.catalog.get d.headEntry.itemA.cart).size = some y

/-- The head's item A taken singly, its hold taken. -/
def headTaken (d : Desk) : Desk :=
  { d with
    ch := { d.ch with
      head := d.headEntry.successor d.ch.head, lastRing := some ⟨d.ch.head, .a⟩
      ring := put d.ch.ring d.ch.head { d.headEntry with itemA := { d.headEntry.itemA with held := true } } }
    holds := put d.holds d.headEntry.itemA.cart (d.holds.get d.headEntry.itemA.cart + 1) }

/-- The head's item A taken singly and loaded onto deck A. -/
def headLoaded (d : Desk) (r : Run) (y : CartLength) : Desk :=
  { d.headTaken with ch := { d.headTaken.ch with
    stamp := d.ch.stamp + 1
    deckA := loadedDeck d.ch.deckA (.ring ⟨d.ch.head, .a⟩) d.headEntry.itemA.cart r y d.ch.stamp } }

section
variable {r : Run} {y : CartLength} (takes : HeadTakes e d r y) (away : d.onDeck ⟨d.ch.head, .a⟩ = false) (pending : d.pendingB = none)
include takes away pending

theorem nextWindowItem_head : d.nextWindowItem = some (⟨d.ch.head, .a⟩, { d with ch := { d.ch with head := d.headEntry.successor d.ch.head } }) := by
  have first : (d.openItems [d.ch.head]).find? (fun r => !d.onDeck r) = some ⟨d.ch.head, .a⟩ := by
    have present : d.headEntry.itemA.present = true := decide_eq_true takes.present
    have refs : (d.entry d.ch.head).refs d.ch.head = ⟨d.ch.head, .a⟩ :: (if d.headEntry.itemB.present then [⟨d.ch.head, .b⟩] else []) := by
      unfold Entry.refs
      rw [show (d.entry d.ch.head).itemA.present = true from present]
      rfl
    have open' : decide ((d.item ⟨d.ch.head, .a⟩).result = .none) = true := decide_eq_true takes.fresh
    unfold openItems
    rw [List.flatMap_cons, List.flatMap_nil, List.append_nil, refs,
      List.filter_cons_of_pos (p := fun r => decide ((d.item r).result = .none)) open']
    exact List.find?_cons_of_pos (by rw [away]; rfl)
  have single : d.takeSingly = some (d.ch.head, { d with ch := { d.ch with head := d.headEntry.successor d.ch.head } }) :=
    if_pos takes.owner
  unfold nextWindowItem
  rw [pending]
  dsimp only
  rw [first, single]

variable (idle : d.ch.deckA.state = .idle)
include idle

/-- R67: the head's item is loaded onto the IDLE deck A. -/
theorem loadWindowItem_head (fuel : Nat) : d.loadWindowItem e (fuel + 1) = (d.headLoaded r y, true) := by
  have deck (t : Desk) (same : t.ch.deckA = d.ch.deckA) : t.takeDeck = some (.a, t) := by
    unfold takeDeck
    rw [idleDeck_a (d := t) (by rw [same]; exact idle)]
  let t : Desk := { d with ch := { d.ch with head := d.headEntry.successor d.ch.head, lastRing := some ⟨d.ch.head, .a⟩ } }
  have granted : grantable e.catalog t.holds d.headEntry.itemA.cart = true := by
    unfold grantable
    rw [decide_eq_true takes.ready, decide_eq_true takes.room]
    rfl
  have claims : t.claim e ⟨d.ch.head, .a⟩ = d.headTaken := claim_granted (d := t) e rfl granted
  have entry : d.headTaken.item ⟨d.ch.head, .a⟩ = { d.headEntry.itemA with held := true } := by
    change ((put d.ch.ring d.ch.head _).get d.ch.head).itemA = _
    rw [get_put_same]
  have held : (d.headTaken.item ⟨d.ch.head, .a⟩).held = true := by rw [entry]
  have cart : (d.headTaken.item ⟨d.ch.head, .a⟩).cart = d.headEntry.itemA.cart := by rw [entry]
  have some' : d.takeDeck.isSome = true := by rw [deck d rfl]; rfl
  unfold loadWindowItem
  rw [if_pos some', nextWindowItem_head takes away pending]
  change (if ((t.claim e ⟨d.ch.head, .a⟩).item ⟨d.ch.head, .a⟩).held = true then
    (match (t.claim e ⟨d.ch.head, .a⟩).takeDeck with
      | some (id, d') => (d'.load e id (.ring ⟨d.ch.head, .a⟩) (d'.item ⟨d.ch.head, .a⟩).cart .named, true)
      | none => (t.claim e ⟨d.ch.head, .a⟩, false)) else _) = _
  rw [claims, if_pos held, deck d.headTaken rfl]
  dsimp only
  rw [cart, load_named (id := .a) _ e takes.run takes.size]
  rfl

/-- R67 where no candidate waits. -/
theorem localNext_head (opening : Bool) (candidate : d.candidateDeck = none) :
    d.localNext e opening = (d.headLoaded r y).noFillWait := by
  unfold localNext
  rw [candidate, show ringFuel = 257 + 1 from rfl, loadWindowItem_head takes away pending idle]
  rfl

end

end Sys2Proof.Machine.Desk

/-! Items start and are released in a break of two entries (R52, R43). -/

namespace Sys2Proof.Machine.Desk

variable {e : Env} {d : Desk}

/-- The break being aired has two entries: the item of i sounds on deck A, that of j waits on deck B; both hold their carts. -/
structure AirsTwo (d : Desk) (b : BreakCtx) (i j : Fin 128) : Prop where
  brk : d.ch.brk = some b
  start : b.start.isSome = true
  closing : b.closing = .none
  unguarded : b.guardPoint = none
  entries : b.entries = [i, j]
  distinct : i ≠ j
  itemA : d.ch.deckA.item = some (.ring ⟨i, .a⟩)
  itemB : d.ch.deckB.item = some (.ring ⟨j, .a⟩)
  sounds : d.ch.deckA.sounding = true
  latest : d.ch.deckA.order = d.ch.lastStart
  takenI : (d.entry i).taken
  takenJ : (d.entry j).taken

section
variable {b : BreakCtx} {i j : Fin 128} (airs : d.AirsTwo b i j)
include airs

theorem AirsTwo.breakItems : d.breakItems = [⟨i, .a⟩, ⟨j, .a⟩] := by
  have both : ∀ l ∈ b.entries, (d.entry l).taken := by
    rw [airs.entries]
    simp [airs.takenI, airs.takenJ]
  rw [breakItems_taken airs.brk both, airs.entries]
  rfl

theorem AirsTwo.sounds_first : d.sounds ⟨i, .a⟩ = true := by
  unfold Desk.sounds
  rw [airs.sounds, ringItem_of airs.itemA, beq_self_eq_true]
  rfl

theorem AirsTwo.nextPlayable : d.nextPlayable = none := by
  have onA : d.onDeck ⟨i, .a⟩ = true := by
    unfold Desk.onDeck
    rw [ringItem_of airs.itemA, beq_self_eq_true]
    rfl
  have onB : d.onDeck ⟨j, .a⟩ = true := by
    unfold Desk.onDeck
    rw [ringItem_of airs.itemB, beq_self_eq_true, Bool.or_true]
  unfold Desk.nextPlayable
  rw [airs.breakItems]
  simp [onA, onB]

theorem AirsTwo.reachedItems : d.reachedItems = [] := by
  unfold Desk.reachedItems
  rw [airs.brk]
  dsimp only
  rw [airs.breakItems, List.dropWhile_cons_of_pos airs.sounds_first]
  cases h : d.sounds ⟨j, .a⟩ with
  | true =>
    rw [List.dropWhile_cons_of_pos h]
    rfl
  | false =>
    rw [List.dropWhile_cons_of_neg (ne_of_eq_of_ne h Bool.false_ne_true)]
    refine List.takeWhile_cons_of_neg ?_
    rw [show (d.item ⟨j, .a⟩).held = true from airs.takenJ.2.2.1]
    exact Bool.false_ne_true

theorem AirsTwo.passBefore : d.passBefore e ⟨j, .a⟩ = d := by
  have ij : (⟨i, .a⟩ : ItemRef) ≠ ⟨j, .a⟩ := fun h => airs.distinct (congrArg ItemRef.index h)
  unfold Desk.passBefore
  rw [airs.breakItems, List.takeWhile_cons_of_pos (by simpa using ij), List.takeWhile_cons_of_neg (by simp),
    List.filter_cons_of_neg (by simp [airs.sounds_first])]
  rfl

theorem AirsTwo.periodEnds (inBreak : d.InBreak) (ends : d.noneEnds) : d.periodEnds e = d := by
  refine periodEnds_break (d.releases_none e ends) ?_ inBreak.split inBreak.window
  rw [breakEnds_open airs.brk airs.closing]
  exact endsNormally_airing airs.brk (by rw [airs.entries]; nofun) (fun _ => airs.reachedItems)

theorem AirsTwo.mayStart_first : d.mayStart .a = false := d.mayStart_notWaiting (id := .a) (sounding_not_waiting airs.sounds)

/-- R52: the item on deck B starts when its start point comes by the item on deck A. -/
theorem AirsTwo.mayStart (inBreak : d.InBreak) (waits : d.ch.deckB.waiting = true) : d.mayStart .b = d.ringDue ⟨j, .a⟩ d.ch.deckA := by
  obtain ⟨s, start⟩ := Option.isSome_iff_exists.mp airs.start
  unfold Desk.mayStart Desk.ringMayStart
  simp [Desk.deck, Channel.deck, otherDeck, waits, airs.itemB, sounding_not_waiting airs.sounds, inBreak.state, airs.brk, airs.closing, start]

theorem AirsTwo.ringDue : d.ringDue ⟨j, .a⟩ d.ch.deckA = match (d.entry j).segue with
    | .cut => false
    | .overlap | .fade => decide (d.ch.deckA.segueOut ≤ (d.entry i).itemA.aired) := by
  unfold Desk.ringDue
  rw [if_pos airs.sounds, fillItem_ring airs.itemA, if_neg (show ¬ (none : Option (Fin 16)).isSome = true from Bool.false_ne_true),
    if_neg (show ¬ d.ch.deckA.order ≠ d.ch.lastStart from not_not.mpr airs.latest), aired_ring airs.itemA]
  rfl

/-- The item of j begins on deck B beside deck A, which is as given then. -/
def begunSecond (e : Env) (d : Desk) (j : Fin 128) (a : Deck) : Desk := { d with ch := { d.ch with
  ring := put d.ch.ring j { d.entry j with start := some e.pos }, deckA := a, deckB := begunDeck d.ch d.ch.deckB
  stamp := d.ch.stamp + 1, lastStart := d.ch.stamp } }

variable (inBreak : d.InBreak) (waits : d.ch.deckB.waiting = true) (first : (d.entry j).start = none)
include inBreak waits first

theorem AirsTwo.begin {a : Deck} (fades : d.segueFade ⟨j, .a⟩ .a = { d with ch := { d.ch with deckA := a } }) :
    d.begin e .b = begunSecond e d j a := by
  let u : Desk := { d with ch := { d.ch with deckA := a } }
  let v : Desk := { u with ch := { u.ch with deckB := begunDeck d.ch d.ch.deckB, stamp := d.ch.stamp + 1, lastStart := d.ch.stamp } }
  have plays : u.play e .b = v := by
    rw [play_eq (d := u) (id := .b) waits, played_ring (k := u.deck .b) airs.itemB]
    rfl
  rw [begin_ring (id := .b) airs.itemB, airs.passBefore, breakBegins_started airs.brk airs.start]
  change (((d.segueFade ⟨j, .a⟩ .a).play e .b).markStart e j).callFill e .b = _
  rw [fades, plays, markStart_first (d := v) first]
  exact callFill_none (d := begunSecond e d j a) inBreak.split

/-- R52: the item of j starts in its output period. -/
theorem AirsTwo.period_starts (ends : d.noneEnds) {a : Deck} (due : d.ringDue ⟨j, .a⟩ d.ch.deckA = true)
    (fades : d.segueFade ⟨j, .a⟩ .a = { d with ch := { d.ch with deckA := a } }) (item : a.item = d.ch.deckA.item) (sounds : a.sounding = true) :
    d.period e = begunSecond e d j a := by
  let w := begunSecond e d j a
  have begun := airs.begin (e := e) inBreak waits first fades
  have entryJ : w.entry j = { d.entry j with start := some e.pos } := get_put_same _ _ _
  have entryI : w.entry i = d.entry i := get_put_other _ _ _ _ (Ne.symm airs.distinct)
  have items : w.breakItems = [⟨i, .a⟩, ⟨j, .a⟩] := by
    have both : ∀ l ∈ b.entries, (w.entry l).taken := by
      rw [airs.entries]
      simp only [List.mem_cons, List.not_mem_nil, or_false, forall_eq_or_imp, forall_eq]
      rw [entryI, entryJ]
      exact ⟨airs.takenI, airs.takenJ⟩
    rw [breakItems_taken (d := w) airs.brk both, airs.entries]
    rfl
  have itemA : w.ch.deckA.item = some (.ring ⟨i, .a⟩) := item.trans airs.itemA
  have soundsI : w.sounds ⟨i, .a⟩ = true := by
    unfold Desk.sounds
    rw [show w.ch.deckA.sounding = true from sounds, ringItem_of itemA, beq_self_eq_true]
    rfl
  have soundsJ : w.sounds ⟨j, .a⟩ = true := by
    unfold Desk.sounds
    rw [show w.ch.deckB.sounding = true from rfl, ringItem_of (k := w.ch.deckB) airs.itemB, beq_self_eq_true]
    exact Bool.or_true _
  have reached : w.reachedItems = [] := by
    unfold Desk.reachedItems
    rw [show w.ch.brk = some b from airs.brk]
    dsimp only
    rw [items, List.dropWhile_cons_of_pos soundsI, List.dropWhile_cons_of_pos soundsJ]
    rfl
  have next : w.nextPlayable = none := by
    have on (r : ItemRef) (h : w.sounds r = true) : w.onDeck r = true := by
      unfold Desk.sounds at h
      unfold Desk.onDeck
      simp only [Bool.or_eq_true, Bool.and_eq_true] at h ⊢
      exact h.imp And.right And.right
    unfold Desk.nextPlayable
    rw [items]
    simp [on _ soundsI, on _ soundsJ]
  have inBreak' : w.InBreak := ⟨inBreak.state, inBreak.plan, inBreak.held, inBreak.split, inBreak.window, inBreak.last, inBreak.timer⟩
  exact period_inBreak (airs.periodEnds inBreak ends) inBreak (breakCloses_none' airs.brk (.inr airs.unguarded)) inBreak
    (starts_one .b ((airs.mayStart inBreak waits).trans due) begun airs.mayStart_first
      (w.mayStart_notWaiting (id := .a) (sounding_not_waiting sounds)) airs.reachedItems reached) inBreak' airs.brk (fun _ => next)

omit first in
theorem AirsTwo.period_stays (ends : d.noneEnds) (early : d.ringDue ⟨j, .a⟩ d.ch.deckA = false) : d.period e = d :=
  period_inBreak (airs.periodEnds inBreak ends) inBreak (breakCloses_none' airs.brk (.inr airs.unguarded)) inBreak
    (d.starts_none e airs.mayStart_first ((airs.mayStart inBreak waits).trans early) airs.reachedItems) inBreak airs.brk
    (fun _ => airs.nextPlayable)

end

/-- The break being aired has one entry left, whose item waits on deck B beside a silent deck A. -/
structure WaitsOne (d : Desk) (b : BreakCtx) (j : Fin 128) : Prop where
  brk : d.ch.brk = some b
  start : b.start.isSome = true
  closing : b.closing = .none
  unguarded : b.guardPoint = none
  entries : b.entries = [j]
  item : d.ch.deckB.item = some (.ring ⟨j, .a⟩)
  waits : d.ch.deckB.waiting = true
  silent : d.ch.deckA.sounding = false
  rests : d.ch.deckA.waiting = false
  taken : (d.entry j).taken

section
variable {b : BreakCtx} {j : Fin 128} (airs : d.WaitsOne b j)
include airs

theorem WaitsOne.breakItems : d.breakItems = [⟨j, .a⟩] := by
  have each : ∀ l ∈ b.entries, (d.entry l).taken := by
    rw [airs.entries]
    simpa using airs.taken
  rw [breakItems_taken airs.brk each, airs.entries]
  rfl

theorem WaitsOne.reachedItems : d.reachedItems = [] := by
  have quiet : d.sounds ⟨j, .a⟩ = false := by
    unfold Desk.sounds
    rw [airs.silent, waiting_not_sounding airs.waits]
    rfl
  unfold Desk.reachedItems
  rw [airs.brk]
  dsimp only
  rw [airs.breakItems, List.dropWhile_cons_of_neg (ne_of_eq_of_ne quiet Bool.false_ne_true)]
  refine List.takeWhile_cons_of_neg ?_
  rw [show (d.item ⟨j, .a⟩).held = true from airs.taken.2.2.1]
  exact Bool.false_ne_true

theorem WaitsOne.breakEnds : d.breakEnds e = d := by
  rw [breakEnds_open airs.brk airs.closing]
  exact endsNormally_airing airs.brk (by rw [airs.entries]; nofun) (fun _ => airs.reachedItems)

variable (inBreak : d.InBreak)
include inBreak

/-- R52: after an item that has ended the next starts at once. -/
theorem WaitsOne.mayStart : d.mayStart .b = true := by
  obtain ⟨s, start⟩ := Option.isSome_iff_exists.mp airs.start
  have cuts : d.ringDue ⟨j, .a⟩ d.ch.deckA = true := if_neg (ne_of_eq_of_ne airs.silent Bool.false_ne_true)
  unfold Desk.mayStart Desk.ringMayStart
  simp [Desk.deck, Channel.deck, otherDeck, airs.waits, airs.item, airs.rests, inBreak.state, airs.brk, airs.closing, start, cuts]

variable (first : (d.entry j).start = none)
include first

theorem WaitsOne.begin : d.begin e .b = begunSecond e d j d.ch.deckA := by
  let v : Desk := { d with ch := { d.ch with deckB := begunDeck d.ch d.ch.deckB, stamp := d.ch.stamp + 1, lastStart := d.ch.stamp } }
  have plays : d.play e .b = v := by
    rw [play_eq (id := .b) airs.waits, played_ring (k := d.deck .b) airs.item]
    rfl
  have passes : d.passBefore e ⟨j, .a⟩ = d := by
    unfold Desk.passBefore
    rw [airs.breakItems, List.takeWhile_cons_of_neg (by simp)]
    rfl
  rw [begin_ring (id := .b) airs.item, passes, breakBegins_started airs.brk airs.start]
  change (((d.segueFade ⟨j, .a⟩ .a).play e .b).markStart e j).callFill e .b = _
  rw [segueFade_quiet (other := .a) (.inl airs.silent), plays, markStart_first (d := v) first]
  exact callFill_none (d := begunSecond e d j d.ch.deckA) inBreak.split

/-- R52: the last item starts, once the ends of the output period have left it waiting. -/
theorem WaitsOne.period_starts {u : Desk} (ends : u.periodEnds e = d) : u.period e = begunSecond e d j d.ch.deckA := by
  let w := begunSecond e d j d.ch.deckA
  have entry : w.entry j = { d.entry j with start := some e.pos } := get_put_same _ _ _
  have items : w.breakItems = [⟨j, .a⟩] := by
    have each : ∀ l ∈ b.entries, (w.entry l).taken := by
      rw [airs.entries]
      simp only [List.mem_cons, List.not_mem_nil, or_false, forall_eq]
      rw [entry]
      exact airs.taken
    rw [breakItems_taken (d := w) airs.brk each, airs.entries]
    rfl
  have sounds : w.sounds ⟨j, .a⟩ = true := by
    unfold Desk.sounds
    rw [show w.ch.deckB.sounding = true from rfl, ringItem_of (k := w.ch.deckB) airs.item, beq_self_eq_true]
    exact Bool.or_true _
  have reached : w.reachedItems = [] := by
    unfold Desk.reachedItems
    rw [show w.ch.brk = some b from airs.brk]
    dsimp only
    rw [items, List.dropWhile_cons_of_pos sounds]
    rfl
  have next : w.nextPlayable = none := by
    have on : w.onDeck ⟨j, .a⟩ = true := by
      unfold Desk.onDeck
      rw [ringItem_of (k := w.ch.deckB) airs.item, beq_self_eq_true, Bool.or_true]
    unfold Desk.nextPlayable
    rw [items]
    simp [on]
  have inBreak' : w.InBreak := ⟨inBreak.state, inBreak.plan, inBreak.held, inBreak.split, inBreak.window, inBreak.last, inBreak.timer⟩
  exact period_inBreak ends inBreak (breakCloses_none' airs.brk (.inr airs.unguarded)) inBreak
    (starts_one .b (airs.mayStart inBreak) (airs.begin inBreak first) (d.mayStart_notWaiting (id := .a) airs.rests)
      (w.mayStart_notWaiting (id := .a) airs.rests) airs.reachedItems reached) inBreak' airs.brk (fun _ => next)

end

/-- R43, R52: the first item is released, and the second cuts in. -/
theorem AirsTwo.period_cuts {b : BreakCtx} {i j : Fin 128} (airs : d.AirsTwo b i j) (inBreak : d.InBreak) (waits : d.ch.deckB.waiting = true)
    (first : (d.entry j).start = none) (ends : d.ch.deckA.length ≤ (d.entry i).itemA.aired)
    (due : d.ch.deckA.due ≤ (d.entry i).itemA.aired) :
    d.period e = begunSecond e (d.itemEnded e b i .aired) j (freedDeck d.ch.deckA) := by
  let t := d.itemEnded e b i .aired
  have result : d.naturalResult d.ch.deckA = .aired := by
    unfold naturalResult
    rw [aired_ring airs.itemA, decide_eq_true (show d.ch.deckA.due ≤ (d.item ⟨i, .a⟩).aired from due)]
    simp
  have spent : d.ended (d.deck .a) = true := by
    unfold ended
    rw [show (d.deck .a).sounding = true from airs.sounds, aired_ring (k := d.deck .a) airs.itemA,
      decide_eq_true (show (d.deck .a).length ≤ (d.item ⟨i, .a⟩).aired from ends)]
    rfl
  have silent := waiting_not_sounding waits
  have released : d.releases e = t := by
    refine releases_one .a ?_ (ended_quiet (k := d.deck .b) silent) (ended_quiet (k := t.deck .b) silent)
    rw [releaseDeck_ring (id := .a) spent airs.itemA, show d.naturalResult (d.deck .a) = .aired from result]
    exact endDeck_itemEnded inBreak airs.brk airs.itemA airs.takenI.2.1 airs.takenI.2.2.1 airs.sounds (by decide)
  have left : (b.without i).entries = [j] := by
    change b.entries.filter (fun l => l != i) = [j]
    rw [airs.entries]
    simp [Ne.symm airs.distinct]
  have entry : t.entry j = d.entry j := get_put_other _ _ _ _ airs.distinct
  have waitsOne : t.WaitsOne (b.without i) j :=
    { brk := rfl, start := airs.start, closing := airs.closing, unguarded := airs.unguarded, entries := left, item := airs.itemB
      waits := waits, silent := rfl, rests := rfl, taken := by rw [entry]; exact airs.takenJ }
  have inBreak' : t.InBreak := ⟨inBreak.state, inBreak.plan, inBreak.held, inBreak.split, inBreak.window, inBreak.last, inBreak.timer⟩
  exact waitsOne.period_starts inBreak' (by rw [entry]; exact first)
    (periodEnds_break released waitsOne.breakEnds inBreak.split inBreak.window)

end Sys2Proof.Machine.Desk

/-! An output period of a window (R64 to R67). -/

namespace Sys2Proof.Machine.Desk

variable {e : Env} {d : Desk} {w : WindowCtx}

/-- What a channel in LOCAL has besides its window w. -/
structure InLocal (d : Desk) (w : WindowCtx) : Prop where
  state : d.ch.state = .loc
  window : d.ch.window = some w
  plan : d.ch.plan = none
  held : d.ch.held = none
  split : d.ch.split = none
  brk : d.ch.brk = none
  timer : d.ch.timer = none

/-- The closing point of the window, less the fade, is not reached at P. -/
def StaysOpen (e : Env) (d : Desk) (closes : Option FrameNo) : Prop :=
  ∀ x, closes = some x → atOrAfter e.pos (x - BitVec.ofNat 32 d.ch.settings.fade) = false

theorem InLocal.opens (h : d.InLocal w) : d.periodOpens e = d :=
  periodOpens_none h.plan h.held (by rw [h.state]; nofun) (by rw [h.state]; nofun)

theorem serviceAs_loc (opening : Bool) (state : d.ch.state = .loc) : d.serviceAs opening e = d.serviceLocal e opening := by
  unfold serviceAs
  rw [state]

theorem windowEnds_open (window : d.ch.window = some w) (open' : w.ends = none) : d.windowEnds e = d := by
  unfold windowEnds
  rw [window, Option.bind_some, open']

/-- R66: before the closing fade is due. -/
theorem windowCloses_early (window : d.ch.window = some w) (early : StaysOpen e d w.closes) : d.windowCloses e = d := by
  unfold windowCloses
  rw [window]
  dsimp only
  cases closes : w.closes with
  | none => rfl
  | some x =>
    refine if_neg ?_
    rw [show atOrAfter e.pos (x - frames d.ch.settings.fade) = false from early x closes, Bool.and_false]
    exact Bool.false_ne_true

theorem periodEnds_window {r t : Desk} (released : d.releases e = r) (brk : r.ch.brk = none) (split : r.ch.split = none)
    (ends : r.windowEnds e = t) : d.periodEnds e = t := by
  unfold periodEnds
  rw [released, r.breakEnds_none e brk, r.splitEnds_none e split, ends]

theorem InLocal.fades (h : d.InLocal w) : d.periodFades e = d.windowCloses e := by
  unfold periodFades
  rw [d.planPrimes_none e h.plan, d.windowPrimes_none e h.held, d.splitCloses_none e h.split, d.breakCloses_none e h.brk]

/-- An output period in LOCAL by its ends, its closing fade and its starts. -/
theorem period_inLocal {ended closed started : Desk} (ends : d.periodEnds e = ended) (inLocal : ended.InLocal w)
    (closes : ended.windowCloses e = closed) (split : closed.ch.split = none) (starts : closed.starts e = started)
    (timer : started.ch.timer = none) (state : started.ch.state = .loc) : d.period e = started.serviceLocal e false := by
  rw [period_eq ends inLocal.opens (inLocal.fades.trans closes) (closed.splitExhausted_none e split) starts timer,
    serviceAs_loc _ state, ended.opensWaiting_unheld e inLocal.held]

/-! ### A fill item that ends (R67, R68, R90) -/

/-- A fill item sounds on deck A since q, and no segue fades it. -/
structure AirsFill (d : Desk) (slot : Fin 16) (q : FrameNo) : Prop where
  item : d.ch.deckA.item = some (.fill slot)
  sounds : d.ch.deckA.sounding = true
  unsegued : ∀ r, d.ch.deckA.ramp = some r → r.kind ≠ .segue
  start : d.ch.deckA.fillStart = some q

/-- The fill item of deck A ended by itself. -/
def fillEnded (e : Env) (d : Desk) (slot : Fin 16) (q : FrameNo) : Desk :=
  { ch := { d.ch with deckA := freedDeck d.ch.deckA }
    holds := put d.holds d.ch.deckA.cart (d.holds.get d.ch.deckA.cart - 1)
    out := d.out ++ [e.fillItem (d.ch.split.map (·.breakNo)) slot q d.ch.deckA] }

theorem AirsFill.plain {slot : Fin 16} {q : FrameNo} (item : d.ch.deckA.item = some (.fill slot)) (sounds : d.ch.deckA.sounding = true)
    (ramp : d.ch.deckA.ramp = none) (start : d.ch.deckA.fillStart = some q) : d.AirsFill slot q :=
  ⟨item, sounds, fun _ has => absurd (ramp.symm.trans has) nofun, start⟩

section
variable {slot : Fin 16} {q : FrameNo} (airs : d.AirsFill slot q)
include airs

theorem AirsFill.endDeck : d.endDeck e .a (d.naturalResult d.ch.deckA) = d.fillEnded e slot q :=
  endDeck_fillNatural (id := .a) airs.item airs.unsegued airs.start

variable (other : d.ch.deckB.sounding = false)
include other

/-- R183: the fill item released, by what the head gives in its place. -/
theorem AirsFill.releases {t : Desk} (spent : d.ended d.ch.deckA = true) (looks : (d.fillEnded e slot q).lookAtHead e = t)
    (after : t.ch.deckB.sounding = false) : d.releases e = t := by
  refine releases_one .a ?_ (ended_quiet (k := d.deck .b) other) (ended_quiet (k := t.deck .b) after)
  rw [releaseDeck_fill (id := .a) spent airs.item, show d.endDeck e .a (d.naturalResult (d.deck .a)) = _ from airs.endDeck, looks]

/-- At the end of an insert state the fill item has ended, released in that output period or not. -/
theorem AirsFill.ends (looks : (d.fillEnded e slot q).lookAtHead e = d.fillEnded e slot q) :
    ∃ r, d.releases e = r ∧ (r = d ∨ r = d.fillEnded e slot q) ∧ r.endSounding e = d.fillEnded e slot q := by
  by_cases spent : d.ended d.ch.deckA = true
  · refine ⟨_, airs.releases other spent looks other, .inr rfl, endSounding_none fun id => ?_⟩
    cases id
    · rfl
    · exact other
  · have stays : d.releases e = d := foldDecks_none fun id => d.releaseDeck_none e id (by
      cases id
      · exact (Bool.not_eq_true _).mp spent
      · exact ended_quiet (k := d.deck .b) other)
    exact ⟨d, stays, .inl rfl, (endSounding_one (id := .a) airs.sounds other).trans airs.endDeck⟩

end

/-! ### A head that takes the place of a candidate (R67) -/

/-- The fill item on deck A ended and the candidate on deck B given up. -/
def replaced (e : Env) (d : Desk) (slot next : Fin 16) (q : FrameNo) : Desk :=
  let ended := put d.holds d.ch.deckA.cart (d.holds.get d.ch.deckA.cart - 1)
  { ch := { d.ch with
      deckA := freedDeck d.ch.deckA, deckB := freedDeck d.ch.deckB
      fill := { d.ch.fill with cursor := if d.ch.deckB.rangeMark = true then d.ch.fill.cursor else next } }
    holds := put ended d.ch.deckB.cart (ended.get d.ch.deckB.cart - 1)
    out := d.out ++ [e.fillItem none slot q d.ch.deckA] }

section
variable {slot next : Fin 16} {q : FrameNo} {r : Run} {y : CartLength}

/-- Item B of the last ring item is next where it is present, open and on no deck: what else the desk holds has no part in it. -/
theorem pendingB_congr {t : Desk} (ring : t.ch.ring = d.ch.ring) (last : t.ch.lastRing = d.ch.lastRing)
    (decks : ∀ r, t.onDeck r = d.onDeck r) : t.pendingB = d.pendingB := by
  have item (r : ItemRef) : t.item r = d.item r := congrArg (fun v : Vector Entry 128 => (v.get r.index).item r.part) ring
  unfold pendingB
  simp only [last, item, decks]

theorem onDeck_noRing {r : ItemRef} (a : d.ch.deckA.ringItem = none) (b : d.ch.deckB.ringItem = none) : d.onDeck r = false := by
  unfold onDeck
  rw [a, b]
  rfl

theorem lookAtHead_replaces {t : Desk} (item : t.ch.deckB.item = some (.fill next)) (waits : t.ch.deckB.waiting = true)
    (rests : t.ch.deckA.waiting = false) (inLocal : t.InLocal w) (open' : w.ends = none) (head : t.headEntry.owner = .channel)
    {u : Desk} (gives : t.giveUp .b = u) : t.lookAtHead e = u.localNext e false := by
  have candidate : t.candidateDeck = some .b := candidateDeck_of item waits rests
  rw [t.lookAtHead_takes e w inLocal.window open' (by rw [candidate]; rfl) head, giveUpCandidate_of candidate, gives]

/-- The head's item loaded in the place of the candidate. -/
theorem InLocal.releases (inLocal : d.InLocal w) (open' : w.ends = none) (airs : d.AirsFill slot q)
    (spent : d.ch.deckA.length ≤ d.ch.deckA.fillAired) (itemB : d.ch.deckB.item = some (.fill next)) (waits : d.ch.deckB.waiting = true)
    (pending : d.pendingB = none) (takes : HeadTakes e (replaced e d slot next q) r y) :
    d.releases e = ((replaced e d slot next q).headLoaded r y).noFillWait := by
  let t := d.fillEnded e slot q
  have ended : d.ended d.ch.deckA = true := by
    unfold Desk.ended
    rw [airs.sounds, aired_fill airs.item, decide_eq_true spent]
    rfl
  have gives : t.giveUp .b = replaced e d slot next q := by
    refine (giveUp_eq (t := t) (id := .b) itemB inLocal.split).trans ?_
    change ({ ch := _, holds := _, out := d.out ++ [e.fillItem (d.ch.split.map (·.breakNo)) slot q d.ch.deckA] } : Desk) = _
    rw [inLocal.split]
    rfl
  have inLocal' : t.InLocal w :=
    ⟨inLocal.state, inLocal.window, inLocal.plan, inLocal.held, inLocal.split, inLocal.brk, inLocal.timer⟩
  have candidate : (replaced e d slot next q).candidateDeck = none := candidateDeck_none _ rfl rfl
  have pending' : (replaced e d slot next q).pendingB = none := (pendingB_congr (d := d) (t := replaced e d slot next q) rfl rfl fun r => by
    rw [onDeck_noRing (d := d) (ringItem_fill airs.item) (ringItem_fill itemB)]
    rfl).trans pending
  refine airs.releases (waiting_not_sounding waits) ended ?_ rfl
  rw [lookAtHead_replaces (t := t) itemB waits rfl inLocal' open' takes.owner gives]
  exact localNext_head takes rfl pending' rfl false candidate

end

/-! ### A ring item that starts in LOCAL (R52) -/

/-- The deck's ring item begins to sound; the entry's start position is that of P. -/
def begunRing (e : Env) (d : Desk) (i : Fin 128) : Desk := { d with ch := { d.ch with
  ring := put d.ch.ring i { d.entry i with start := some e.pos }, deckA := begunDeck d.ch d.ch.deckA
  stamp := d.ch.stamp + 1, lastStart := d.ch.stamp } }

section
variable {i : Fin 128} (item : d.ch.deckA.item = some (.ring ⟨i, .a⟩)) (waits : d.ch.deckA.waiting = true)
  (silent : d.ch.deckB.sounding = false)
include item waits silent

theorem begin_ringLocal (inLocal : d.InLocal w) (first : (d.entry i).start = none) : d.begin e .a = begunRing e d i := by
  let v : Desk := { d with ch := { d.ch with deckA := begunDeck d.ch d.ch.deckA, stamp := d.ch.stamp + 1, lastStart := d.ch.stamp } }
  have plays : d.play e .a = v := by
    rw [play_eq (id := .a) waits, played_ring (k := d.deck .a) item]
    rfl
  rw [begin_ring (id := .a) item, passBefore_none inLocal.brk, breakBegins_none inLocal.brk]
  change (((d.segueFade ⟨i, .a⟩ .b).play e .a).markStart e i).callFill e .a = _
  rw [segueFade_quiet (other := .b) (.inl silent), plays, markStart_first (d := v) first]
  exact callFill_none (d := begunRing e d i) inLocal.split

theorem mayStart_ringLocal (inLocal : d.InLocal w) (open' : w.ends = none) (other : d.ch.deckB.waiting = false) : d.mayStart .a = true := by
  have cuts : d.ringDue ⟨i, .a⟩ d.ch.deckB = true := if_neg (ne_of_eq_of_ne silent Bool.false_ne_true)
  unfold Desk.mayStart Desk.ringMayStart
  simp [Desk.deck, Channel.deck, otherDeck, waits, item, other, inLocal.state, inLocal.window, open', cuts]

theorem starts_ringLocal (inLocal : d.InLocal w) (open' : w.ends = none) (other : d.ch.deckB.waiting = false)
    (first : (d.entry i).start = none) : d.starts e = begunRing e d i :=
  starts_one .a (mayStart_ringLocal item waits silent inLocal open' other) (begin_ringLocal item waits silent inLocal first)
    (d.mayStart_notWaiting (id := .b) other) (mayStart_notWaiting (d := begunRing e d i) (id := .b) other)
    (d.reachedItems_none inLocal.brk) (reachedItems_none (d := begunRing e d i) inLocal.brk)

end

end Sys2Proof.Machine.Desk

/-! Items start and are released settled (O32). -/

namespace Sys2Proof.Machine

namespace Desk
variable {e : Env} {d : Desk}

/-! ### The segue fade of the first of two items (R110) -/

section
variable {b : BreakCtx} {i j : Fin 128} (airs : d.AirsTwo b i j)

/-- Where the entering item does not fade, the sounding one stays. -/
theorem segueFade_plain (hard : (d.entry j).segue ≠ .fade) : d.segueFade ⟨j, .a⟩ .a = { d with ch := { d.ch with deckA := d.ch.deckA } } := by
  refine if_neg ?_
  rw [show decide ((d.entry j).ownSegue .a = .fade) = false from decide_eq_false hard, Bool.and_false]
  exact Bool.false_ne_true

/-- R110: a deck under the segue fade of g output periods, after so many frames of its item. -/
def segued (k : Deck) (g aired : Nat) : Deck :=
  { k with state := .fading, ramp := some { kind := .segue, length := g, elapsed := 0 }, due := aired + g }

include airs in
theorem AirsTwo.segueFade (fade : (d.entry j).segue = .fade) : d.segueFade ⟨j, .a⟩ .a = { d with ch := { d.ch with
    deckA := segued d.ch.deckA (min d.ch.settings.fade (d.ch.deckA.length - (d.entry i).itemA.aired)) (d.entry i).itemA.aired } } := by
  have aired : d.aired d.ch.deckA = (d.entry i).itemA.aired := aired_ring airs.itemA
  have fades : (d.ch.deckA.sounding && d.ch.deckA.ringItem.isSome && decide (d.ch.deckA.order = d.ch.lastStart) &&
      decide ((d.entry j).ownSegue .a = .fade)) = true := by
    rw [airs.sounds, ringItem_of airs.itemA, decide_eq_true airs.latest, show decide ((d.entry j).ownSegue .a = .fade) = true from decide_eq_true fade]
    rfl
  rw [← aired]
  exact if_pos fades

end

/-! ### A fill item under its exit fade (R68) -/

theorem period_exitEnds {r : Ramp} {slot : Fin 16} {q : FrameNo} (state : d.ch.state = .pass) (free : d.ch.free) (quiet : d.ch.quiet)
    (onlyA : d.ch.onlyA) (good : e.broken d.ch.settings = false) (item : d.ch.deckA.item = some (.fill slot))
    (sounds : d.ch.deckA.sounding = true) (ramp : d.ch.deckA.ramp = some r) (exit' : r.kind = .exit) (spent : r.length ≤ r.elapsed)
    (start : d.ch.deckA.fillStart = some q) : d.period e =
      { ch := { d.ch with deckA := freedDeck d.ch.deckA }
        holds := put d.holds d.ch.deckA.cart (d.holds.get d.ch.deckA.cart - 1)
        out := d.out ++ [e.fillItem none slot q d.ch.deckA] } := by
  obtain ⟨split, brk, window, _, timer⟩ := id quiet
  have airs : d.AirsFill slot q := ⟨item, sounds, fun x has => by
    obtain rfl : r = x := Option.some.inj (ramp.symm.trans has)
    rw [exit']
    nofun, start⟩
  let t := d.fillEnded e slot q
  have faded : d.ended d.ch.deckA = true := by
    have rampOver : Ramp.over d.ch.deckA.ramp = true := by
      rw [ramp]
      exact decide_eq_true spent
    unfold ended
    rw [sounds, rampOver, Bool.or_true]
    rfl
  have released : d.releases e = t :=
    airs.releases (idle_not_sounding onlyA.1) faded (t.lookAtHead_noWindow e window) (idle_not_sounding onlyA.1)
  rw [period_eq (periodEnds_window released brk split (t.windowEnds_none e window))
    ((periodOpens_feed (d := t) free.1 free.2).trans (t.feedTest_good e state good)) (t.periodFades_none e free.1 free.2 split brk window)
    (t.splitExhausted_none e split) (starts_notWaiting (d := t) rfl (idle_not_waiting onlyA.1) brk) timer]
  refine (t.serviceAs_pass e _ state free).trans ?_
  change d.fillEnded e slot q = _
  unfold fillEnded
  rw [split]
  rfl

end Desk

/-! ### The emission of a deck (R39, R181, R185) -/

namespace Deck
variable {k : Deck}

/-- A sounding deck after an output period: its ramps advance. -/
def ramped (was x : Deck) : Deck := { x with ramp := was.ramp.map Ramp.advance, closing := was.closing.map Ramp.advance, unready := false }

theorem next?_silent (silent : k.sounding = false) : k.next? = none := by
  unfold next?
  rw [silent]
  rfl

theorem next?_held (holds : k.unready = true ∨ k.buffer = []) : k.next? = none := by
  unfold next?
  rcases holds with unready | empty
  · rw [unready, Bool.not_true, Bool.and_false]
  · rw [empty]
    cases k.sounding && !k.unready <;> rfl

theorem next?_gives {f : Audio} {rest : List Audio} (sounds : k.sounding = true) (ready : k.unready = false) (buffer : k.buffer = f :: rest) :
    k.next? = some (f, rest) := by
  unfold next?
  rw [sounds, ready, buffer]
  rfl

theorem emitted_silent (silent : k.sounding = false) : k.emitted = k := if_neg (ne_of_eq_of_ne silent Bool.false_ne_true)

theorem source?_none (none' : k.next? = none) : k.source? = [] := by
  unfold source?
  rw [none']

theorem emitted_none (sounds : k.sounding = true) (none' : k.next? = none) : k.emitted = ramped k
    { k with underruns := if k.underruns < 0xFFFFFFFF then k.underruns + 1 else k.underruns, consecutive := k.consecutive + 1 } := by
  unfold emitted
  rw [if_pos sounds, none']
  rfl

theorem emitted_some {f : Audio} {rest : List Audio} (sounds : k.sounding = true) (next : k.next? = some (f, rest)) : k.emitted = ramped k
    { k with buffer := rest, consecutive := 0, fillAired := if k.fillItem.isSome = true then k.fillAired + 1 else k.fillAired } := by
  unfold emitted
  rw [if_pos sounds, next]
  rfl

end Deck

/-- R39: the frame of a ring item is counted in its entry. -/
theorem Desk.emitDeck_ring {d : Desk} {id : DeckId} {r : ItemRef} (item : (d.deck id).item = some (.ring r))
    (sounds : (d.deck id).sounding = true) (ready : (d.deck id).unready = false) (holds : (d.deck id).buffer ≠ []) :
    d.emitDeck id = (d.setItem r { d.item r with aired := (d.item r).aired + 1 }).setDeck id (d.deck id).emitted := by
  obtain ⟨f, rest, buffer⟩ := List.exists_cons_of_ne_nil holds
  unfold emitDeck countAired
  rw [Deck.next?_gives sounds ready buffer, ringItem_of item]

/-- Settles O32: the second item of a break cuts, overlaps or fades in; an exit fade and a fill item in LOCAL end; what a deck emits. -/
theorem itemStartsAndReleases : Obligations.ItemStartsAndReleases := by
  refine ⟨?_, ?_, ?_, ?_, ?_⟩
  · intro e d b i j c a k x z state brk plan held split window last timer start closing unguarded entries distinct itemA itemB sounds
      waits latest presentI freshI heldI singleI presentJ freshJ heldJ singleJ first begun
    have inBreak : d.InBreak := ⟨state, plan, held, split, window, last, timer⟩
    have airs : d.AirsTwo b i j := ⟨brk, start, closing, unguarded, entries, distinct, itemA, itemB, sounds, latest,
      ⟨presentI, singleI, heldI, freshI⟩, ⟨presentJ, singleJ, heldJ, freshJ⟩⟩
    have due := airs.ringDue
    refine ⟨fun ends => ⟨fun early => ?_, fun overlap reached => ?_, fun fade reached => ?_⟩, fun ends over' => ?_⟩
    · refine airs.period_stays inBreak waits ends (due.trans ?_)
      rcases early with cut | early
      · rw [show (d.entry j).segue = .cut from cut]
      · cases (d.entry j).segue with
        | cut => rfl
        | overlap => exact decide_eq_false (Nat.not_le.mpr early)
        | fade => exact decide_eq_false (Nat.not_le.mpr early)
    · have hard : (d.entry j).segue ≠ .fade := by
        rw [show (d.entry j).segue = .overlap from overlap]
        nofun
      refine airs.period_starts inBreak waits first ends ?_ (Desk.segueFade_plain hard) rfl sounds
      rw [due, show (d.entry j).segue = .overlap from overlap]
      exact decide_eq_true reached
    · intro g
      refine airs.period_starts inBreak waits first ends ?_ (airs.segueFade fade) rfl rfl
      rw [due, show (d.entry j).segue = .fade from fade]
      exact decide_eq_true reached
    · rw [airs.period_cuts inBreak waits first ends over']
      have entry : (put c.ring i (returned x .aired)).get j = z := get_put_other _ _ _ _ distinct
      have whole : b.without i = { b with entries := [j] } := by
        have left : b.entries.filter (fun l => l != i) = [j] := by
          rw [entries]
          simp [Ne.symm distinct]
        exact congrArg (fun l => ({ b with entries := l } : BreakCtx)) left
      change Desk.begunSecond e (d.itemEnded e b i .aired) j (freedDeck a) = _
      unfold Desk.begunSecond Desk.itemEnded
      rw [whole]
      dsimp only [Desk.entry]
      rw [show (put d.ch.ring i (returned (d.ch.ring.get i) .aired)).get j = z from entry]
      rfl
  · intro e d r slot q c k state free quiet onlyA good item sounds ramp exit' spent start
    exact Desk.period_exitEnds state free quiet onlyA good item sounds ramp exit' spent start
  · intro e d w slot next q r y c a b i z k state window open' early held plan split brk timer pending itemA sounds plain start spent itemB
      waits owner present fresh first ended freed ready room run size
    have inLocal : d.InLocal w := ⟨state, window, plan, held, split, brk, timer⟩
    let u := d.replaced e slot next q
    let t := (u.headLoaded r y).noFillWait
    have takes : Desk.HeadTakes e u r y := ⟨owner, present, fresh, ready, room, run, size⟩
    have released := inLocal.releases open' (.plain itemA sounds plain start) spent itemB waits pending takes
    have inLocal' : t.InLocal w := ⟨state, window, plan, held, split, brk, timer⟩
    have entry : t.entry i = { z with itemA := { z.itemA with held := true } } := get_put_same _ _ _
    have starts : t.starts e = Desk.begunRing e t i := Desk.starts_ringLocal (d := t) rfl rfl rfl inLocal' open' rfl
      (by rw [entry]; exact first)
    rw [Desk.period_inLocal (Desk.periodEnds_window released brk split (Desk.windowEnds_open (d := t) window open')) inLocal'
      (Desk.windowCloses_early (d := t) window early) split starts timer state]
    refine congrArg (fun v : Desk => v.serviceLocal e false) ?_
    unfold Desk.begunRing
    rw [entry]
    exact congrArg (fun ring => ({ t with ch := { t.ch with
      ring := ring, deckA := begunDeck t.ch t.ch.deckA, stamp := t.ch.stamp + 1, lastStart := t.ch.stamp } } : Desk)) (put_put _ _ _ _)
  · intro k ran on
    refine ⟨fun silent => ⟨Deck.source?_none (Deck.next?_silent silent), Deck.emitted_silent silent⟩, fun sounds holds => ?_, ?_⟩
    · exact ⟨Deck.source?_none (Deck.next?_held holds), Deck.emitted_none sounds (Deck.next?_held holds)⟩
    · intro f rest sounds ready buffer
      have gives := Deck.next?_gives sounds ready buffer
      refine ⟨?_, Deck.emitted_some sounds gives⟩
      unfold Deck.source?
      rw [gives]
  · intro d id r k x item sounds ready holds c
    rw [Desk.emitDeck_ring item sounds ready holds]
    rfl

end Sys2Proof.Machine

/-! An output period of a split (R84 to R90). -/

namespace Sys2Proof.Machine.Desk

variable {e : Env} {d : Desk} {x : Split}

/-- What a channel in SPLIT has besides its split x. -/
structure InSplit (d : Desk) (x : Split) : Prop where
  state : d.ch.state = .split
  split : d.ch.split = some x
  plan : d.ch.plan = none
  held : d.ch.held = none
  brk : d.ch.brk = none
  window : d.ch.window = none
  last : d.ch.lastRing = none
  timer : d.ch.timer = none

theorem InSplit.opens (h : d.InSplit x) : d.periodOpens e = d :=
  periodOpens_none h.plan h.held (by rw [h.state]; nofun) (by rw [h.state]; nofun)

theorem InSplit.serviceAs (h : d.InSplit x) (opening : Bool) : d.serviceAs opening e = d.serviceSplit e opening x := by
  unfold Desk.serviceAs
  rw [h.state, h.split]

/-! ### The steps of an output period in SPLIT -/

section
variable (split : d.ch.split = some x)
include split

theorem splitEnds_airs (rejoin : x.rejoin ≠ some e.pos) (stop : e.pos ≠ x.stop) : d.splitEnds e = d := by
  unfold splitEnds
  rw [split]
  dsimp only
  rw [if_neg (by simp [rejoin]), if_neg (by simp [stop])]

theorem splitEnds_rejoins (live : e.live = true) (rejoin : x.rejoin = some e.pos) :
    d.splitEnds e = d.endSplit e x .endCancel e.pos (e.pos - x.start) := by
  unfold splitEnds
  rw [split]
  exact if_pos (by simp [live, rejoin])

theorem splitEnds_stops (live : e.live = true) (rejoin : x.rejoin ≠ some e.pos) (stop : e.pos = x.stop) :
    d.splitEnds e = d.endSplit e x .endNormal e.pos x.length := by
  unfold splitEnds
  rw [split]
  exact (if_neg (by simp [rejoin])).trans (if_pos (by simp [live, stop]))

theorem splitCloses_early (early : x.phase = .closing ∨ atOrAfter e.pos x.fadeStart = false) : d.splitCloses e = d := by
  unfold splitCloses
  rw [split]
  refine if_neg ?_
  rcases early with closing | early
  · simp [closing]
  · simp [early]

/-- R88, R89, R95: the closing fade at P. -/
theorem splitCloses_due (open' : x.phase ≠ .closing) (live : e.live = true) (due : atOrAfter e.pos x.fadeStart = true) : d.splitCloses e =
    ((((d.setSplit { x with phase := .closing, wantFill := false }).closeAll (x.rejoin.getD x.stop - e.pos).toNat).cutWaiting e
      (if x.rejoin.isSome = true then .cancelled else .cutOff) (x.items.map (·.ref))).giveUpCandidate).noFillWait := by
  unfold splitCloses
  rw [split]
  exact if_pos (by simp [open', live, due])

theorem splitExhausted_closing (closing : x.phase = .closing) : d.splitExhausted e = d := by
  unfold splitExhausted
  rw [split]
  exact if_neg (by simp [closing])

section
variable (phase : x.phase = .items) (items : x.items = [])
include phase items

theorem splitExhausted_pads (short : signedDiff (x.rejoin.getD x.stop) e.pos ≤ (d.ch.settings.pad : Int)) :
    d.splitExhausted e = ((d.setSplit { x with phase := .pad, wantFill := false }).giveUpCandidate).noFillWait := by
  unfold splitExhausted
  rw [split]
  exact (if_pos (by simp [phase, items])).trans (if_neg (not_lt.mpr short))

variable (long : (d.ch.settings.pad : Int) < signedDiff (x.rejoin.getD x.stop) e.pos)
include long

theorem splitExhausted_calls (noCandidate : d.candidateDeck = none) :
    d.splitExhausted e = (d.setSplit { x with phase := .fill, wantFill := true }).noFillWait := by
  unfold splitExhausted
  rw [split]
  refine (if_pos (by simp [phase, items])).trans ((if_pos long).trans (if_neg ?_))
  rw [noCandidate]
  exact Bool.false_ne_true

theorem splitExhausted_follows {id : DeckId} (candidate : d.candidateDeck = some id) :
    d.splitExhausted e = (d.setSplit { x with phase := .fill, wantFill := false }).candidateFollows := by
  unfold splitExhausted
  rw [split]
  refine (if_pos (by simp [phase, items])).trans ((if_pos long).trans (if_pos ?_))
  rw [candidate]
  rfl

end

end

/-- An output period in SPLIT at which nothing ends. -/
theorem InSplit.period_eq {closed exhausted started : Desk} {y z : Split} (inSplit : d.InSplit x) (ends : d.noneEnds)
    (rejoin : x.rejoin ≠ some e.pos) (stop : e.pos ≠ x.stop) (closes : d.splitCloses e = closed) (frame : closed.InSplit y)
    (exhausts : closed.splitExhausted e = exhausted) (starts : exhausted.starts e = started) (inSplit' : started.InSplit z) :
    d.period e = started.serviceSplit e false z := by
  have ended : d.periodEnds e = d := by
    unfold periodEnds
    rw [d.releases_none e ends, d.breakEnds_none e inSplit.brk, splitEnds_airs inSplit.split rejoin stop,
      d.windowEnds_none e inSplit.window]
  have fades : d.periodFades e = closed := by
    unfold periodFades
    rw [d.planPrimes_none e inSplit.plan, d.windowPrimes_none e inSplit.held, closes, closed.breakCloses_none e frame.brk,
      closed.windowCloses_none e frame.window]
  rw [Desk.period_eq ended inSplit.opens fades exhausts starts inSplit'.timer, inSplit'.serviceAs, d.opensWaiting_unheld e inSplit.held]

/-! ### What a split loads in its phase -/

theorem serviceSplit_rests (opening : Bool) (rests : x.phase = .pad ∨ x.phase = .closing) : d.serviceSplit e opening x = d := by
  unfold serviceSplit
  rcases rests with phase | phase <;> rw [phase]

theorem serviceSplit_called (opening : Bool) (phase : x.phase = .fill) (want : x.wantFill = true) (wait : d.ch.fill.wait = false) :
    d.serviceSplit e opening x = (d.setSplit { x with wantFill := false }).chooseFill e .following := by
  unfold serviceSplit
  rw [phase]
  exact (if_neg (ne_of_eq_of_ne wait Bool.false_ne_true)).trans (if_pos want)

theorem serviceSplit_fill (phase : x.phase = .fill) (want : x.wantFill = false) (busy : d.ch.deckA.state ≠ .idle) :
    d.serviceSplit e false x = if d.ch.fill.wait = true then d else d.chooseFill e .following := by
  have mode : d.openingMode false = .following := (openingMode_false d).trans (if_neg fun idle => busy idle.1)
  unfold serviceSplit
  rw [phase]
  dsimp only
  rw [if_neg (ne_of_eq_of_ne want Bool.false_ne_true), mode]

/-! ### A candidate that starts (R86) -/

/-- The fill candidate on deck A begins to sound. -/
def begunCandidate (e : Env) (d : Desk) : Desk := { d with ch := { d.ch with
  deckA := begunFill e d.ch d.ch.deckA, stamp := d.ch.stamp + 1, lastStart := d.ch.stamp } }

/-- The fill candidate on deck A starts once nothing sounds. -/
def followed (d : Desk) : Desk := { d with ch := { d.ch with deckA := { d.ch.deckA with mode := .following } } }

theorem candidateFollows_a (candidate : d.candidateDeck = some .a) : d.candidateFollows = d.followed := by
  unfold candidateFollows
  rw [candidate]
  rfl

/-- The candidate that follows starts beside a deck that does not sound, where the state lets it. -/
theorem starts_candidate {slot : Fin 16} (item : d.ch.deckA.item = some (.fill slot)) (waits : d.ch.deckA.waiting = true)
    (b : d.ch.deckB.state = .idle) (brk : d.ch.brk = none) (may : d.fillMayStart = true) :
    d.followed.starts e = begunCandidate e d := by
  let t := d.followed
  have silent : t.anySounding = false := by
    unfold anySounding
    rw [show t.ch.deckA.sounding = false from waiting_not_sounding waits, show t.ch.deckB.sounding = false from idle_not_sounding b]
    rfl
  have due : t.fillDue t.ch.deckA = true := by
    have mode : t.ch.deckA.mode = .following := rfl
    unfold fillDue
    rw [mode, silent]
    rfl
  have starts : t.mayStart .a = true := by
    unfold Desk.mayStart
    simp [Desk.deck, Channel.deck, otherDeck, show t.ch.deckA.waiting = true from waits, show t.ch.deckA.item = some (.fill slot) from item,
      show t.ch.deckB.waiting = false from idle_not_waiting b, show t.fillMayStart = true from may, due]
  have begins : t.begin e .a = begunCandidate e d := by
    have fill : (t.deck .a).fillItem.isSome = true := by
      rw [fillItem_of (k := t.deck .a) item]
      rfl
    rw [begin_fill (d := t) (id := .a) item, play_eq (d := t) (id := .a) waits]
    unfold played
    rw [if_pos fill]
    rfl
  exact starts_one .a starts begins (t.mayStart_notWaiting (id := .b) (idle_not_waiting b))
    (mayStart_notWaiting (d := begunCandidate e d) (id := .b) (idle_not_waiting b)) (t.reachedItems_none brk)
    (reachedItems_none (d := begunCandidate e d) brk)

end Sys2Proof.Machine.Desk

/-! A split that airs and ends (O29). -/

namespace Sys2Proof.Machine

/-- Where the split being aired alone names the entry, its item leaves that too. -/
theorem Channel.returns_split {c : Channel} {x : Split} (split : c.split = some x) (brk : c.brk = none) (last : c.lastRing = none) (i : Fin 128)
    (result : Result) : c.returns i result =
      { c with ring := put c.ring i (returned (c.ring.get i) result), split := some (x.without ⟨i, .a⟩) } := by
  unfold Channel.returns
  rw [split, brk, last]
  rfl

namespace Desk
variable {e : Env} {d : Desk} {x : Split}

theorem InSplit.within {y : Split} (h : d.InSplit x) : (d.setSplit y).noFillWait.InSplit y :=
  ⟨h.state, rfl, h.plan, h.held, h.brk, h.window, h.last, h.timer⟩

/-- R105: a candidate given up in a split. -/
theorem giveUp_inSplit {slot : Fin 16} (split : d.ch.split = some x) (item : d.ch.deckA.item = some (.fill slot)) : d.giveUp .a =
    { d with
      holds := put d.holds d.ch.deckA.cart (d.holds.get d.ch.deckA.cart - 1)
      ch := { d.ch with
        deckA := freedDeck d.ch.deckA
        fill := { d.ch.fill with cursor := if d.ch.deckA.rangeMark = true then d.ch.fill.cursor else slot }
        split := some (if d.ch.deckA.rangeMark = false ∧ d.ch.settings.fillMode = .onePass then x.passAt slot else x) } } := by
  by_cases mark : d.ch.deckA.rangeMark = true
  · have stays : (if d.ch.deckA.rangeMark = false ∧ d.ch.settings.fillMode = .onePass then x.passAt slot else x) = x :=
      if_neg fun back => Bool.false_ne_true (back.1.symm.trans mark)
    refine (giveUp_fill d (id := .a) item).trans ((if_pos mark).trans ?_)
    rw [stays, if_pos mark, ← split]
    rfl
  · refine (giveUp_fill d (id := .a) item).trans ((if_neg mark).trans ?_)
    by_cases once : d.ch.settings.fillMode = .onePass
    · have back : (if d.ch.deckA.rangeMark = false ∧ d.ch.settings.fillMode = .onePass then x.passAt slot else x) = x.passAt slot :=
        if_pos ⟨by simpa using mark, once⟩
      rw [back, if_neg mark, if_pos once, split]
      rfl
    · have stays : (if d.ch.deckA.rangeMark = false ∧ d.ch.settings.fillMode = .onePass then x.passAt slot else x) = x :=
        if_neg fun back => once back.2
      rw [stays, if_neg mark, if_neg once, ← split]
      rfl

/-! ### The items of a split exhausted (R86) -/

section
variable (inSplit : d.InSplit x) (phase : x.phase = .items) (items : x.items = []) (early : atOrAfter e.pos x.fadeStart = false)
  (rejoin : x.rejoin ≠ some e.pos) (stop : e.pos ≠ x.stop) (ends : d.noneEnds)
include inSplit phase items early rejoin stop ends

omit phase items in
theorem InSplit.period_exhausts {exhausted started : Desk} {z : Split} (exhausts : d.splitExhausted e = exhausted)
    (starts : exhausted.starts e = started) (inSplit' : started.InSplit z) : d.period e = started.serviceSplit e false z :=
  inSplit.period_eq ends rejoin stop (splitCloses_early inSplit.split (.inr early)) inSplit exhausts starts inSplit'

section
variable (a : d.ch.deckA.waiting = false) (b : d.ch.deckB.waiting = false)
include a b

/-- R87: padding, where nothing waits. -/
theorem InSplit.period_pads (short : signedDiff (x.rejoin.getD x.stop) e.pos ≤ (d.ch.settings.pad : Int)) :
    d.period e = (d.setSplit { x with phase := .pad, wantFill := false }).noFillWait := by
  let t := (d.setSplit { x with phase := .pad, wantFill := false }).noFillWait
  have exhausts : d.splitExhausted e = t := by
    rw [splitExhausted_pads inSplit.split phase items short,
      giveUpCandidate_none (d.setSplit { x with phase := .pad, wantFill := false }) (not_candidate a) (not_candidate b)]
  have inSplit' : t.InSplit { x with phase := .pad, wantFill := false } := inSplit.within
  rw [inSplit.period_exhausts early rejoin stop ends exhausts (starts_notWaiting (d := t) a b inSplit.brk) inSplit']
  exact serviceSplit_rests _ (.inl rfl)

/-- R86: fill is called for, where nothing waits. -/
theorem InSplit.period_calls (long : (d.ch.settings.pad : Int) < signedDiff (x.rejoin.getD x.stop) e.pos) :
    d.period e = ((d.setSplit { x with phase := .fill, wantFill := false }).noFillWait).chooseFill e .following := by
  let t := (d.setSplit { x with phase := .fill, wantFill := true }).noFillWait
  have exhausts : d.splitExhausted e = t :=
    splitExhausted_calls inSplit.split phase items long (d.candidateDeck_none (not_candidate a) (not_candidate b))
  have inSplit' : t.InSplit { x with phase := .fill, wantFill := true } := inSplit.within
  rw [inSplit.period_exhausts early rejoin stop ends exhausts (starts_notWaiting (d := t) a b inSplit.brk) inSplit']
  exact serviceSplit_called _ rfl rfl rfl

end

section
variable {slot : Fin 16} (onlyA : d.ch.onlyA) (item : d.ch.deckA.item = some (.fill slot)) (waits : d.ch.deckA.waiting = true)
include onlyA item waits

/-- R87: padding, the candidate given up. -/
theorem InSplit.period_padsOver (short : signedDiff (x.rejoin.getD x.stop) e.pos ≤ (d.ch.settings.pad : Int)) :
    d.period e = ((d.setSplit { x with phase := .pad, wantFill := false }).giveUp .a).noFillWait := by
  let t := d.setSplit { x with phase := .pad, wantFill := false }
  let u := (t.giveUp .a).noFillWait
  have candidate : t.candidateDeck = some .a := candidateDeck_of (d := t) (id := .a) item waits (idle_not_waiting onlyA.1)
  have exhausts : d.splitExhausted e = u := by
    rw [splitExhausted_pads inSplit.split phase items short, giveUpCandidate_of candidate]
  have given : u = _ := congrArg noFillWait (giveUp_inSplit (d := t) (x := { x with phase := .pad, wantFill := false }) rfl item)
  have freed : u.ch.deckA.waiting = false := by
    rw [given]
    rfl
  have other : u.ch.deckB.waiting = false := by
    rw [given]
    exact idle_not_waiting onlyA.1
  obtain ⟨y, rests, inSplit'⟩ : ∃ y : Split, y.phase = .pad ∧ u.InSplit y := by
    rw [given]
    refine ⟨_, ?_, inSplit.state, rfl, inSplit.plan, inSplit.held, inSplit.brk, inSplit.window, inSplit.last, inSplit.timer⟩
    split <;> rfl
  rw [inSplit.period_exhausts early rejoin stop ends exhausts (starts_notWaiting freed other inSplit'.brk) inSplit']
  exact serviceSplit_rests _ (.inl rests)

/-- R86: the candidate starts. -/
theorem InSplit.period_follows (long : (d.ch.settings.pad : Int) < signedDiff (x.rejoin.getD x.stop) e.pos) :
    d.period e = if d.ch.fill.wait = true then begunCandidate e (d.setSplit { x with phase := .fill, wantFill := false })
      else (begunCandidate e (d.setSplit { x with phase := .fill, wantFill := false })).chooseFill e .following := by
  let t := d.setSplit { x with phase := .fill, wantFill := false }
  have candidate (u : Desk) (decks : u.ch.deckA = d.ch.deckA ∧ u.ch.deckB = d.ch.deckB) : u.candidateDeck = some .a :=
    candidateDeck_of (d := u) (id := .a) (slot := slot) (by rw [show u.deck .a = _ from decks.1]; exact item)
      (by rw [show u.deck .a = _ from decks.1]; exact waits) (by rw [show u.deck (otherDeck .a) = _ from decks.2]; exact idle_not_waiting onlyA.1)
  have exhausts : d.splitExhausted e = t.followed :=
    (splitExhausted_follows inSplit.split phase items long (candidate d ⟨rfl, rfl⟩)).trans (candidateFollows_a (candidate t ⟨rfl, rfl⟩))
  have may : t.fillMayStart = true := by
    unfold fillMayStart
    rw [show t.ch.state = .split from inSplit.state]
    rfl
  have starts : t.followed.starts e = begunCandidate e t := starts_candidate item waits onlyA.1 inSplit.brk may
  have inSplit' : (begunCandidate e t).InSplit { x with phase := .fill, wantFill := false } :=
    ⟨inSplit.state, rfl, inSplit.plan, inSplit.held, inSplit.brk, inSplit.window, inSplit.last, inSplit.timer⟩
  rw [inSplit.period_exhausts early rejoin stop ends exhausts starts inSplit']
  exact serviceSplit_fill rfl rfl nofun

end

end

/-! ### The closing fade (R88, R89) -/

/-- The split closing over g output periods, what sounds on deck A fading. -/
def splitFading (d : Desk) (x : Split) (g : Nat) : Desk :=
  { d.setSplit { x with phase := .closing, wantFill := false } with ch := { (d.setSplit { x with phase := .closing, wantFill := false }).ch with
    deckA := closedDeck g d.ch.deckA } }

section
variable (inSplit : d.InSplit x) (open' : x.phase ≠ .closing) (live : e.live = true) (due : atOrAfter e.pos x.fadeStart = true)
  (rejoin : x.rejoin ≠ some e.pos) (stop : e.pos ≠ x.stop) (ends : d.noneEnds) (sounds : d.ch.deckA.sounding = true)
include inSplit open' live due rejoin stop ends sounds

/-- R88: what the closing fade leaves plays on, by what the cut of the waiting items leaves. -/
theorem InSplit.period_closes {t : Desk} {y : Split} (quiet : d.ch.deckB.sounding = false)
    (cut : (d.splitFading x (x.rejoin.getD x.stop - e.pos).toNat).cutWaiting e (if x.rejoin.isSome = true then .cancelled else .cutOff)
      (x.items.map (·.ref)) = t)
    (a : t.ch.deckA.waiting = false) (b : t.ch.deckB.waiting = false) (inSplit' : t.InSplit y) (closing : y.phase = .closing) :
    d.period e = t.noFillWait := by
  let g := (x.rejoin.getD x.stop - e.pos).toNat
  let u := d.setSplit { x with phase := .closing, wantFill := false }
  have closed : u.closeAll g = d.splitFading x g := by
    have first : u.closeDeck g .a = d.splitFading x g := closeDeck_sounding (d := u) g (id := .a) sounds
    unfold closeAll
    rw [first]
    exact closeDeck_quiet (d := d.splitFading x g) g (id := .b) quiet
  have closes : d.splitCloses e = t.noFillWait := by
    rw [splitCloses_due inSplit.split open' live due, closed, cut, giveUpCandidate_none _ (not_candidate a) (not_candidate b)]
  have frame : t.noFillWait.InSplit y :=
    ⟨inSplit'.state, inSplit'.split, inSplit'.plan, inSplit'.held, inSplit'.brk, inSplit'.window, inSplit'.last, inSplit'.timer⟩
  rw [inSplit.period_eq ends rejoin stop closes frame (splitExhausted_closing inSplit'.split closing)
    (starts_notWaiting (d := t.noFillWait) a b inSplit'.brk) frame]
  exact serviceSplit_rests _ (.inr closing)

/-- The one item left waits on deck B, and receives its result. -/
theorem InSplit.period_closesCut {a b : PlanItem} {i : Fin 128} (items : x.items = [a, b]) (itemA : d.ch.deckA.item = some (.ring a.ref))
    (itemB : d.ch.deckB.item = some (.ring ⟨i, .a⟩)) (waits : d.ch.deckB.waiting = true) (last : b.ref = ⟨i, .a⟩) (distinct : a.ref.index ≠ i)
    (held : (d.entry i).itemA.held = true) (single : (d.entry i).itemB.cart = 0) {result : Result}
    (is : (if x.rejoin.isSome = true then .cancelled else .cutOff) = result) :
    d.period e =
      { ch := { d.ch with
          split := some { x with phase := .closing, wantFill := false, items := [a] }, fill := { d.ch.fill with wait := false }
          deckA := closedDeck (x.rejoin.getD x.stop - e.pos).toNat d.ch.deckA, deckB := freedDeck d.ch.deckB
          ring := put d.ch.ring i (returned (d.entry i) result) }
        holds := put d.holds (d.entry i).itemA.cart (d.holds.get (d.entry i).itemA.cart - 1)
        out := d.out ++ [e.ringItem e.pos x.breakNo i (d.entry i).itemA result d.ch.deckB.underruns] } := by
  let g := (x.rejoin.getD x.stop - e.pos).toNat
  let u := d.splitFading x g
  have other : a.ref ≠ ⟨i, .a⟩ := fun same => distinct (congrArg ItemRef.index same)
  have final : result ≠ .none := by
    rw [← is]
    split <;> decide
  have itemA' : u.ch.deckA.item = some (.ring a.ref) := by
    rw [← itemA]
    rfl
  have number : u.numberFor i = x.breakNo := by
    unfold numberFor breakNumber
    rw [show u.ch.brk = none from inSplit.brk, show u.ch.split = some { x with phase := .closing, wantFill := false } from rfl]
    rfl
  have left : (u.ch.returns i result) = { u.ch with
      ring := put d.ch.ring i (returned (d.entry i) result), split := some { x with phase := .closing, wantFill := false, items := [a] } } := by
    have without : (Split.without ⟨i, .a⟩ { x with phase := .closing, wantFill := false }) = { x with phase := .closing, wantFill := false, items := [a] } := by
      unfold Split.without
      rw [items]
      simp [other, last]
    rw [Channel.returns_split (c := u.ch) (x := { x with phase := .closing, wantFill := false }) rfl inSplit.brk inSplit.last, without]
    rfl
  have cut := (cutWaiting_deckB (e := e) (d := u) (by rw [ringItem_of itemA']; exact fun same => other (Option.some.inj same)) itemB waits single final)
  unfold resulted at cut
  rw [number, left, holdsWithout_held (d := u) held] at cut
  have both : u.cutWaiting e (if x.rejoin.isSome = true then .cancelled else .cutOff) (x.items.map (·.ref)) =
      u.cutWaiting e result [⟨i, .a⟩] := by
    rw [is, items, List.map_cons, List.map_cons, List.map_nil, cutWaiting_cons, cutWaiting_sounding (d := u) itemA' rfl, last]
  rw [inSplit.period_closes open' live due rejoin stop ends sounds (waiting_not_sounding waits) (both.trans cut) rfl rfl
    (y := { x with phase := .closing, wantFill := false, items := [a] })
    ⟨inSplit.state, rfl, inSplit.plan, inSplit.held, inSplit.brk, inSplit.window, inSplit.last, inSplit.timer⟩ rfl]
  rfl

end

end Desk
end Sys2Proof.Machine

/-! A split that airs and ends settled (O29). -/

namespace Sys2Proof.Machine

namespace Desk
variable {e : Env} {d : Desk} {x : Split} {slot : Fin 16} {q : FrameNo}

/-! ### The end of a split (R90, R95) -/

/-- The fill item of deck A and the split ended, before the channel leaves SPLIT. -/
def splitEnded (e : Env) (d : Desk) (x : Split) (slot : Fin 16) (q : FrameNo) (r : Record) : Desk :=
  { ch := { d.ch with deckA := freedDeck d.ch.deckA }
    holds := put d.holds d.ch.deckA.cart (d.holds.get d.ch.deckA.cart - 1)
    out := d.out ++ [e.fillItem (some x.breakNo) slot q d.ch.deckA, r] }

/-- R69 keeps the pending announce and leaves the window. -/
theorem leaveInsert_keeps {t : Desk} (noCandidate : t.candidateDeck = none) :
    (t.leaveInsert e).ch.window = none ∧ (t.leaveInsert e).ch.pending = t.ch.pending := by
  by_cases good : e.present = true ∧ e.broken t.ch.settings = false
  · rw [leaveInsert_pass noCandidate good]
    exact ⟨rfl, rfl⟩
  · rw [leaveInsert_fallback good]
    exact ⟨rfl, rfl⟩

section
variable (inSplit : d.InSplit x) (airs : d.AirsFill slot q) (onlyA : d.ch.onlyA)
include inSplit airs onlyA

theorem InSplit.periodEnds_ends {reason : Reason} {position frames : FrameNo} {t : Desk}
    (ends : ∀ r : Desk, r.ch.split = some x → r.splitEnds e = r.endSplit e x reason position frames)
    (leaves : ((d.splitEnded e x slot q (e.breakEnd x.breakNo reason position frames)).leaveInsert e).processPending e = t)
    (window : t.ch.window = none) : d.periodEnds e = t := by
  obtain ⟨r, released, is, ended⟩ := airs.ends (e := e) (idle_not_sounding onlyA.1) (lookAtHead_noWindow e _ inSplit.window)
  have same : r.ch.split = some x ∧ r.ch.brk = none := by
    rcases is with rfl | rfl <;> exact ⟨inSplit.split, inSplit.brk⟩
  have record : (d.fillEnded e slot q).breakEnded e x.breakNo reason position frames =
      d.splitEnded e x slot q (e.breakEnd x.breakNo reason position frames) := by
    change ({ ch := _, holds := _, out := (d.out ++ [e.fillItem (d.ch.split.map (·.breakNo)) slot q d.ch.deckA]) ++ _ } : Desk) = _
    rw [inSplit.split, List.append_assoc]
    rfl
  unfold periodEnds
  rw [released, r.breakEnds_none e same.2, ends r same.1]
  unfold endSplit
  rw [ended, record, leaves, t.windowEnds_none e window]

/-- R69 follows where nothing is pending. -/
theorem InSplit.period_ends {reason : Reason} {position frames : FrameNo}
    (ends : ∀ r : Desk, r.ch.split = some x → r.splitEnds e = r.endSplit e x reason position frames) (pending : d.ch.pending = none) :
    d.period e = (d.splitEnded e x slot q (e.breakEnd x.breakNo reason position frames)).goesOn e := by
  let t := d.splitEnded e x slot q (e.breakEnd x.breakNo reason position frames)
  obtain ⟨window, kept⟩ := leaveInsert_keeps (e := e) (t := t)
    (t.candidateDeck_none (not_candidate (idle_not_waiting rfl)) (not_candidate (idle_not_waiting onlyA.1)))
  exact period_leavesInsert
    (inSplit.periodEnds_ends airs onlyA ends (processPending_none (kept.trans pending)) window) rfl onlyA.1 inSplit.plan inSplit.held
    inSplit.timer

/-- R73: a pending announce that is late by then, in PASS. -/
theorem InSplit.period_endsLate {reason : Reason} {position frames : FrameNo} {w : Announce}
    (ends : ∀ r : Desk, r.ch.split = some x → r.splitEnds e = r.endSplit e x reason position frames) (pending : d.ch.pending = some w)
    (fresh : d.ch.lastTaken ≠ some w.breakNo) (good : e.present = true ∧ e.broken d.ch.settings = false)
    (late : isAfter (w.start + w.length) (e.pos + 8) = false) :
    d.period e =
      { ch := { d.ch with
          state := .pass, split := none, pending := none, fill := { d.ch.fill with wait := false }, deckA := freedDeck d.ch.deckA }
        holds := put d.holds d.ch.deckA.cart (d.holds.get d.ch.deckA.cart - 1)
        out := d.out ++ [e.fillItem (some x.breakNo) slot q d.ch.deckA, e.breakEnd x.breakNo reason position frames,
          { e.noted .cueIgnored e.pos with reason := some .cueLate, breakNo := some w.breakNo, detail := some w.start }] } := by
  let t := d.splitEnded e x slot q (e.breakEnd x.breakNo reason position frames)
  let v : Desk := { t.left with ch := { t.left.ch with state := .pass, pending := none } }
  let y := v.cueIgnored e .cueLate (some w.breakNo) (some w.start)
  have candidate : t.candidateDeck = none :=
    t.candidateDeck_none (not_candidate (idle_not_waiting rfl)) (not_candidate (idle_not_waiting onlyA.1))
  have leaves : (t.leaveInsert e).processPending e = y := by
    have judged : v.judgeFresh e w = y := by
      have fresh' : v.ch.FreshCue w.breakNo :=
        ⟨fun p has => absurd (inSplit.plan.symm.trans has) nofun, fun _ has => absurd has nofun, fun _ has => absurd has nofun, fresh⟩
      rw [judgeFresh_timing (d := v) fresh' nofun nofun inSplit.held (stopInHand_none (d := v) rfl inSplit.plan)]
      exact judgeTiming_late late
    have left : t.leaveInsert e = _ := leaveInsert_pass candidate good
    exact (processPending_some (a := w) (by rw [left]; exact pending)).trans ((congrArg (fun u : Desk =>
      judgeFresh e w { u with ch := { u.ch with pending := none } }) left).trans judged)
  have ended : d.periodEnds e = y := inSplit.periodEnds_ends airs onlyA ends leaves rfl
  have feed : y.feedTest e = y := y.feedTest_good e rfl good.2
  have starts : y.starts e = y := starts_notWaiting (d := y) rfl (idle_not_waiting onlyA.1) rfl
  rw [Desk.period_eq ended ((periodOpens_feed (d := y) inSplit.plan inSplit.held).trans feed)
    (y.periodFades_none e inSplit.plan inSplit.held rfl rfl rfl) (y.splitExhausted_none e rfl) starts inSplit.timer,
    y.serviceAs_pass e _ rfl ⟨inSplit.plan, inSplit.held⟩]
  have contexts : y.ch = { d.ch with
      state := .pass, split := none, pending := none, fill := { d.ch.fill with wait := false }, deckA := freedDeck d.ch.deckA } := by
    change ({ d.ch with
      state := .pass, split := none, brk := none, window := none, lastRing := none, pending := none
      fill := { d.ch.fill with wait := false }, deckA := freedDeck d.ch.deckA } : Channel) = _
    rw [← inSplit.brk]
    have window := inSplit.window
    have last := inSplit.last
    simp only [window, last]
  have out : y.out = d.out ++ [e.fillItem (some x.breakNo) slot q d.ch.deckA, e.breakEnd x.breakNo reason position frames,
      { e.noted .cueIgnored e.pos with reason := some .cueLate, breakNo := some w.breakNo, detail := some w.start }] :=
    List.append_assoc _ _ _
  rw [← contexts, ← out]
  rfl

end

end Desk

/-- Settles O29: the end of a split with a pending announce or none; its items exhausted; its closing fade. -/
theorem splitAirsAndEnds : Obligations.SplitAirsAndEnds := by
  refine ⟨?_, ?_⟩
  · intro e d x slot q w c state split plan held brk window last timer pending fresh live present good late item sounds ramp start onlyA ended
    have inSplit : d.InSplit x := ⟨state, split, plan, held, brk, window, last, timer⟩
    have airs : d.AirsFill slot q := .plain item sounds ramp start
    exact ⟨fun rejoin => inSplit.period_endsLate airs onlyA (fun r has => Desk.splitEnds_rejoins has live rejoin) pending fresh
        ⟨present, good⟩ late,
      fun rejoin stop => inSplit.period_endsLate airs onlyA (fun r has => Desk.splitEnds_stops has live rejoin stop) pending fresh
        ⟨present, good⟩ late⟩
  · intro e d x c stop left within state split plan held brk window last timer pending live
    have inSplit : d.InSplit x := ⟨state, split, plan, held, brk, window, last, timer⟩
    refine ⟨?_, ?_, ?_⟩
    · intro phase items early rejoin stops ends
      refine ⟨fun a b => ⟨fun short => inSplit.period_pads phase items early rejoin stops ends a b short,
        fun long => inSplit.period_calls phase items early rejoin stops ends a b long⟩, fun slot onlyA item waits => ⟨fun short => ?_, fun long => ?_⟩⟩
      · intro k back
        rw [inSplit.period_padsOver phase items early rejoin stops ends onlyA item waits short]
        rw [Desk.giveUp_inSplit (d := d.setSplit { x with phase := .pad, wantFill := false }) rfl item]
        have pass : (if back then Split.passAt slot { x with phase := .pad, wantFill := false } else { x with phase := .pad, wantFill := false }) =
            { x with
              phase := .pad, wantFill := false, pass := if back then slot else x.pass
              exhausted := if back then false else x.exhausted } := by
          split <;> rfl
        exact congrArg (fun y => ({ d with
          holds := put d.holds k.cart (d.holds.get k.cart - 1)
          ch := { c with
            deckA := freedDeck k, split := some y
            fill := { c.fill with wait := false, cursor := if k.rangeMark = true then c.fill.cursor else slot } } } : Desk)) pass
      · exact inSplit.period_follows phase items early rejoin stops ends onlyA item waits long
    · intro open' due rejoin stops ends sounds deckA
      refine ⟨fun items onlyA => ?_, fun a b items itemA itemB waits part distinct => ?_⟩
      · rw [inSplit.period_closes open' live due rejoin stops ends sounds (Desk.idle_not_sounding onlyA.1)
          (t := d.splitFading x (stop - e.pos).toNat) (y := { x with phase := .closing, wantFill := false })
          (by rw [items]; rfl) rfl (Desk.idle_not_waiting onlyA.1)
          ⟨state, rfl, plan, held, brk, window, last, timer⟩ rfl]
        rfl
      · intro z holds single result
        have ref : b.ref = ⟨b.ref.index, .a⟩ := by rw [← part]
        exact inSplit.period_closesCut open' live due rejoin stops ends sounds items itemA (itemB.trans (by rw [← ref])) waits ref distinct holds
          single rfl
    · intro slot q item sounds ramp start onlyA ended
      have airs : d.AirsFill slot q := .plain item sounds ramp start
      exact ⟨fun rejoin => inSplit.period_ends airs onlyA (fun r has => Desk.splitEnds_rejoins has live rejoin) pending,
        fun rejoin stops => inSplit.period_ends airs onlyA (fun r has => Desk.splitEnds_stops has live rejoin stops) pending⟩

end Sys2Proof.Machine

/-! Fill chosen in LOCAL, and the end of a window (R66, R67). -/

namespace Sys2Proof.Machine.Desk

variable {e : Env} {d : Desk} {w : WindowCtx}

/-! ### Fill where the ring gives nothing (R67) -/

/-- A choice for an IDLE deck either waits or loads a slot. -/
theorem chooseFill_cases {id : DeckId} {mode : StartMode} (idle : d.idleDeck = some id) (none' : d.candidateDeck = none)
    (split : d.ch.split = none) (plan : d.ch.plan = none) :
    d.chooseFill e mode = { d with ch := { d.ch with fill := { d.ch.fill with wait := true } } } ∨
      ∃ s, d.chooseFill e mode =
        ((d.takeHold (d.ch.fill.slots.get s)).markChosen s).load e id (.fill s) (d.ch.fill.slots.get s) mode := by
  rw [chooseFill_eq idle none' (scanSlots_plain split plan)]
  cases d.ch.fill.fullPass.find? (d.slotGranted e) with
  | none => exact .inl rfl
  | some s => exact .inr ⟨s, rfl⟩

/-- The head gives a window no item. -/
theorem loadWindowItem_none {fuel : Nat} (pending : d.pendingB = none) (loader : d.headEntry.owner = .loader) :
    d.loadWindowItem e fuel = (d, false) := by
  have single : d.takeSingly = none := if_neg (by rw [loader]; nofun)
  have next : d.nextWindowItem = none := by
    unfold nextWindowItem
    rw [pending, single]
    cases (d.openItems [d.ch.head]).find? (fun r => !d.onDeck r) <;> rfl
  cases fuel with
  | zero => rfl
  | succ fuel =>
    unfold loadWindowItem
    rw [next]
    exact ite_self _

theorem localNext_rests (opening : Bool) (candidate : d.candidateDeck.isSome = true) (pending : d.pendingB = none) :
    d.localNext e opening = d := by
  refine if_pos ?_
  rw [candidate, pending]
  rfl

section
variable (pending : d.pendingB = none) (loader : d.headEntry.owner = .loader) (noCandidate : d.candidateDeck = none)
include pending loader noCandidate

theorem localNext_noItem (opening : Bool) : d.localNext e opening =
    if d.ch.fill.wait = true then d else d.chooseFill e (d.openingMode (opening && !d.ringWaiting)) := by
  have other : decide (d.headEntry.owner = .channel) = false := by
    rw [loader]
    rfl
  unfold localNext
  rw [noCandidate, loadWindowItem_none pending loader]
  dsimp only
  rw [other, Bool.or_false]
  rfl

variable (busy : d.ch.deckA.state ≠ .idle) (idle : d.ch.deckB.state = .idle) (empty : d.ch.deckB.ringItem = none)
  (split : d.ch.split = none) (plan : d.ch.plan = none) (wait : d.ch.fill.wait = false)
include busy idle empty split plan wait

/-- R67, R103: one fill item is chosen, to follow what deck A holds. -/
theorem localNext_twice {opening : Bool} (beside : (opening && !d.ringWaiting) = false) :
    (d.localNext e opening).localNext e opening = d.chooseFill e .following := by
  have mode : d.openingMode (opening && !d.ringWaiting) = .following := by
    rw [beside, openingMode_false]
    exact if_neg fun both => busy both.1
  have once : d.localNext e opening = d.chooseFill e .following := by
    rw [localNext_noItem pending loader noCandidate, if_neg (ne_of_eq_of_ne wait Bool.false_ne_true), mode]
  have free : d.idleDeck = some .b := idleDeck_of (by rw [if_neg busy]; exact ⟨idle, rfl⟩)
  rw [once]
  rcases chooseFill_cases (e := e) (mode := .following) free noCandidate split plan with waits | ⟨s, loaded⟩
  · let t : Desk := { d with ch := { d.ch with fill := { d.ch.fill with wait := true } } }
    rw [waits]
    exact (localNext_noItem (d := t) pending loader noCandidate opening).trans (if_pos rfl)
  · rw [loaded]
    let t := ((d.takeHold (d.ch.fill.slots.get s)).markChosen s).load e .b (.fill s) (d.ch.fill.slots.get s) .following
    have candidate : t.candidateDeck.isSome = true := by
      unfold candidateDeck
      split <;> rfl
    have pending' : t.pendingB = none := (pendingB_congr (d := d) (t := t) rfl rfl fun r => by
      have onB : (t.ch.deckB.ringItem == some r) = (d.ch.deckB.ringItem == some r) := by
        rw [empty]
        rfl
      unfold onDeck
      rw [onB]
      rfl).trans pending
    exact localNext_rests (d := t) opening candidate pending'

end

theorem serviceLocal_open {opening : Bool} (window : d.ch.window = some w) (open' : w.ends = none) :
    d.serviceLocal e opening = (d.localNext e opening).localNext e opening := by
  unfold serviceLocal
  rw [window]
  exact if_neg (by rw [open']; exact Bool.false_ne_true)

theorem serviceLocal_closing {opening : Bool} (window : d.ch.window = some w) (closing : w.ends.isSome = true) :
    d.serviceLocal e opening = d := by
  unfold serviceLocal
  rw [window]
  exact if_pos closing

theorem pendingB_none (last : d.ch.lastRing = none) : d.pendingB = none := by
  unfold pendingB
  rw [last]

/-- No item B is left of an entry that has but the one. -/
theorem pendingB_single {i : Fin 128} (last : d.ch.lastRing = some ⟨i, .a⟩) (single : (d.entry i).itemB.cart = 0) : d.pendingB = none := by
  unfold pendingB
  rw [last]
  refine if_neg ?_
  have absent : (d.item ⟨i, .b⟩).present = false := decide_eq_false (not_not.mpr single)
  rw [absent]
  exact Bool.false_ne_true

/-! ### The closing fade (R66) -/

/-- R66: the point at which a window ends that closes at P. -/
def closingPoint (e : Env) (d : Desk) (k : FrameNo) : FrameNo :=
  if e.pos = k - BitVec.ofNat 32 d.ch.settings.fade then k else e.pos + BitVec.ofNat 32 d.ch.settings.fade

/-- The window closing, what sounds on deck A fading. -/
def windowFading (e : Env) (d : Desk) (w : WindowCtx) (k : FrameNo) : Desk := { d with ch := { d.ch with
  window := some { w with ends := some (closingPoint e d k) }, deckA := closedDeck d.ch.settings.fade d.ch.deckA } }

section
variable (last : d.ch.lastRing = none) (live : e.live = true) (sounds : d.ch.deckA.sounding = true) {k : FrameNo}
  (open' : w.ends = none) (closes : w.closes = some k) (due : atOrAfter e.pos (k - BitVec.ofNat 32 d.ch.settings.fade) = true)
include last live sounds open' closes due

/-- R66: no ring item waits. -/
theorem windowCloses_due (window : d.ch.window = some w) (quiet : d.ch.deckB.sounding = false) (noRing : d.ch.deckB.ringItem = none) :
    d.windowCloses e = ((windowFading e d w k).giveUpCandidate).noFillWait := by
  obtain ⟨opens, closes', ends⟩ := w
  dsimp only at closes open'
  subst closes open'
  let t : Desk := { d with ch := { d.ch with window := some { opens := opens, closes := some k, ends := some (closingPoint e d k) } } }
  let u := windowFading e d { opens := opens, closes := some k, ends := none } k
  have closed : t.closeAll d.ch.settings.fade = u := by
    have first : t.closeDeck d.ch.settings.fade .a = u := closeDeck_sounding (d := t) _ (id := .a) sounds
    unfold closeAll
    rw [first]
    exact closeDeck_quiet (d := u) _ (id := .b) quiet
  have items : t.windowItems = [] := by
    have none' (id : DeckId) : (match (t.deck id).waiting, (t.deck id).ringItem with
        | true, some r => [r]
        | _, _ => ([] : List ItemRef)) = [] := by
      cases id with
      | a => rw [show (t.deck .a).waiting = false from sounding_not_waiting sounds]
      | b =>
        rw [show (t.deck .b).ringItem = none from noRing]
        cases (t.deck .b).waiting <;> rfl
    unfold windowItems
    rw [pendingB_none (d := t) last, List.append_nil]
    exact List.flatMap_eq_nil_iff.mpr fun id _ => none' id
  have cut : (t.closeAll d.ch.settings.fade).cutWaiting e .cutOff t.windowItems = u := by
    rw [closed, items]
    rfl
  have may : (true && e.live && atOrAfter e.pos (k - frames d.ch.settings.fade)) = true := by
    rw [live, show atOrAfter e.pos (k - frames d.ch.settings.fade) = true from due]
    rfl
  unfold windowCloses
  rw [window]
  exact (if_pos may).trans (congrArg (fun u : Desk => u.giveUpCandidate.noFillWait) cut)

end

/-- R66: the closing fade at P, by what is left of the window once a candidate is given up. -/
theorem InLocal.period_closes (inLocal : d.InLocal w) (last : d.ch.lastRing = none) (live : e.live = true)
    (sounds : d.ch.deckA.sounding = true) {k : FrameNo} (open' : w.ends = none) (closes : w.closes = some k)
    (due : atOrAfter e.pos (k - BitVec.ofNat 32 d.ch.settings.fade) = true) (ends : d.noneEnds) (quiet : d.ch.deckB.sounding = false)
    (noRing : d.ch.deckB.ringItem = none) {t : Desk} (gives : (windowFading e d w k).giveUpCandidate = t)
    (rests : t.ch.deckA.waiting = false ∧ t.ch.deckB.waiting = false)
    (inLocal' : t.InLocal { w with ends := some (closingPoint e d k) }) : d.period e = t.noFillWait := by
  have ended : d.periodEnds e = d := periodEnds_window (d.releases_none e ends) inLocal.brk inLocal.split (windowEnds_open inLocal.window open')
  have closed : d.windowCloses e = t.noFillWait := by
    rw [windowCloses_due last live sounds open' closes due inLocal.window quiet noRing, gives]
  rw [period_inLocal ended inLocal closed inLocal'.split (starts_notWaiting (d := t.noFillWait) rests.1 rests.2 inLocal'.brk) inLocal'.timer
    inLocal'.state]
  exact serviceLocal_closing (d := t.noFillWait) inLocal'.window rfl

/-! ### The end of a window (R66) -/

theorem lookAtHead_closing (window : d.ch.window = some w) (closing : w.ends.isSome = true) : d.lookAtHead e = d := by
  unfold lookAtHead
  rw [window]
  refine if_neg ?_
  rw [Option.isNone_eq_false_iff.mpr closing]
  exact Bool.false_ne_true

/-- R66: what sounds ends, and the channel leaves LOCAL by R69. -/
theorem InLocal.period_ends {slot : Fin 16} {q : FrameNo} (inLocal : d.InLocal w) (live : e.live = true) (ends : w.ends = some e.pos)
    (airs : d.AirsFill slot q) (onlyA : d.ch.onlyA) :
    d.period e = ({ d.fillEnded e slot q with out := (d.fillEnded e slot q).out ++ [e.noted .windowEnd e.pos] } : Desk).goesOn e := by
  let t : Desk := { d.fillEnded e slot q with out := (d.fillEnded e slot q).out ++ [e.noted .windowEnd e.pos] }
  obtain ⟨r, released, is, ended⟩ := airs.ends (e := e) (idle_not_sounding onlyA.1)
    (lookAtHead_closing inLocal.window (by rw [ends]; rfl))
  have same : r.ch.window = some w ∧ r.ch.brk = none ∧ r.ch.split = none := by
    rcases is with rfl | rfl <;> exact ⟨inLocal.window, inLocal.brk, inLocal.split⟩
  obtain ⟨window, brk, split⟩ := same
  have leaves : r.windowEnds e = t.leaveInsert e := by
    have point : r.ch.window.bind (·.ends) = some e.pos := by
      rw [window, Option.bind_some, ends]
    have may : (e.live && decide (e.pos = e.pos)) = true := by
      rw [live, decide_eq_true rfl]
      rfl
    unfold windowEnds
    rw [point]
    refine (if_pos may).trans ?_
    rw [ended]
    rfl
  exact period_leavesInsert (t := t) (periodEnds_window released brk split leaves) rfl onlyA.1 inLocal.plan inLocal.held inLocal.timer

end Sys2Proof.Machine.Desk

/-! A window prepared, and opened at O (R64). -/

namespace Sys2Proof.Machine.Desk

variable {e : Env} {d : Desk} {h : HeldWindow}

/-- A window is held and nothing else is planned or airs. -/
structure HoldsWindow (d : Desk) (h : HeldWindow) : Prop where
  held : d.ch.held = some h
  plan : d.ch.plan = none
  split : d.ch.split = none
  brk : d.ch.brk = none
  window : d.ch.window = none
  timer : d.ch.timer = none

/-! ### The window prepared (R64, first step) -/

theorem windowPrimes_due (held : d.ch.held = some h) (stage : h.stage = .waiting) (due : atOrAfter e.pos (h.opens - 8) = true) :
    d.windowPrimes e = d.prepareWindow e := by
  have may : (decide (h.stage = .waiting) && atOrAfter e.pos (h.opens - frames Config.primeLead)) = true := by
    rw [decide_eq_true stage]
    exact due
  unfold windowPrimes
  rw [held]
  exact if_pos may

theorem windowOpens_later (held : d.ch.held = some h) (later : e.pos ≠ h.opens) : d.windowOpens e = d := by
  unfold windowOpens opensNow
  rw [held]
  exact if_neg (by simp [later])

theorem opensWaiting_later (held : d.ch.held = some h) (later : e.pos ≠ h.opens) : d.opensWaiting e = false := by
  unfold opensWaiting opensNow
  rw [held]
  simp [later]

/-- An output period in PASS at which a window is prepared. -/
theorem HoldsWindow.period_prepares {t : Desk} {k : HeldWindow} (holds : d.HoldsWindow h) (state : d.ch.state = .pass)
    (good : e.broken d.ch.settings = false) (later : e.pos ≠ h.opens) (ends : d.noneEnds) (primes : d.windowPrimes e = t)
    (holds' : t.HoldsWindow k) (state' : t.ch.state = .pass) (serves : t.serviceHeld e false k = t) : d.period e = t := by
  have opens : d.periodOpens e = d := by
    unfold periodOpens
    rw [d.splitStarts_none e holds.plan, windowOpens_later holds.held later, d.feedTest_good e state good]
  have fades : d.periodFades e = t := by
    unfold periodFades
    rw [d.planPrimes_none e holds.plan, primes, t.splitCloses_none e holds'.split, t.breakCloses_none e holds'.brk,
      t.windowCloses_none e holds'.window]
  rw [period_eq (d.periodEnds_none e ends holds.brk holds.split holds.window) opens fades (t.splitExhausted_none e holds'.split)
    (t.starts_none e (mayStart_pass state' .a) (mayStart_pass state' .b) (t.reachedItems_none holds'.brk)) holds'.timer,
    opensWaiting_later holds.held later]
  unfold serviceAs
  rw [state', holds'.plan, holds'.held]
  exact serves

/-- A choice of fill keeps the rest of the channel. -/
theorem chooseFill_holds {mode : StartMode} {id : DeckId} (holds : d.HoldsWindow h) (idle : d.idleDeck = some id) (none' : d.candidateDeck = none) :
    (d.chooseFill e mode).HoldsWindow h ∧ (d.chooseFill e mode).ch.state = d.ch.state := by
  rcases chooseFill_cases (e := e) (mode := mode) idle none' holds.split holds.plan with waits | ⟨s, loaded⟩
  · rw [waits]
    exact ⟨⟨holds.held, holds.plan, holds.split, holds.brk, holds.window, holds.timer⟩, rfl⟩
  · have split : (((d.takeHold (d.ch.fill.slots.get s)).markChosen s).load e id (.fill s) (d.ch.fill.slots.get s) mode).ch.split = none := by
      rw [markChosen_noSplit (d := d.takeHold (d.ch.fill.slots.get s)) holds.split]
      cases id <;> exact holds.split
    rw [loaded]
    cases id
    · exact ⟨⟨holds.held, holds.plan, split, holds.brk, holds.window, holds.timer⟩, rfl⟩
    · exact ⟨⟨holds.held, holds.plan, split, holds.brk, holds.window, holds.timer⟩, rfl⟩

section
variable (holds : d.HoldsWindow h) (state : d.ch.state = .pass) (good : e.broken d.ch.settings = false) (later : e.pos ≠ h.opens)
  (stage : h.stage = .waiting) (due : atOrAfter e.pos (h.opens - 8) = true) (a : d.ch.deckA.state = .idle) (b : d.ch.deckB.state = .idle)
include holds state good later stage due a b

/-- R64: a fill item is called for where the ring gives none. -/
theorem HoldsWindow.period_calls (loader : d.headEntry.owner = .loader) {called : Desk} (is : ({ d with ch := { d.ch with
      held := some { h with stage := .call }, fill := { d.ch.fill with wait := false } } } : Desk).chooseFill e .named = called) :
    d.period e = if called.ch.fill.wait = true then called
      else { called with ch := { called.ch with held := some { h with stage := .fill } } } := by
  let v : Desk := { d with ch := { d.ch with held := some { h with stage := .call }, fill := { d.ch.fill with wait := false } } }
  have idle : v.idleDeck = some .a := idleDeck_a (d := v) a
  have noCandidate : v.candidateDeck = none := v.candidateDeck_none (not_candidate (idle_not_waiting a)) (not_candidate (idle_not_waiting b))
  have holdsV : v.HoldsWindow { h with stage := .call } := ⟨rfl, holds.plan, holds.split, holds.brk, holds.window, holds.timer⟩
  obtain ⟨_, _, loads⟩ := chooseFill_candidateDeck (e := e) (mode := .named) idle noCandidate (scanSlots_plain holdsV.split holdsV.plan)
  obtain ⟨kept, state'⟩ := chooseFill_holds (e := e) (mode := .named) holdsV idle noCandidate
  rw [is] at loads kept state'
  have calls : d.windowPrimes e = v.chooseCalled e := by
    have silent : d.fillSounds = false := by
      unfold fillSounds
      rw [idle_not_sounding a, idle_not_sounding b]
      rfl
    have stages : (d.setStage .call).noFillWait = v := by
      unfold setStage
      rw [holds.held]
      rfl
    rw [windowPrimes_due holds.held stage due]
    refine (if_neg (by rw [loader]; nofun)).trans ((if_neg (ne_of_eq_of_ne silent Bool.false_ne_true)).trans ?_)
    rw [stages]
  have chosen : v.chooseCalled e = if called.candidateDeck.isSome then called.noFillCalled else called := by
    rw [← is]
    exact if_neg Bool.false_ne_true
  by_cases waits : called.ch.fill.wait = true
  · rw [if_pos waits]
    refine holds.period_prepares state good later (noneEnds_quiet (quiet_idle a b)) ?_ kept (state'.trans state) (if_pos waits)
    rw [calls, chosen, if_neg fun loaded => loads.mp loaded waits]
  · rw [if_neg waits]
    let t : Desk := { called with ch := { called.ch with held := some { h with stage := .fill } } }
    have answered : called.noFillCalled = t := by
      unfold noFillCalled
      rw [kept.held, kept.plan, Option.map_none, ← kept.plan]
      rfl
    refine holds.period_prepares (t := t) (k := { h with stage := .fill }) state good later (noneEnds_quiet (quiet_idle a b)) ?_
      ⟨rfl, kept.plan, kept.split, kept.brk, kept.window, kept.timer⟩ (state'.trans state) rfl
    rw [calls, chosen, if_pos (loads.mpr waits), answered]

omit holds state good later stage due a b in
theorem prepareRing_waits (otherwise : Desk → Desk) (waits : d.ringWaiting = true) : d.prepareRing e otherwise = d := by
  unfold prepareRing
  exact if_pos waits

/-- R64: the head's item is loaded. -/
theorem HoldsWindow.period_loads {r : Run} {y : CartLength} (away : d.onDeck ⟨d.ch.head, .a⟩ = false) (pending : d.pendingB = none)
    (takes : HeadTakes e d r y) :
    d.period e = (({ d with ch := { d.ch with held := some { h with stage := .ring } } } : Desk).headLoaded r y).noFillWait := by
  let v : Desk := { d with ch := { d.ch with held := some { h with stage := .ring } } }
  have takesV : HeadTakes e v r y := ⟨takes.owner, takes.present, takes.fresh, takes.ready, takes.room, takes.run, takes.size⟩
  have silent : v.ringWaiting = false := by
    unfold ringWaiting
    rw [show v.ch.deckA.waiting = false from idle_not_waiting a, show v.ch.deckB.waiting = false from idle_not_waiting b]
    rfl
  have prepares : v.prepareRing e (prepareNoRing e) = (v.headLoaded r y).noFillWait := by
    refine (if_neg (ne_of_eq_of_ne silent Bool.false_ne_true)).trans ?_
    rw [show ringFuel = 257 + 1 from rfl, loadWindowItem_head takesV away pending a]
    rfl
  have primes : d.windowPrimes e = (v.headLoaded r y).noFillWait := by
    have stages : d.setStage .ring = v := by
      unfold setStage
      rw [holds.held]
      rfl
    rw [windowPrimes_due holds.held stage due]
    refine (if_pos takes.owner).trans ?_
    rw [stages, prepares]
  have waits : ((v.headLoaded r y).noFillWait).ringWaiting = true := rfl
  have serves : ((v.headLoaded r y).noFillWait).serviceHeld e false { h with stage := .ring } = (v.headLoaded r y).noFillWait :=
    prepareRing_waits (setStage .fill) waits
  exact holds.period_prepares (k := { h with stage := .ring }) state good later (noneEnds_quiet (quiet_idle a b)) primes
    ⟨rfl, holds.plan, holds.split, holds.brk, holds.window, holds.timer⟩ state serves

end

/-! ### The window opened (R64, second step) -/

/-- The channel in LOCAL at O, before what it prepared starts. -/
def windowOpened (e : Env) (d : Desk) (h : HeldWindow) : Desk :=
  { d with
    ch := { d.ch with
      state := .loc, held := none, window := some { opens := h.opens, closes := h.closes, ends := none }
      fill := { d.ch.fill with wait := false } }
    out := d.out ++ e.noted .windowStart h.opens :: if d.ch.state = .fallback then [e.noted .fallbackEnd e.pos] else [] }

section
variable (holds : d.HoldsWindow h) (state : d.ch.state = .pass ∨ d.ch.state = .fallback) (live : e.live = true) (now : e.pos = h.opens)
include holds state live now

omit holds in
theorem opensNow_at : d.opensNow e h = true := by
  unfold opensNow
  rw [live, decide_eq_true now]
  rcases state with state | state <;> rw [state] <;> rfl

theorem HoldsWindow.windowOpens : d.windowOpens e =
    if d.ringWaiting = true then ((windowOpened e d h).cutFill e).giveUpCandidate else (windowOpened e d h).candidateFollows := by
  have opens := opensNow_at state live now
  have opened : (if d.ch.state = .fallback then
      ((({ d with ch := { d.ch with held := none, window := some { opens := h.opens, closes := h.closes, ends := none } } } : Desk).setState .loc).record
        e (note .windowStart h.opens)).record e (note .fallbackEnd e.pos)
      else (({ d with ch := { d.ch with held := none, window := some { opens := h.opens, closes := h.closes, ends := none } } } : Desk).setState .loc).record
        e (note .windowStart h.opens)) = windowOpened e d h := by
    unfold windowOpened
    by_cases fallback : d.ch.state = .fallback
    · rw [if_pos fallback, if_pos fallback]
      exact congrArg (fun out => ({ ch := _, holds := d.holds, out := out } : Desk)) (List.append_assoc _ _ _)
    · rw [if_neg fallback, if_neg fallback]
      rfl
  unfold Desk.windowOpens
  rw [holds.held]
  refine (if_pos opens).trans ?_
  dsimp only
  rw [opened]
  rfl

/-- An output period at which the window opens. -/
theorem HoldsWindow.period_opens {opened started : Desk} {w : WindowCtx} (ends : d.noneEnds) (opens : d.windowOpens e = opened)
    (inLocal : opened.InLocal w) (stays : StaysOpen e opened w.closes) (starts : opened.starts e = started) (timer : started.ch.timer = none)
    (state' : started.ch.state = .loc) : d.period e = started.serviceLocal e d.ch.fill.wait := by
  have retry : d.opensWaiting e = d.ch.fill.wait := by
    unfold Desk.opensWaiting
    rw [holds.held, Option.any_some, opensNow_at state live now, Bool.and_true]
  have feed : d.periodOpens e = opened := by
    unfold periodOpens
    rw [d.splitStarts_none e holds.plan, opens, opened.feedTest_other e (by rw [inLocal.state]; nofun) (by rw [inLocal.state]; nofun)]
  rw [period_eq (d.periodEnds_none e ends holds.brk holds.split holds.window) feed
    (inLocal.fades.trans (windowCloses_early inLocal.window stays)) (opened.splitExhausted_none e inLocal.split) starts timer, retry,
    serviceAs_loc _ state']

end

end Sys2Proof.Machine.Desk

/-! What a window starts as it opens (R64, R104). -/

namespace Sys2Proof.Machine

theorem FillTable.noWait {t : FillTable} (wait : t.wait = false) : ({ t with wait := false } : FillTable) = t := by
  rw [← wait]

namespace Desk
variable {e : Env} {d : Desk} {h : HeldWindow} {w : WindowCtx}

section
variable (holds : d.HoldsWindow h) (state : d.ch.state = .pass ∨ d.ch.state = .fallback) (live : e.live = true) (now : e.pos = h.opens)
  (ends : d.noneEnds)
include holds state live now ends

/-- R64: the prepared ring item starts, and fill that follows it is chosen. -/
theorem HoldsWindow.period_startsRing {t : Desk} {i : Fin 128} (wait : d.ch.fill.wait = false) (opens : d.windowOpens e = t) (inLocal : t.InLocal w)
    (open' : w.ends = none) (stays : StaysOpen e t w.closes) (item : t.ch.deckA.item = some (.ring ⟨i, .a⟩))
    (waits : t.ch.deckA.waiting = true) (other : t.ch.deckB.state = .idle) (empty : t.ch.deckB.ringItem = none)
    (last : t.ch.lastRing = some ⟨i, .a⟩) (single : (t.entry i).itemB.cart = 0) (first : (t.entry i).start = none)
    (loader : t.headEntry.owner = .loader) (noWait : t.ch.fill.wait = false) : d.period e = (begunRing e t i).chooseFill e .following := by
  let u := begunRing e t i
  have starts : t.starts e = u :=
    starts_ringLocal item waits (idle_not_sounding other) inLocal open' (idle_not_waiting other) first
  have entry : u.entry i = { t.entry i with start := some e.pos } := get_put_same _ _ _
  have loader' : u.headEntry.owner = .loader := by
    by_cases same : t.ch.head = i
    · change (u.entry t.ch.head).owner = _
      rw [same, entry, ← same]
      exact loader
    · exact (congrArg Entry.owner (get_put_other _ _ _ _ (Ne.symm same))).trans loader
  rw [holds.period_opens state live now ends opens inLocal stays starts inLocal.timer inLocal.state, wait,
    serviceLocal_open (d := u) inLocal.window open']
  exact localNext_twice (d := u) (pendingB_single last (by rw [entry]; exact single)) loader'
    (u.candidateDeck_none (not_candidate rfl) (not_candidate (idle_not_waiting other))) nofun other empty inLocal.split inLocal.plan noWait rfl

/-- R64: the prepared candidate starts, and fill that follows it is chosen. -/
theorem HoldsWindow.period_startsFill {t : Desk} {slot : Fin 16} (wait : d.ch.fill.wait = false) (opens : d.windowOpens e = t.followed)
    (inLocal : t.InLocal w) (open' : w.ends = none) (stays : StaysOpen e t w.closes) (item : t.ch.deckA.item = some (.fill slot))
    (waits : t.ch.deckA.waiting = true) (onlyA : t.ch.onlyA) (last : t.ch.lastRing = none) (loader : t.headEntry.owner = .loader)
    (noWait : t.ch.fill.wait = false) : d.period e = (begunCandidate e t).chooseFill e .following := by
  have may : t.fillMayStart = true := by
    unfold fillMayStart
    rw [inLocal.state, inLocal.window, Option.any_some, open']
    rfl
  have starts : t.followed.starts e = begunCandidate e t := starts_candidate item waits onlyA.1 inLocal.brk may
  have inLocal' : t.followed.InLocal w :=
    ⟨inLocal.state, inLocal.window, inLocal.plan, inLocal.held, inLocal.split, inLocal.brk, inLocal.timer⟩
  rw [holds.period_opens state live now ends opens inLocal' stays starts inLocal.timer inLocal.state, wait,
    serviceLocal_open (d := begunCandidate e t) inLocal.window open']
  exact localNext_twice (d := begunCandidate e t) (pendingB_none last) loader
    (candidateDeck_none _ (not_candidate rfl) (not_candidate (idle_not_waiting onlyA.1))) nofun onlyA.1 (ringItem_none onlyA.2) inLocal.split
    inLocal.plan noWait rfl

/-- R104: a choice that waited is made at O, where the head's item is loaded instead. -/
theorem HoldsWindow.period_retries {t : Desk} {r : Run} {y : CartLength} (wait : d.ch.fill.wait = true) (opens : d.windowOpens e = t)
    (inLocal : t.InLocal w) (open' : w.ends = none) (stays : StaysOpen e t w.closes) (a : t.ch.deckA.state = .idle)
    (noItem : t.ch.deckA.item = none) (onlyA : t.ch.onlyA) (last : t.ch.lastRing = none) (takes : HeadTakes e t r y)
    (single : t.headEntry.itemB.cart = 0) (loader : (t.entry (t.headEntry.successor t.ch.head)).owner = .loader) :
    d.period e = ((t.headLoaded r y).noFillWait).chooseFill e .following := by
  let u := (t.headLoaded r y).noFillWait
  have starts : t.starts e = t := starts_notWaiting (idle_not_waiting a) (idle_not_waiting onlyA.1) inLocal.brk
  have candidate : t.candidateDeck = none :=
    t.candidateDeck_none (not_candidate (idle_not_waiting a)) (not_candidate (idle_not_waiting onlyA.1))
  have first : t.localNext e true = u :=
    localNext_head takes (onDeck_noRing (ringItem_none noItem) (ringItem_none onlyA.2)) (pendingB_none last) a true candidate
  have other : t.ch.head ≠ t.headEntry.successor t.ch.head := by
    intro same
    rw [← same] at loader
    exact absurd (loader.symm.trans takes.owner) nofun
  have loader' : u.headEntry.owner = .loader := (congrArg Entry.owner (get_put_other _ _ _ _ other)).trans loader
  have entry : (u.entry t.ch.head).itemB.cart = 0 := (congrArg (fun x : Entry => x.itemB.cart) (get_put_same _ _ _)).trans single
  have pending : u.pendingB = none := pendingB_single (d := u) rfl entry
  have noCandidate : u.candidateDeck = none :=
    u.candidateDeck_none rfl (not_candidate (idle_not_waiting onlyA.1))
  rw [holds.period_opens state live now ends opens inLocal stays starts inLocal.timer inLocal.state, wait,
    serviceLocal_open (d := t) inLocal.window open', first, localNext_noItem (d := u) pending loader' noCandidate]
  have mode : u.openingMode (true && !u.ringWaiting) = .following := by
    have waits : u.ringWaiting = true := rfl
    rw [waits]
    exact (openingMode_false u).trans (if_neg fun both => absurd both.1 nofun)
  rw [mode]
  exact if_neg Bool.false_ne_true

end

end Desk
end Sys2Proof.Machine

/-! A window prepared, opened, closed and ended: settled (O31). -/

namespace Sys2Proof.Machine

/-- The window in hand once h has opened. -/
def HeldWindow.opened (h : HeldWindow) : WindowCtx := { opens := h.opens, closes := h.closes, ends := none }

namespace Desk
variable {e : Env} {d : Desk} {h : HeldWindow}

/-- R64: the prepared ring item cuts in over the fill item of deck B. -/
def windowCut (e : Env) (d : Desk) (h : HeldWindow) (slot : Fin 16) (q : FrameNo) : Desk :=
  { ch := { (windowOpened e d h).ch with deckB := freedDeck d.ch.deckB }
    holds := put d.holds d.ch.deckB.cart (d.holds.get d.ch.deckB.cart - 1)
    out := (windowOpened e d h).out ++ [e.fillItem none slot q d.ch.deckB] }

section
variable (holds : d.HoldsWindow h)
include holds

theorem HoldsWindow.inLocal : (windowOpened e d h).InLocal h.opened :=
  ⟨rfl, rfl, holds.plan, rfl, holds.split, holds.brk, holds.timer⟩

theorem HoldsWindow.cuts {slot : Fin 16} {q : FrameNo} {i : Fin 128} (item : d.ch.deckA.item = some (.ring ⟨i, .a⟩))
    (waits : d.ch.deckA.waiting = true) (itemB : d.ch.deckB.item = some (.fill slot)) (sounds : d.ch.deckB.sounding = true)
    (plain : d.ch.deckB.ramp = none) (start : d.ch.deckB.fillStart = some q) :
    ((windowOpened e d h).cutFill e).giveUpCandidate = windowCut e d h slot q := by
  let t := windowOpened e d h
  have cut : t.cutFill e = windowCut e d h slot q := by
    refine (cutFill_one (d := t) .b itemB sounds (.inl (waiting_not_sounding waits))).trans ?_
    refine (endDeck_fillNatural (d := t) (id := .b) itemB (fun _ has => absurd (plain.symm.trans has) nofun) start).trans ?_
    rw [show t.ch.split = none from holds.split]
    rfl
  rw [cut]
  exact giveUpCandidate_none (windowCut e d h slot q) (ring_not_candidate (k := d.ch.deckA) item) rfl

end

/-- Where a ring item is prepared and nothing sounds, the window opens over the network. -/
theorem opens_overNetwork {i : Fin 128} (item : d.ch.deckA.item = some (.ring ⟨i, .a⟩)) (waits : d.ch.deckA.waiting = true)
    (other : d.ch.deckB.state = .idle) : ((windowOpened e d h).cutFill e).giveUpCandidate = windowOpened e d h := by
  have cut : (windowOpened e d h).cutFill e = windowOpened e d h := cutFill_none fun id => by
    cases id
    · exact .inl (waiting_not_sounding (k := d.ch.deckA) waits)
    · exact .inl (idle_not_sounding other)
  rw [cut]
  exact giveUpCandidate_none (windowOpened e d h) (ring_not_candidate (k := d.ch.deckA) item) (not_candidate (idle_not_waiting other))

theorem ringWaiting_a {r : ItemRef} (item : d.ch.deckA.item = some (.ring r)) (waits : d.ch.deckA.waiting = true) : d.ringWaiting = true := by
  unfold ringWaiting
  rw [waits, ringItem_of item]
  rfl

theorem ringWaiting_none (a : d.ch.deckA.ringItem = none) (b : d.ch.deckB.waiting = false) : d.ringWaiting = false := by
  unfold ringWaiting
  rw [a, b]
  exact (Bool.or_false _).trans (Bool.and_false _)

end Desk

/-- Settles O31: a window prepared, opened by what it prepared, closed and ended. -/
theorem windowOpensAndCloses : Obligations.WindowOpensAndCloses := by
  refine ⟨?_, ?_⟩
  · intro e d h c held plan split brk window timer live
    have holds : d.HoldsWindow h := ⟨held, plan, split, brk, window, timer⟩
    refine ⟨?_, ?_, ?_⟩
    · intro stage state good due later a noItem onlyA last z k
      refine ⟨fun loader => ?_, fun r y owner present fresh ready room run size => ?_⟩
      · intro called
        exact holds.period_calls state good later stage due a onlyA.1 loader rfl
      · exact holds.period_loads state good later stage due a onlyA.1
          (Desk.onDeck_noRing (Desk.ringItem_none noItem) (Desk.ringItem_none onlyA.2)) (Desk.pendingB_none last)
          ⟨owner, present, fresh, ready, room, run, size⟩
    · intro now state stays loader wait ends open' records
      have fill := FillTable.noWait wait
      have opens := holds.windowOpens state live now
      refine ⟨fun i stage item waits last single first => ?_, fun slot stage last item waits onlyA => ?_⟩
      · intro ring
        refine ⟨fun onlyA => ?_, fun slot q itemB sounds ramp start => ?_⟩
        · rw [if_pos (Desk.ringWaiting_a item waits), Desk.opens_overNetwork item waits onlyA.1] at opens
          rw [holds.period_startsRing state live now ends wait opens holds.inLocal rfl stays item waits onlyA.1 (Desk.ringItem_none onlyA.2) last single
            first loader rfl]
          unfold Desk.begunRing Desk.windowOpened
          rw [fill]
          rfl
        · rw [if_pos (Desk.ringWaiting_a item waits), holds.cuts item waits itemB sounds ramp start] at opens
          rw [holds.period_startsRing (w := h.opened) state live now ends wait opens
            ⟨rfl, rfl, plan, rfl, split, brk, timer⟩ rfl stays item waits rfl rfl last single first loader rfl]
          unfold Desk.begunRing Desk.windowCut Desk.windowOpened
          rw [fill]
          rfl
      · have candidate : (Desk.windowOpened e d h).candidateDeck = some .a :=
          Desk.candidateDeck_of (d := Desk.windowOpened e d h) (id := .a) item waits (Desk.idle_not_waiting onlyA.1)
        rw [if_neg (ne_of_eq_of_ne (Desk.ringWaiting_none (Desk.ringItem_fill item) (Desk.idle_not_waiting onlyA.1)) Bool.false_ne_true),
          Desk.candidateFollows_a candidate] at opens
        rw [holds.period_startsFill state live now ends wait opens holds.inLocal rfl stays item waits onlyA last loader rfl]
        unfold Desk.begunCandidate Desk.windowOpened
        rw [fill]
        rfl
    · intro r y now state stays stage wait last a noItem onlyA z k owner present fresh single loader ready room run size
      have opens := holds.windowOpens state live now
      have candidate : (Desk.windowOpened e d h).candidateDeck = none := Desk.candidateDeck_none _
        (Desk.not_candidate (Desk.idle_not_waiting a)) (Desk.not_candidate (Desk.idle_not_waiting onlyA.1))
      have follows : (Desk.windowOpened e d h).candidateFollows = Desk.windowOpened e d h := by
        unfold Desk.candidateFollows
        rw [candidate]
      rw [if_neg (ne_of_eq_of_ne (Desk.ringWaiting_none (Desk.ringItem_none noItem) (Desk.idle_not_waiting onlyA.1)) Bool.false_ne_true),
        follows] at opens
      exact holds.period_retries state live now (Desk.noneEnds_quiet (Desk.quiet_idle a onlyA.1)) wait opens holds.inLocal rfl stays a noItem onlyA
        last ⟨owner, present, fresh, ready, room, run, size⟩ single loader
  · intro e d w c f state window held plan split brk last timer live sounds
    have inLocal : d.InLocal w := ⟨state, window, plan, held, split, brk, timer⟩
    refine ⟨fun k open' closes due ends => ?_, fun slot q ends item ramp start onlyA => ?_⟩
    · intro point fading
      refine ⟨fun onlyA => ?_, fun slot item waits => ?_⟩
      · exact inLocal.period_closes last live sounds open' closes due ends (Desk.idle_not_sounding onlyA.1) (Desk.ringItem_none onlyA.2)
          (Desk.giveUpCandidate_none (Desk.windowFading e d w k) rfl (Desk.not_candidate (Desk.idle_not_waiting onlyA.1)))
          ⟨rfl, Desk.idle_not_waiting onlyA.1⟩ ⟨state, rfl, plan, held, split, brk, timer⟩
      · intro k'
        have candidate : (Desk.windowFading e d w k).candidateDeck = some .b :=
          Desk.candidateDeck_of (d := Desk.windowFading e d w k) (id := .b) item waits rfl
        have gives := (Desk.giveUpCandidate_of candidate).trans (Desk.giveUp_eq (t := Desk.windowFading e d w k) (id := .b) item split)
        exact inLocal.period_closes last live sounds open' closes due ends (Desk.waiting_not_sounding waits) (Desk.ringItem_fill item) gives
          ⟨rfl, rfl⟩ ⟨state, rfl, plan, held, split, brk, timer⟩
    · rw [inLocal.period_ends live ends (.plain item sounds ramp start) onlyA]
      unfold Desk.fillEnded
      rw [split]
      exact congrArg (fun out => Desk.goesOn e { ch := _, holds := _, out := out }) (List.append_assoc _ _ _)

end Sys2Proof.Machine

/-! A split begun at S (R82, R83). -/

namespace Sys2Proof.Machine

/-- R82: the split that plan p becomes in channel c, which rejoins at its end. -/
def begunSplit (c : Channel) (p : Plan) (items : List PlanItem) (phase : SplitPhase) (want : Bool) : Split :=
  { breakNo := p.breakNo, start := p.start, stop := p.stop, length := p.length, planned := p.planned, items := items
    phase := phase, rejoin := none, fadeStart := p.stop - BitVec.ofNat 32 c.settings.fade, pass := c.fill.start
    exhausted := false, wantFill := want }

/-- R82: the channel in SPLIT. -/
def Channel.beginsSplit (c : Channel) (p : Plan) (x : Split) : Channel :=
  { c with state := .split, plan := none, lastTaken := some p.breakNo, split := some x, fill := { c.fill with wait := false } }

/-- R82: the BREAK_START record of a split. -/
def Env.splitStart (e : Env) (p : Plan) : Record :=
  { e.noted .breakStart p.start with
    breakNo := some p.breakNo, frames := some p.length, detail := some (BitVec.ofNat 32 p.planned) }

namespace Desk
variable {e : Env} {d : Desk} {p : Plan}

/-- Plan p is primed on a channel in PASS or FALLBACK without any other context, and the fade of its split lies after S, which is P. -/
structure AtStart (e : Env) (d : Desk) (p : Plan) : Prop where
  live : e.live = true
  now : e.pos = p.start
  fade : isAfter (p.stop - BitVec.ofNat 32 d.ch.settings.fade) p.start = true
  state : d.ch.state = .pass ∨ d.ch.state = .fallback
  plan : d.ch.plan = some p
  held : d.ch.held = none
  quiet : d.ch.quiet

/-- The records before those of the split's start (R82). -/
def leftFallback (d : Desk) (e : Env) (p : Plan) : Desk :=
  { d with out := d.out ++ if d.ch.state = .fallback then [e.noted .fallbackEnd p.start] else [] }

/-- R82: the split begun with these items. -/
def splitOpened (e : Env) (d : Desk) (p : Plan) (items : List PlanItem) : Desk :=
  { d with ch := d.ch.beginsSplit p (begunSplit d.ch p items .items false), out := d.out ++ [e.splitStart p] }

/-- R82, R83, by what the cut of the fill item leaves, and the candidate. -/
theorem AtStart.startSplit (at' : AtStart e d p) {t u : Desk} (cut : (d.leftFallback e p).cutFill e = t)
    (gives : (if t.emptyPlan = true then t else t.giveUpCandidate) = u) (settings : u.ch.settings = d.ch.settings) :
    d.startSplit e p = p.items.foldl (settleProvisional e p.breakNo) (splitOpened e u p
      (p.items.filter (fun x => decide (x.inclusion = .included) && decide ((u.item x.ref).result = .none)))) := by
  have leaves : (if d.ch.state = .fallback then d.record e (note .fallbackEnd p.start) else d) = d.leftFallback e p := by
    unfold leftFallback
    by_cases fallback : d.ch.state = .fallback
    · rw [if_pos fallback, if_pos fallback]
      rfl
    · rw [if_neg fallback, if_neg fallback, List.append_nil]
  have fade : fadeStartOf u.ch.settings.fade p.start p.stop = p.stop - BitVec.ofNat 32 u.ch.settings.fade := by
    refine if_neg (ne_of_eq_of_ne ?_ Bool.false_ne_true)
    refine isAfter_asymm ?_
    rw [settings]
    exact at'.fade
  unfold Desk.startSplit
  rw [leaves]
  dsimp only
  rw [cut, gives]
  unfold splitOpened begunSplit
  rw [← fade]
  rfl

theorem AtStart.splitStarts (at' : AtStart e d p) : d.splitStarts e = d.startSplit e p := by
  have may : (e.live && decide (e.pos = p.start) && (decide (d.ch.state = .pass) || decide (d.ch.state = .fallback))) = true := by
    rw [at'.live, decide_eq_true at'.now]
    rcases at'.state with state | state <;> rw [state] <;> rfl
  unfold Desk.splitStarts
  rw [at'.plan]
  exact if_pos may

/-- An output period at which the split starts. -/
theorem AtStart.period_starts (at' : AtStart e d p) {opened exhausted started : Desk} {items : List PlanItem} {y : Split} (ends : d.noneEnds)
    (opens : d.startSplit e p = opened) (frame : opened.InSplit (begunSplit d.ch p items .items false))
    (exhausts : opened.splitExhausted e = exhausted) (starts : exhausted.starts e = started) (inSplit : started.InSplit y) :
    d.period e = started.serviceSplit e false y := by
  obtain ⟨split, brk, window, last, timer⟩ := at'.quiet
  have early : atOrAfter e.pos (begunSplit d.ch p items .items false).fadeStart = false := by
    have after := at'.fade
    have other : e.pos ≠ p.stop - BitVec.ofNat 32 d.ch.settings.fade := by
      rw [at'.now]
      intro same
      rw [← same] at after
      simp [isAfter] at after
    unfold atOrAfter
    rw [Bool.or_eq_false_iff, at'.now]
    exact ⟨decide_eq_false (at'.now ▸ other), isAfter_asymm after⟩
  have opened' : d.periodOpens e = opened := by
    unfold periodOpens
    rw [at'.splitStarts, opens, opened.windowOpens_none e frame.held,
      opened.feedTest_other e (by rw [frame.state]; nofun) (by rw [frame.state]; nofun)]
  have fades : opened.periodFades e = opened := by
    unfold periodFades
    rw [opened.planPrimes_none e frame.plan, opened.windowPrimes_none e frame.held, splitCloses_early frame.split (.inr early),
      opened.breakCloses_none e frame.brk, opened.windowCloses_none e frame.window]
  rw [Desk.period_eq (d.periodEnds_none e ends brk split window) opened' fades exhausts starts inSplit.timer, inSplit.serviceAs,
    d.opensWaiting_unheld e at'.held]

/-! ### A split without items (R83, R86, R87) -/

section
variable (at' : AtStart e d p) (items : p.items = [])
include at' items

/-- The split of a plan without items begins in the place of what the cut leaves. -/
theorem AtStart.startSplit_empty {t : Desk} (cut : (d.leftFallback e p).cutFill e = t) (plan : t.ch.plan = some p)
    (settings : t.ch.settings = d.ch.settings) : d.startSplit e p = splitOpened e t p [] := by
  have empty : t.emptyPlan = true := emptyPlan_of plan (by rw [items]; nofun)
  rw [at'.startSplit cut (if_pos empty) settings, items]
  rfl

/-- R87: padding, where nothing waits. -/
theorem AtStart.period_pads {t : Desk} (ends : d.noneEnds) (short : signedDiff p.stop p.start ≤ (d.ch.settings.pad : Int))
    (cut : (d.leftFallback e p).cutFill e = t) {k : Deck} (rest : t.ch = { d.ch with deckA := k }) (a : k.waiting = false)
    (onlyA : d.ch.onlyA) :
    d.period e = { t with ch := t.ch.beginsSplit p (begunSplit d.ch p [] .pad false), out := t.out ++ [e.splitStart p] } := by
  obtain ⟨split, brk, window, last, timer⟩ := at'.quiet
  let u : Desk := { t with ch := t.ch.beginsSplit p (begunSplit d.ch p [] .pad false), out := t.out ++ [e.splitStart p] }
  have opens : d.startSplit e p = splitOpened e t p [] := at'.startSplit_empty items cut (by rw [rest]; exact at'.plan) (by rw [rest])
  have frame : (splitOpened e t p []).InSplit (begunSplit d.ch p [] .items false) := by
    unfold splitOpened
    rw [rest]
    exact ⟨rfl, rfl, rfl, at'.held, brk, window, last, timer⟩
  have waits : u.ch.deckA.waiting = false ∧ u.ch.deckB.waiting = false := by
    change t.ch.deckA.waiting = false ∧ t.ch.deckB.waiting = false
    rw [rest]
    exact ⟨a, idle_not_waiting onlyA.1⟩
  have exhausts : (splitOpened e t p []).splitExhausted e = u := by
    have remains : signedDiff p.stop e.pos ≤ ((splitOpened e t p []).ch.settings.pad : Int) := by
      change signedDiff p.stop e.pos ≤ (t.ch.settings.pad : Int)
      rw [rest, at'.now]
      exact short
    rw [splitExhausted_pads frame.split rfl rfl remains,
      giveUpCandidate_none ((splitOpened e t p []).setSplit { begunSplit d.ch p [] .items false with phase := .pad, wantFill := false })
        (not_candidate waits.1) (not_candidate waits.2)]
    rfl
  have inSplit : u.InSplit (begunSplit d.ch p [] .pad false) :=
    ⟨rfl, rfl, rfl, frame.held, frame.brk, frame.window, frame.last, frame.timer⟩
  rw [at'.period_starts ends opens frame exhausts (starts_notWaiting waits.1 waits.2 inSplit.brk) inSplit]
  exact serviceSplit_rests _ (.inl rfl)

/-- R86: the candidate starts at S, and fill that follows it is chosen. -/
theorem AtStart.period_follows {slot : Fin 16} (long : (d.ch.settings.pad : Int) < signedDiff p.stop p.start) (onlyA : d.ch.onlyA)
    (item : d.ch.deckA.item = some (.fill slot)) (waits : d.ch.deckA.waiting = true) :
    d.period e = ({ d.leftFallback e p with
      ch := { d.ch.beginsSplit p (begunSplit d.ch p [] .fill false) with
        deckA := begunFill e d.ch d.ch.deckA, stamp := d.ch.stamp + 1, lastStart := d.ch.stamp }
      out := (d.leftFallback e p).out ++ [e.splitStart p] } : Desk).chooseFill e .following := by
  obtain ⟨split, brk, window, last, timer⟩ := at'.quiet
  let t := d.leftFallback e p
  let u := splitOpened e t p []
  have silent (id : DeckId) : (d.deck id).sounding = false := by
    cases id
    · exact waiting_not_sounding waits
    · exact idle_not_sounding onlyA.1
  have cut : t.cutFill e = t := cutFill_none (d := t) fun id => .inl (silent id)
  have opens : d.startSplit e p = u := at'.startSplit_empty items cut at'.plan rfl
  have frame : u.InSplit (begunSplit d.ch p [] .items false) := ⟨rfl, rfl, rfl, at'.held, brk, window, last, timer⟩
  let v := u.setSplit (begunSplit d.ch p [] .fill false)
  have candidate (x : Desk) (decks : x.ch.deckA = d.ch.deckA ∧ x.ch.deckB = d.ch.deckB) : x.candidateDeck = some .a :=
    candidateDeck_of (d := x) (id := .a) (slot := slot) (by rw [show x.deck .a = _ from decks.1]; exact item)
      (by rw [show x.deck .a = _ from decks.1]; exact waits) (by rw [show x.deck (otherDeck .a) = _ from decks.2]; exact idle_not_waiting onlyA.1)
  have exhausts : u.splitExhausted e = v.followed := by
    have remains : (u.ch.settings.pad : Int) < signedDiff p.stop e.pos := by
      rw [at'.now]
      exact long
    exact (splitExhausted_follows frame.split rfl rfl remains (candidate u ⟨rfl, rfl⟩)).trans (candidateFollows_a (candidate v ⟨rfl, rfl⟩))
  have starts : v.followed.starts e = begunCandidate e v := starts_candidate item waits onlyA.1 brk rfl
  have inSplit : (begunCandidate e v).InSplit (begunSplit d.ch p [] .fill false) :=
    ⟨rfl, rfl, rfl, at'.held, brk, window, last, timer⟩
  have busy : (begunCandidate e v).ch.deckA.state ≠ .idle := show DeckState.playing ≠ .idle from nofun
  rw [at'.period_starts (noneEnds_quiet silent) opens frame exhausts starts inSplit]
  exact (serviceSplit_fill rfl rfl busy).trans (if_neg Bool.false_ne_true)

end

end Desk
end Sys2Proof.Machine

/-! A split begun with an item (R82, R85). -/

namespace Sys2Proof.Machine.Desk

variable {e : Env} {d : Desk} {p : Plan}

/-! ### A provisional result settled (R82) -/

/-- Item B of entry i has its result, without a hold, beside an open item A. -/
def settledSecond (e : Env) (d : Desk) (i : Fin 128) (number : BreakNo) : Desk :=
  { d with
    ch := { d.ch with
      ring := put d.ch.ring i { d.entry i with itemB := { (d.entry i).itemB with provisional := false } }
      split := d.ch.split.map (Split.without ⟨i, .b⟩) }
    out := d.out ++ [{ e.ringItem e.pos number i (d.entry i).itemB (d.entry i).itemB.result 0 with ring := some (i, some .b) }] }

section
variable {i : Fin 128}

theorem settleProvisional_final {x : PlanItem} (final : (d.item x.ref).provisional = false) (number : BreakNo) :
    d.settleProvisional e number x = d := if_neg (ne_of_eq_of_ne final Bool.false_ne_true)

theorem settleProvisional_second {x : PlanItem} (ref : x.ref = ⟨i, .b⟩) (provisional : (d.entry i).itemB.provisional = true)
    (free : (d.entry i).itemB.held = false) (present : (d.entry i).itemA.cart ≠ 0) (fresh : (d.entry i).itemA.result = .none) (number : BreakNo) :
    d.settleProvisional e number x = settledSecond e d i number := by
  let z : Entry := { d.entry i with itemB := { (d.entry i).itemB with provisional := false } }
  let t := settledSecond e d i number
  have entry : t.entry i = z := get_put_same _ _ _
  have awaits : ¬ (t.entry i).allFinal = true := by
    rw [entry]
    unfold Entry.allFinal Item.present Item.final
    rw [show z.itemA = (d.entry i).itemA from rfl, decide_eq_true present, fresh]
    exact Bool.false_ne_true
  have unheld : (d.setItem ⟨i, .b⟩ { d.item ⟨i, .b⟩ with result := (d.item ⟨i, .b⟩).result, provisional := false }).unhold ⟨i, .b⟩ =
      d.setEntry i z := by
    refine (if_neg ?_).trans rfl
    rw [d.item_setItem]
    exact ne_of_eq_of_ne free Bool.false_ne_true
  have settled : d.settle e ⟨i, .b⟩ (d.item ⟨i, .b⟩).result (some (number, e.pos, 0)) = if (t.entry i).allFinal then t.returnEntry i else t := by
    unfold settle
    dsimp only
    rw [unheld]
    rfl
  have provisional' : (d.item x.ref).provisional = true := by
    rw [ref]
    exact provisional
  refine (if_pos provisional').trans ?_
  rw [ref, settled, if_neg awaits]

end

/-! ### The last item of a split begins (R85) -/

theorem splitExhausted_left {x : Split} (split : d.ch.split = some x) (items : x.items ≠ []) : d.splitExhausted e = d := by
  unfold splitExhausted
  rw [split]
  refine if_neg ?_
  rw [List.isEmpty_eq_false_iff.mpr items, Bool.and_false]
  exact Bool.false_ne_true

/-- R85: fill is called for where the remainder after the last item exceeds the pad limit. -/
theorem callFill_last {x : Split} {id : DeckId} (split : d.ch.split = some x) (phase : x.phase = .items)
    (sound : x.items.all (fun p => d.sounds p.ref) = true) (want : x.wantFill = false) : d.callFill e id =
      d.setSplit { x with
        wantFill := decide (signedDiff x.stop (e.pos + BitVec.ofNat 32 (d.deck id).due) > (d.ch.settings.pad : Int)) } := by
  unfold callFill
  rw [split]
  dsimp only
  by_cases late : signedDiff x.stop (e.pos + BitVec.ofNat 32 (d.deck id).due) > (d.ch.settings.pad : Int)
  · rw [decide_eq_true late]
    exact if_pos (by rw [decide_eq_true phase, sound]; exact decide_eq_true late)
  · have same : d.setSplit { x with wantFill := false } = d := by
      unfold setSplit
      rw [← want, ← split]
    rw [decide_eq_false late, same]
    exact if_neg (by rw [decide_eq_true phase, sound]; exact ne_of_eq_of_ne (decide_eq_false late) Bool.false_ne_true)

/-- R84, R85: where the one item left is on a deck, the candidate alone may be chosen. -/
theorem serviceSplit_items {x : Split} {y : PlanItem} (phase : x.phase = .items) (items : x.items = [y]) (on : d.onDeck y.ref = true)
    (wait : d.ch.fill.wait = false) : d.serviceSplit e false x = if x.wantFill = true then d.chooseFill e .named else d := by
  have loads : d.loadPlanned e [y] = d := by
    unfold loadPlanned
    rw [nextPlanned_loaded on]
  have all : d.loadPlannedAll e [y] = d := by
    unfold loadPlannedAll
    rw [loads, loads]
  unfold serviceSplit
  rw [phase, items]
  dsimp only
  rw [all, nextPlanned_loaded on, wait]
  cases x.wantFill <;> rfl

/-! ### A split of one item (R82, R85) -/

/-- The plan is of one item included, which waits on deck A, and of item B of its entry, which has its result. -/
structure PlansOne (d : Desk) (p : Plan) (x y : PlanItem) (i : Fin 128) : Prop where
  items : p.items = [x, y]
  included : x.inclusion = .included
  excluded : y.inclusion ≠ .included
  first : x.ref = ⟨i, .a⟩
  second : y.ref = ⟨i, .b⟩
  item : d.ch.deckA.item = some (.ring ⟨i, .a⟩)
  waits : d.ch.deckA.waiting = true
  present : (d.entry i).itemA.cart ≠ 0
  fresh : (d.entry i).itemA.result = .none
  open' : (d.entry i).itemA.provisional = false
  provisional : (d.entry i).itemB.provisional = true
  free : (d.entry i).itemB.held = false
  start : (d.entry i).start = none

/-- The channel in SPLIT at S before the item begins. -/
def itemOpened (e : Env) (d : Desk) (p : Plan) (x : PlanItem) (i : Fin 128) : Desk :=
  { d with
    ch := { d.ch.beginsSplit p (begunSplit d.ch p [x] .items false) with
      ring := put d.ch.ring i { d.entry i with itemB := { (d.entry i).itemB with provisional := false } } }
    out := (d.leftFallback e p).out ++
      [e.splitStart p, { e.ringItem e.pos p.breakNo i (d.entry i).itemB (d.entry i).itemB.result 0 with ring := some (i, some .b) }] }

/-- The item begun at S. -/
def itemBegun (e : Env) (d : Desk) (p : Plan) (x : PlanItem) (i : Fin 128) (want : Bool) : Desk :=
  { itemOpened e d p x i with ch := { (itemOpened e d p x i).ch with
    split := some (begunSplit d.ch p [x] .items want)
    ring := put d.ch.ring i { d.entry i with itemB := { (d.entry i).itemB with provisional := false }, start := some e.pos }
    deckA := begunDeck d.ch d.ch.deckA, stamp := d.ch.stamp + 1, lastStart := d.ch.stamp } }

section
variable {x y : PlanItem} {i : Fin 128} (at' : AtStart e d p) (plans : d.PlansOne p x y i) (onlyA : d.ch.onlyA)
include at' plans onlyA

theorem AtStart.startSplit_one : d.startSplit e p = itemOpened e d p x i := by
  obtain ⟨split, brk, window, last, timer⟩ := at'.quiet
  let t := d.leftFallback e p
  let u := splitOpened e t p [x]
  have cut : t.cutFill e = t := cutFill_none (d := t) fun id => by
    cases id
    · exact .inl (waiting_not_sounding plans.waits)
    · exact .inl (idle_not_sounding onlyA.1)
  have filled : t.emptyPlan = false := by
    unfold emptyPlan Plan.noneIncluded
    rw [show t.ch.plan = some p from at'.plan]
    dsimp only
    rw [plans.items]
    simp [plans.included]
  have gives : (if t.emptyPlan = true then t else t.giveUpCandidate) = t :=
    (if_neg (ne_of_eq_of_ne filled Bool.false_ne_true)).trans
      (giveUpCandidate_none t (ring_not_candidate plans.item) (not_candidate (idle_not_waiting onlyA.1)))
  have kept : p.items.filter (fun x => decide (x.inclusion = .included) && decide ((t.item x.ref).result = .none)) = [x] := by
    have fresh : (t.item x.ref).result = .none := by
      rw [plans.first]
      exact plans.fresh
    rw [plans.items]
    simp [plans.included, plans.excluded, fresh]
  have stays : u.settleProvisional e p.breakNo x = u := settleProvisional_final (by
    rw [plans.first]
    exact plans.open') _
  rw [at'.startSplit cut gives rfl, kept, plans.items, List.foldl_cons, List.foldl_cons, List.foldl_nil, stays,
    settleProvisional_second (d := u) plans.second plans.provisional plans.free plans.present plans.fresh]
  have without : (begunSplit d.ch p [x] .items false).without ⟨i, .b⟩ = begunSplit d.ch p [x] .items false := by
    unfold Split.without begunSplit
    simp [plans.first]
  change ({ u with ch := { u.ch with ring := _, split := some ((begunSplit d.ch p [x] .items false).without ⟨i, .b⟩) }, out := u.out ++ _ } : Desk) = _
  rw [without]
  exact congrArg (fun out => ({ itemOpened e d p x i with out := out } : Desk)) (List.append_assoc _ _ _)

theorem AtStart.begin_one : (itemOpened e d p x i).begin e .a = itemBegun e d p x i
    (decide (signedDiff p.stop (e.pos + BitVec.ofNat 32 d.ch.deckA.due) > (d.ch.settings.pad : Int))) := by
  obtain ⟨split, brk, window, last, timer⟩ := at'.quiet
  let u := itemOpened e d p x i
  let v : Desk := { u with ch := { u.ch with deckA := begunDeck d.ch d.ch.deckA, stamp := d.ch.stamp + 1, lastStart := d.ch.stamp } }
  let w := itemBegun e d p x i false
  have plays : u.play e .a = v := by
    rw [play_eq (d := u) (id := .a) plans.waits, played_ring (k := u.deck .a) plans.item]
    rfl
  have entry : v.entry i = { d.entry i with itemB := { (d.entry i).itemB with provisional := false } } := get_put_same _ _ _
  have marks : v.markStart e i = w := by
    rw [markStart_first (by rw [entry]; exact plans.start), entry]
    exact congrArg (fun ring => ({ w with ch := { w.ch with ring := ring } } : Desk)) (put_put _ _ _ _)
  have sound : (begunSplit d.ch p [x] .items false).items.all (fun p => w.sounds p.ref) = true := by
    have own : w.sounds x.ref = true := by
      unfold Desk.sounds
      rw [show w.ch.deckA.sounding = true from rfl, ringItem_of (k := w.ch.deckA) plans.item, plans.first, beq_self_eq_true]
      rfl
    change (w.sounds x.ref && true) = true
    rw [own]
    rfl
  rw [begin_ring (d := u) (id := .a) plans.item, passBefore_none (d := u) brk, breakBegins_none (d := u) brk]
  change (((u.segueFade ⟨i, .a⟩ .b).play e .a).markStart e i).callFill e .a = _
  rw [segueFade_quiet (d := u) (other := .b) (.inl (idle_not_sounding onlyA.1)), plays, marks,
    callFill_last (d := w) (id := .a) (x := begunSplit d.ch p [x] .items false) rfl rfl sound rfl]
  rfl

/-- R82, R85: the item begins at S, and fill is chosen where the remainder after it is long. -/
theorem AtStart.period_one {late : Bool}
    (is : decide (signedDiff p.stop (e.pos + BitVec.ofNat 32 d.ch.deckA.due) > (d.ch.settings.pad : Int)) = late) :
    d.period e = if late = true then (itemBegun e d p x i late).chooseFill e .named else itemBegun e d p x i late := by
  obtain ⟨split, brk, window, last, timer⟩ := at'.quiet
  let u := itemOpened e d p x i
  let v := itemBegun e d p x i late
  have begins : u.begin e .a = v := (at'.begin_one plans onlyA).trans (by rw [is])
  have silent : u.ch.deckB.sounding = false := idle_not_sounding onlyA.1
  have rests : u.ch.deckB.waiting = false := idle_not_waiting onlyA.1
  have may : u.mayStart .a = true := by
    have cuts : u.ringDue ⟨i, .a⟩ u.ch.deckB = true := if_neg (ne_of_eq_of_ne silent Bool.false_ne_true)
    have state : u.ch.state = .split := rfl
    have phase : u.ch.split = some (begunSplit d.ch p [x] .items false) := rfl
    have items : (begunSplit d.ch p [x] .items false).phase = .items := rfl
    unfold Desk.mayStart ringMayStart
    simp [Desk.deck, Channel.deck, otherDeck, show u.ch.deckA.waiting = true from plans.waits,
      show u.ch.deckA.item = some (.ring ⟨i, .a⟩) from plans.item, rests, state, phase, items, cuts]
  have starts : u.starts e = v := starts_one .a may begins (u.mayStart_notWaiting (id := .b) rests) (v.mayStart_notWaiting (id := .b) rests)
    (u.reachedItems_none brk) (v.reachedItems_none brk)
  have quiet (id : DeckId) : (d.deck id).sounding = false := by
    cases id
    · exact waiting_not_sounding plans.waits
    · exact idle_not_sounding onlyA.1
  have on : v.onDeck x.ref = true := by
    unfold onDeck
    rw [ringItem_of (k := v.ch.deckA) plans.item, plans.first, beq_self_eq_true]
    rfl
  rw [at'.period_starts (noneEnds_quiet quiet) (at'.startSplit_one plans onlyA)
    (show u.InSplit (begunSplit d.ch p [x] .items false) from ⟨rfl, rfl, rfl, at'.held, brk, window, last, timer⟩)
    (splitExhausted_left rfl nofun) starts
    (show v.InSplit (begunSplit d.ch p [x] .items late) from ⟨rfl, rfl, rfl, at'.held, brk, window, last, timer⟩)]
  exact serviceSplit_items rfl rfl on rfl

end

end Sys2Proof.Machine.Desk

/-! A plan primed, and a split begun, settled (O28). -/

namespace Sys2Proof.Machine

/-- The given deck loaded, seen from the channel as it was and as the deck was given. -/
theorem Desk.gaveLoaded_eq {d : Desk} {id : DeckId} {y : Channel} {holds : Vector Nat 1024} (gives : d.ch.givesDeck d.holds id y holds) (plan : Option Plan)
    (k : Deck) : ({ d with ch := { d.ch with plan := plan, fill := { d.ch.fill with wait := false } } } : Desk).gaveLoaded id y holds k =
      { d with
        holds := holds
        ch := ({ y with plan := plan, fill := { y.fill with wait := false }, stamp := d.ch.stamp + 1 } : Channel).setDeck id k } := by
  obtain ⟨_, ⟨_, _, _, rfl, _⟩ | ⟨slot, _, _, _, _, rfl⟩⟩ := gives
  · cases id <;> rfl
  · cases id <;> rfl

/-- Settles O28: a plan of one item primed; a split begun with its item, with padding in the place of a fill item, and with its candidate. -/
theorem splitStarts : Obligations.SplitStarts := by
  refine ⟨?_, ?_⟩
  · intro e d p x r z id y holds c plan unprimed items included fresh run size split gives
    refine ⟨fun early => Desk.planPrimes_early plan early, fun due => ?_⟩
    rw [Desk.planPrimes_due plan unprimed due, Desk.primePlan_one gives rfl rfl rfl split rfl items included fresh run size,
      Desk.gaveLoaded_eq gives]
  · intro e d p c fallbackEnd breakStart split began live now fade state plan primed held quiet onlyA
    have at' : Desk.AtStart e d p := ⟨live, now, fade, state, plan, held, quiet⟩
    refine ⟨?_, fun items short => ⟨fun a noItem => ?_, fun slot item sounds ramp start ends => ?_⟩, fun items long slot item waits => ?_⟩
    · intro x y items included excluded part second item waits i z present freshA openA provisional free start late t
      have first : x.ref = ⟨i, .a⟩ := by rw [← part]
      have plans : d.PlansOne p x y i :=
        ⟨items, included, excluded, first, second, item.trans (by rw [first]), waits, present, freshA, openA, provisional, free, start⟩
      rw [at'.period_one plans onlyA (late := late) (by rw [now])]
      have begun : Desk.itemBegun e d p x i late = t := by
        unfold Desk.itemBegun Desk.itemOpened
        rw [now]
        rfl
      rw [begun]
    · have silent (id : DeckId) : (d.deck id).sounding = false := Desk.quiet_idle a onlyA.1 id
      have cut : (d.leftFallback e p).cutFill e = d.leftFallback e p := Desk.cutFill_none (d := d.leftFallback e p) fun id => .inl (silent id)
      exact at'.period_pads items (Desk.noneEnds_quiet silent) short cut (k := c.deckA) rfl (Desk.idle_not_waiting a) onlyA
    · obtain ⟨q, at''⟩ := Option.isSome_iff_exists.mp start
      have cut : (d.leftFallback e p).cutFill e =
          { ch := { c with deckA := freedDeck c.deckA }
            holds := put d.holds c.deckA.cart (d.holds.get c.deckA.cart - 1)
            out := (d.out ++ fallbackEnd) ++ [e.fillItem none slot q c.deckA] } := by
        refine (Desk.cutFill_one (d := d.leftFallback e p) .a item sounds (.inl (Desk.idle_not_sounding onlyA.1))).trans ?_
        refine (Desk.endDeck_fillNatural (d := d.leftFallback e p) (id := .a) item (fun _ has => absurd (ramp.symm.trans has) nofun) at'').trans ?_
        rw [show (d.leftFallback e p).ch.split = none from quiet.1]
        rfl
      rw [at'.period_pads items ends short cut rfl rfl onlyA, at'', Option.getD_some]
      exact congrArg (fun out => ({ ch := _, holds := _, out := out } : Desk)) (List.append_assoc _ _ _)
    · exact at'.period_follows items long onlyA item waits

end Sys2Proof.Machine
